-- ==== Sys2Proof/Word.lean ====
section
/-! DEFINITION. The words of the two serial protocols (section 10.7) and the plainest arithmetic on whole
numbers (section 0.8). Quantities of the manual (power, energy, minutes, counts) are `Nat`; bit vectors are
used only for the bytes of a frame, its multi-byte fields, and vehicle identities and masks, which the
manual compares bit by bit (R30). -/

namespace Sys2Proof

/-- One byte of a frame (section 10.7). -/
abbrev Byte := BitVec 8

/-- A two-byte field, high byte first (Table 10-5). -/
abbrev U16 := BitVec 16

/-- A three-byte field, high byte first (Table 10-5): energies, vehicle identities, group masks. -/
abbrev U24 := BitVec 24

/-- `⌈a / b⌉` of section 0.8. -/
def ceilDiv (a b : Nat) : Nat := (a + b - 1) / b

end Sys2Proof
end

