-- ==== Sys2Proof/Syntax.lean ====
section
/-! DEFINITION. The commands of the PD48: one constructor for each row of spec/opcode_table.json. An order
carries its tag and the fields of its body (Tables 10-4 and 10-5), a cabinet message the number of its link
and the fields of its body (Table 10-9), an event the number of the unit it happens at (Table 0-2). -/

namespace Sys2Proof

/-- A completed order frame: tag, kind and body bytes (Table 10-6). -/
structure OrderFrame where
  tag  : Byte
  kind : Byte
  body : List Byte
  deriving DecidableEq, Repr

/-- The plan fields that PUT PLAN and PUT PLAN NEXT share, as sent (section 2.5.1). -/
structure PlanOrder where
  kind      : Byte
  identity  : U24
  departure : U16
  target    : U24
  window    : Byte
  power     : U16
  priority  : Byte
  reuse     : Byte
  deriving DecidableEq, Repr

/-- The five fields of SET DEFAULT PLAN, as sent (R44). -/
structure DefaultOrder where
  departure : U16
  target    : U24
  window    : Byte
  power     : U16
  priority  : Byte
  deriving DecidableEq, Repr

/-- The seven settings of SET LINE, as sent, in the order of Table 9-1 (R175). -/
structure LineOrder where
  function    : Byte
  invert      : Byte
  pullUp      : Byte
  edge        : Byte
  drive       : Byte
  blink       : Byte
  outputLevel : Byte
  deriving DecidableEq, Repr

/-- The six enables of SET REPORTING, as sent: for each class a notice and an alarm enable (R164). -/
structure ReportingOrder where
  correctableNotice : Byte
  correctableAlarm  : Byte
  nonfatalNotice    : Byte
  nonfatalAlarm     : Byte
  fatalNotice       : Byte
  fatalAlarm        : Byte
  deriving DecidableEq, Repr

/-- The eight enables of SET NOTICES, as sent, in the order of Table 10-3 (R183). -/
structure NoticeOrder where
  session : Byte
  ready   : Byte
  fault   : Byte
  shed    : Byte
  pass    : Byte
  link    : Byte
  line    : Byte
  narrow  : Byte
  deriving DecidableEq, Repr

/-- One bay block of a STATUS message (section 10.7.3). -/
structure BayBlock where
  presence   : Byte
  identity   : U24
  power      : U16
  battery    : U24
  auxiliary  : U24
  acceptance : U16
  insulation : Byte
  derate     : Byte
  deriving DecidableEq, Repr

/-- The body of a STATUS message: six bay blocks, then four module bytes (Table 10-9). -/
structure StatusMsg where
  bays    : Vector BayBlock 6
  modules : Vector Byte 4
  deriving DecidableEq, Repr

/-- The commands. The docstring of each names its row of spec/opcode_table.json and its rule. -/
inductive Instr where
  /-- POWER_ON_RESET (R1 and the reset rules of every chapter). -/
  | powerOnReset
  /-- SET_CLOCK (R51). -/
  | setClock (tag : Byte) (minute : U16)
  /-- SET_SITE_CEILING (R53). -/
  | setSiteCeiling (tag : Byte) (steps : U16)
  /-- SET_CABINET_CEILING (R54). -/
  | setCabinetCeiling (tag cabinet : Byte) (steps : U16)
  /-- PUT_LIMIT_STEP (R55). -/
  | putLimitStep (tag bank step : Byte) (start limit : U16) (nextStep : Byte)
  /-- SELECT_LIMIT_BANK (R56). -/
  | selectLimitBank (tag bank : Byte)
  /-- SET_CURTAIL_STAGES (R60). -/
  | setCurtailStages (tag : Byte) (limit1 limit2 limit3 : U16)
  /-- SET_METER (R64). -/
  | setMeter (tag : Byte) (whPerPulse : U16)
  /-- SET_MARGIN (R65). -/
  | setMargin (tag : Byte) (steps : U16)
  /-- SET_RESERVE (R64). -/
  | setReserve (tag : Byte) (steps : U16)
  /-- READ_ENVELOPE (R71). -/
  | readEnvelope (tag : Byte)
  /-- PUT_PLAN (R37 to R40). -/
  | putPlan (tag entry : Byte) (fields : PlanOrder)
  /-- SET_PLAN_CURSOR (R41). -/
  | setPlanCursor (tag entry : Byte)
  /-- PUT_PLAN_NEXT (R41). -/
  | putPlanNext (tag : Byte) (fields : PlanOrder)
  /-- RELEASE_PLAN (R42). -/
  | releasePlan (tag entry : Byte)
  /-- READ_PLAN (R43). -/
  | readPlan (tag entry : Byte)
  /-- SET_GROUP_MASK (R45). -/
  | setGroupMask (tag group : Byte) (mask : U24)
  /-- SET_DEFAULT_PLAN (R44). -/
  | setDefaultPlan (tag : Byte) (fields : DefaultOrder)
  /-- READ_SESSION (R27). -/
  | readSession (tag bay : Byte)
  /-- SUSPEND_BAY (R25). -/
  | suspendBay (tag bay : Byte)
  /-- RESUME_BAY (R26). -/
  | resumeBay (tag bay : Byte)
  /-- REALLOCATE (R101). -/
  | reallocate (tag : Byte)
  /-- SET_PERIOD (R78). -/
  | setPeriod (tag : Byte) (seconds : U16)
  /-- READ_READY (R151). -/
  | readReady (tag : Byte)
  /-- CLEAR_READY_OVERFLOW (R152). -/
  | clearReadyOverflow (tag : Byte)
  /-- READ_CABINET (R144). -/
  | readCabinet (tag cabinet : Byte)
  /-- RETRAIN (R143). -/
  | retrain (tag cabinet : Byte)
  /-- READ_FAULTS (R169). -/
  | readFaults (tag : Byte)
  /-- CLEAR_FAULTS (R165). -/
  | clearFaults (tag subject classes : Byte)
  /-- SET_REPORTING (R164). -/
  | setReporting (tag : Byte) (enables : ReportingOrder)
  /-- RESUME_SITE (R168). -/
  | resumeSite (tag : Byte)
  /-- SET_LINE (R175). -/
  | setLine (tag line : Byte) (settings : LineOrder)
  /-- READ_LINES (R176). -/
  | readLines (tag : Byte)
  /-- SET_NOTICES (R183). -/
  | setNotices (tag : Byte) (enables : NoticeOrder)
  /-- READ_STATUS (R184). -/
  | readStatus (tag : Byte)
  /-- RESTART (R185). -/
  | restart (tag : Byte)
  /-- RESTART_TAKES_EFFECT (R185): the last byte of the RESTART reply has been sent. -/
  | restartTakesEffect
  /-- ORDER_UNKNOWN_KIND (R180): a completed order whose kind names no order. -/
  | orderUnknownKind (tag kind : Byte)
  /-- ORDER_FRAME_DROPPED (R179): a frame dropped for its CRC, length, stop bit or a line break. -/
  | orderFrameDropped
  /-- ORDER_BYTE_GAP_TIMEOUT (R179): more than 10 ms passed inside a frame. -/
  | orderByteGapTimeout
  /-- HELD_ORDER_TAKEN (R182). -/
  | heldOrderTaken
  /-- ORDER_LINK_FRAME_SENT (R181): the frame in transmission has been sent to its last byte. -/
  | orderLinkFrameSent
  /-- DESCRIPTOR (R132), from cabinet `cab`: the module numbers it lists. -/
  | descriptor (cab : Nat) (modules : List Byte)
  /-- STATUS (R137, R138). -/
  | status (cab : Nat) (message : StatusMsg)
  /-- PLUG (R139). -/
  | plug (cab : Nat) (position presence : Byte)
  /-- IDENTITY (R139, R3, R6, R7). -/
  | identity (cab : Nat) (position : Byte) (vehicle : U24) (acceptance : U16)
  /-- MODULE_REPORT (R140, R115 to R117). -/
  | moduleReport (cab : Nat) (module result : Byte)
  /-- FAULT_MESSAGE (R140, R159 to R162). -/
  | faultMessage (cab : Nat) (faultClass code subjectKind subjectNumber : Byte)
  /-- CABINET_FRAME_ERROR (R135). -/
  | cabinetFrameError (cab : Nat)
  /-- CABINET_BYTE_GAP_TIMEOUT (R186). -/
  | cabinetByteGapTimeout (cab : Nat)
  /-- CABINET_FRAME_SENT (R186): the frame being sent to the cabinet has ended. -/
  | cabinetFrameSent (cab : Nat)
  /-- MINUTE_EVENT (R50). -/
  | minuteEvent
  /-- IDENTITY_TIMER_EXPIRY (R4). -/
  | identityTimerExpiry (bay : Nat)
  /-- SETTLING_TIMER_EXPIRY (R59). -/
  | settlingTimerExpiry
  /-- METER_WINDOW_EXPIRY (R62). -/
  | meterWindowExpiry
  /-- OVERDRAW_TIMER_EXPIRY (R69). -/
  | overdrawTimerExpiry
  /-- PERIOD_TIMER_EXPIRY (R77). -/
  | periodTimerExpiry
  /-- PASS_COMPLETE (R93). -/
  | passComplete
  /-- RAMP_TIMER_EXPIRY (R119). -/
  | rampTimerExpiry (bay : Nat)
  /-- CONTACTOR_TIMER_EXPIRY (R120). -/
  | contactorTimerExpiry (cab module : Nat)
  /-- PROBE_TIMER_EXPIRY (R131). -/
  | probeTimerExpiry (cab : Nat)
  /-- KEEP_TIMER_EXPIRY (R133). -/
  | keepTimerExpiry (cab : Nat)
  /-- SILENCE_TIMER_EXPIRY (R134, R141). -/
  | silenceTimerExpiry (cab : Nat)
  /-- LOST_HOLD_TIMER_EXPIRY (R136). -/
  | lostHoldTimerExpiry (cab : Nat)
  /-- YARD_PIN_CHANGE (R172): the pin of a line takes a level from outside (`true` is high). -/
  | yardPinChange (line : Nat) (high : Bool)
  /-- LINE_FILTER_EXPIRY (R172). -/
  | lineFilterExpiry (line : Nat)
  /-- ALARM_BLINK_TOGGLE (R174). -/
  | alarmBlinkToggle (line : Nat)
  /-- ORDER_BYTE_RECEIVED (R179). -/
  | orderByteReceived (byte : Byte)
  /-- CABINET_BYTE_RECEIVED (R186). -/
  | cabinetByteReceived (cab : Nat) (byte : Byte)
  deriving DecidableEq, Repr

end Sys2Proof
end

