-- ==== Sys2Proof/Decode.lean ====
section
/-! DEFINITION. The table's words. Every row of spec/opcode_table.json has an empty list of fields and no bits: the
PD48 takes its commands as frames and events, and no word spells one. The frames of the two serial protocols, whose
bytes section 10.7 gives, are read and written in Machine/Operands.lean. -/

namespace Sys2Proof

/-- The command that a word spells by the table's bits: none, since no row gives bits. -/
def decodeTableWord (_nbits _w : Nat) : Option Instr := none

end Sys2Proof
end

