-- ==== Sys2Proof/Config.lean ====
section
/-! DEFINITION. The free values of the model: constants with no body, one for each value that the manual
leaves open while the order that shows it is carried out. Nothing can evaluate them and no proof can lean on
a value of one (notes/assumptions/13.md). -/

namespace Sys2Proof

/-- How a quantity that does not fit a two-byte field is sent. Table 10-5 gives power fields two bytes and
states nothing for a larger value; the measured excess of R68 can be larger. DESIGN CHOICE (log entry 13). -/
opaque Config.unfit16 : Nat → U16

/-- As `Config.unfit16`, for a three-byte field. DESIGN CHOICE (log entry 13). -/
opaque Config.unfit24 : Nat → U24

/-- As `Config.unfit16`, for a one-byte field. DESIGN CHOICE (log entry 13). -/
opaque Config.unfit8 : Nat → Byte

/-- Whether a remaining time of that many ms, which is not a whole number of the unit a reply names, is sent
rounded up. R71 and R144 name tenths and whole seconds with no rounding. DESIGN CHOICE (log entry 13). -/
opaque Config.roundsUp : Nat → Bool

/-- The site limit L that READ ENVELOPE returns while the site ceiling is unset: R66 defines L as a minimum
over the site ceiling. The argument is the minimum of the other two limits. DESIGN CHOICE (log entry 13). -/
opaque Config.limitWhileUnset : Nat → Nat

end Sys2Proof
end

