-- ==== Sys2Proof/Machine/Durations.lean ====
section
/-! DEFINITION. The durations of the manual's timers, in milliseconds. -/

namespace Sys2Proof.Machine

/-- The identity timer starts at 20 s (R2). -/
def identityMs : Nat := 20000
/-- The settling timer starts at 2 s (R59). -/
def settlingMs : Nat := 2000
/-- The meter window is 60 s (R62). -/
def meterWindowMs : Nat := 60000
/-- The overdraw timer starts at 10 s (R68). -/
def overdrawMs : Nat := 10000
/-- The ramp timer starts at 5 s (R113). -/
def rampMs : Nat := 5000
/-- The contactor timer starts at 2 s (Table 5-1). -/
def contactorMs : Nat := 2000
/-- The probe timer of a TRAINING link is 1 s (R131). -/
def probeMs : Nat := 1000
/-- The probe timer of an ABSENT link is 10 s (R131). -/
def absentProbeMs : Nat := 10000
/-- The keep timer is 500 ms (R133). -/
def keepMs : Nat := 500
/-- The silence timer is 2 s (R134, R141). -/
def silenceMs : Nat := 2000
/-- The lost-hold timer is 1 s (R136). -/
def lostHoldMs : Nat := 1000
/-- The filter time of a METER_PULSE line (R172). -/
def meterFilterMs : Nat := 5
/-- The filter time of every other input line (R172). -/
def filterMs : Nat := 20
/-- Each half of a blink lasts 0.5 s (R174). -/
def blinkMs : Nat := 500

end Sys2Proof.Machine
end

