-- ==== Sys2Proof/Machine/State.lean ====
section
/-! DEFINITION. The state of the PD48 as plain data, grouped by the block that owns it (section 0.4), the
reasons a command can stop, and the state right after a power-on reset. INVENTORY.md lists every piece with the
rule that names it. A bank of like items is a `Vector`; its entry 1 is the item the manual numbers 1. -/

namespace Sys2Proof.Machine

/-- A timer: absent while stopped, else the milliseconds left. -/
abbrev Timer := Option Nat

/-! ### Session table (chapter 1) -/

/-- Table 1-2. -/
inductive SessionState where
  | vacant | identifying | active | satisfied | overdue
  deriving DecidableEq, Repr

/-- The four hold reasons of section 1.9. -/
inductive HoldReason where
  | host | fault | link | stop
  deriving DecidableEq, Repr

/-- A set of hold reasons (Table 1-1). -/
structure Holds where
  host  : Bool
  fault : Bool
  link  : Bool
  stop  : Bool
  deriving DecidableEq, Repr

/-- The plan fields that a session copies from an entry or from the default plan (R5). `priority` is class 1. -/
structure Plan where
  departure : Nat
  target    : Nat
  window    : Nat
  power     : Nat
  priority  : Bool
  deriving DecidableEq, Repr

/-- Table 1-1. -/
structure Session where
  state      : SessionState
  serial     : Nat
  identity   : Option U24
  planLink   : Option Nat
  plan       : Plan
  countdown  : Option Nat
  battery    : Nat
  auxiliary  : Nat
  acceptance : Nat
  windowOpen : Bool
  holds      : Holds
  grant      : Nat
  short      : Bool
  preShort   : Bool
  opened     : Nat
  idTimer    : Timer
  deriving DecidableEq, Repr

def Holds.none : Holds := ⟨false, false, false, false⟩

def Plan.zero : Plan := ⟨0, 0, 0, 0, false⟩

/-- The right-hand column of Table 1-1, with the serial given. -/
def Session.vacant (serial : Nat) : Session :=
  { state := .vacant, serial := serial, identity := Option.none, planLink := Option.none, plan := Plan.zero,
    countdown := Option.none, battery := 0, auxiliary := 0, acceptance := 0, windowOpen := false,
    holds := Holds.none, grant := 0, short := false, preShort := false, opened := 0, idTimer := Option.none }

/-! ### Plan table (chapter 2) -/

/-- Table 2-2. `opened` is OPEN. -/
inductive PlanState where
  | free | opened | claimed | spent
  deriving DecidableEq, Repr

inductive PlanKind where
  | exact | group1 | group2 | group3 | group4
  deriving DecidableEq, Repr

/-- The outcome of a session (R20), as a SPENT entry keeps it (section 2.1). -/
structure SessionOutcome where
  bay         : Nat
  identity    : Option U24
  battery     : Nat
  auxiliary   : Nat
  closeMinute : Nat
  targetMet   : Bool
  deriving DecidableEq, Repr

/-- Table 2-1. -/
structure PlanEntry where
  state    : PlanState
  kind     : PlanKind
  identity : U24
  plan     : Plan
  reuse    : Bool
  claimant : Option Nat
  outcome  : Option SessionOutcome
  deriving DecidableEq, Repr

def PlanEntry.free : PlanEntry :=
  { state := .free, kind := .exact, identity := 0, plan := Plan.zero, reuse := false, claimant := none,
    outcome := none }

structure PlanTable where
  entries     : Vector PlanEntry 96
  masks       : Vector U24 4
  defaultPlan : Plan
  cursor      : Nat
  deriving DecidableEq, Repr

/-! ### Depot clock and envelope unit (chapter 3) -/

/-- Section 3.1. `fraction` is the part of the current second already counted, in ms. -/
structure Clock where
  minute    : Nat
  setMarker : Bool
  prescaler : Nat
  fraction  : Nat
  deriving DecidableEq, Repr

/-- Table 3-1; `nextStep` is absent for END. -/
structure LimitStep where
  start    : Nat
  limit    : Nat
  nextStep : Option Nat
  deriving DecidableEq, Repr

structure CabinetCeiling where
  steps  : Nat
  locked : Bool
  deriving DecidableEq, Repr

/-- Sections 3.2 to 3.7. The site ceiling is locked exactly while it is set (R53). `activeBank` 0 is no bank and
`walker` 0 no step. -/
structure Envelope where
  siteCeiling : Option Nat
  ceilings    : Vector CabinetCeiling 8
  banks       : Vector (Vector LimitStep 16) 2
  activeBank  : Nat
  walker      : Nat
  stageLimits : Vector Nat 3
  lineStage   : Nat
  effStage    : Nat
  settling    : Timer
  whPerPulse  : Nat
  reserve     : Nat
  meterWindow : Timer
  windowCount : Nat
  lastWindow  : Option Nat
  building    : Nat
  margin      : Nat
  available   : Nat
  overdraw    : Timer
  excess      : Option Nat
  deriving DecidableEq, Repr

/-! ### Allocator (chapter 4) -/

/-- The values a snapshot copies from one bay's session (R79). -/
structure SnapBay where
  state      : SessionState
  serial     : Nat
  unheld     : Bool
  countdown  : Option Nat
  target     : Nat
  battery    : Nat
  acceptance : Nat
  windowOpen : Bool
  power      : Nat
  priority   : Bool
  deriving DecidableEq, Repr

/-- The snapshot of R79. -/
structure Snapshot where
  available : Nat
  ceilings  : Vector Nat 8
  linkUp    : Vector Bool 8
  healthy   : Vector Nat 8
  bays      : Vector SnapBay 48
  deriving DecidableEq, Repr

/-- Table 4-1. The pass state is IN_FLIGHT exactly while a snapshot is held. `period` is in seconds. -/
structure Allocator where
  snapshot    : Option Snapshot
  again       : Bool
  stale       : Bool
  period      : Nat
  periodTimer : Timer
  lastOrder   : List Nat
  deriving DecidableEq, Repr

/-! ### Bond controller (chapter 5) -/

/-- Table 5-2. -/
inductive ModuleState where
  | absent | unknown | free | closing | bonded | ramping | opening | faulted
  deriving DecidableEq, Repr

/-- Table 5-1. -/
structure Module where
  state     : ModuleState
  bay       : Option Nat
  contactor : Timer
  deriving DecidableEq, Repr

/-- The stored values of Table 5-3; the counts and the target are computed. -/
structure BayPower where
  commanded : Nat
  reported  : Nat
  ramp      : Timer
  deriving DecidableEq, Repr

/-- An entry of a bond waiting list (R108). -/
structure BondEntry where
  bay    : Nat
  wanted : Nat
  deriving DecidableEq, Repr

/-- R104. Module m of cabinet c is entry 4 (c - 1) + m of `modules`. -/
structure BondController where
  modules   : Vector Module 32
  bays      : Vector BayPower 48
  raiseList : List Nat
  bondLists : Vector (List BondEntry) 8
  deriving DecidableEq, Repr

/-! ### Cabinet links (chapter 6) -/

/-- Table 6-1, link state. -/
inductive LinkState where
  | absent | training | up | lost | isolated
  deriving DecidableEq, Repr

/-- Table 6-2. -/
inductive CabMsg where
  | probe | keep
  | setpoint (position steps : Nat)
  | release (module : Nat)
  | bond (module position : Nat)
  | ceiling (steps : Nat)
  | zero | isolate
  deriving DecidableEq, Repr

/-- The receive assembler of a line (R179, R186): the bytes collected since the start byte. -/
inductive Assembler where
  | hunting
  | collecting (bytes : List Byte)
  deriving DecidableEq, Repr

/-- The per-bay items of Table 6-1. -/
structure LinkBay where
  lastBattery   : Nat
  lastAuxiliary : Nat
  present       : Bool
  identitySeen  : U24
  insulation    : Bool
  derate        : Bool
  deriving DecidableEq, Repr

/-- Table 6-1, with the frame being sent to the cabinet, the frames handed to the link whose sending has not
begun, and the receive assembler (R186). The lost-hold values are present only while the lost hold runs. -/
structure Link where
  state      : LinkState
  probeCount : Nat
  probe      : Timer
  keep       : Timer
  silence    : Timer
  adopted    : Bool
  lostHold   : Option (Vector Nat 6)
  lostTimer  : Timer
  installed  : List Nat
  bays       : Vector LinkBay 6
  sending    : Option CabMsg
  outbound   : List CabMsg
  assembler  : Assembler
  deriving DecidableEq, Repr

/-! ### Ready list (chapter 7) -/

/-- Table 7-1. -/
structure ReadyRecord where
  bay       : Nat
  identity  : Option U24
  planEntry : Option Nat
  minute    : Nat
  battery   : Nat
  countdown : Nat
  deriving DecidableEq, Repr

/-- R147: the records, oldest first, and the overflow flag. -/
structure ReadyList where
  records  : List ReadyRecord
  overflow : Bool
  deriving DecidableEq, Repr

/-! ### Fault unit (chapter 8) -/

/-- Table 8-1, in its order. -/
inductive FaultCode where
  | linkFrame | bayDerate | moduleFail | contactorTimeout | bayInsulation | linkLost | siteOverdraw
  | cabinetInternal | rampTimeout
  deriving DecidableEq, Repr

/-- Section 8.1. -/
inductive FaultClass where
  | correctable | nonfatal | fatal
  deriving DecidableEq, Repr

/-- The kinds of subject of a fault, in the order of Table 10-5. -/
inductive SubjectKind where
  | cabinet | bay | module | site
  deriving DecidableEq, Repr

structure Subject where
  kind   : SubjectKind
  number : Nat
  deriving DecidableEq, Repr

/-- A first code: the code and the subject of the fault that set a flag (section 8.2). -/
structure FirstCode where
  code    : FaultCode
  subject : Subject
  deriving DecidableEq, Repr

/-- Table 8-2. A class flag is set exactly while its first code is present. -/
structure CabinetFaults where
  correctable : Option FirstCode
  nonfatal    : Option FirstCode
  fatal       : Option FirstCode
  isolated    : Bool
  deriving DecidableEq, Repr

/-- One enable for each class (R158). -/
structure ClassEnables where
  correctable : Bool
  nonfatal    : Bool
  fatal       : Bool
  deriving DecidableEq, Repr

/-- Tables 8-2 and 8-3, the reporting enables and the alarm indication. The overdraw flag is set exactly while the
first overdraw minute is present, and a stop is in force exactly while the stop minute is present. -/
structure FaultUnit where
  cabinets       : Vector CabinetFaults 8
  overdrawMinute : Option Nat
  stopMinute     : Option Nat
  notices        : ClassEnables
  alarms         : ClassEnables
  alarm          : Bool
  deriving DecidableEq, Repr

/-! ### Yard lines (chapter 9) -/

/-- Table 9-1, function, in its order. -/
inductive LineFunction where
  | generalIn | generalOut | curtailA | curtailB | meterPulse | stopIn | alarmOut | readyOut
  deriving DecidableEq, Repr

inductive LineEdge where
  | rising | falling | both
  deriving DecidableEq, Repr

inductive LineDrive where
  | pushPull | openDrain
  deriving DecidableEq, Repr

/-- The seven settings of Table 9-1. -/
structure LineSettings where
  function    : LineFunction
  invert      : Bool
  pullUp      : Bool
  edge        : LineEdge
  drive       : LineDrive
  blink       : Bool
  outputLevel : Bool
  deriving DecidableEq, Repr

/-- A yard line: its settings; the level its pin has from outside (`true` is high); for an input function the
filtered level (`true` is asserted) and the filter time left; for a blinking alarm the present half (`true` is the
asserted half) and the time left in it. -/
structure Line where
  settings   : LineSettings
  pin        : Bool
  level      : Bool
  filter     : Timer
  blinkHalf  : Bool
  blinkTimer : Timer
  deriving DecidableEq, Repr

/-! ### Order link (chapter 10) -/

/-- Table 10-3, in its order. -/
inductive NoticeKind where
  | session | ready | fault | shed | pass | link | line | narrow
  deriving DecidableEq, Repr

/-- An entry of the outbound queue or the frame in transmission. The body of a queued notice begins after its
flags byte, which is added when the notice is taken for transmission (R181). -/
structure OutFrame where
  isReply : Bool
  tag     : Byte
  kind    : Byte
  body    : List Byte
  deriving DecidableEq, Repr

/-- The eight notice enables (R183). -/
structure NoticeEnables where
  session : Bool
  ready   : Bool
  fault   : Bool
  shed    : Bool
  pass    : Bool
  link    : Bool
  line    : Bool
  narrow  : Bool
  deriving DecidableEq, Repr

/-- Where a RESTART order stands (R185): none taken; its reply not yet sent; its reply sent to the last byte. -/
inductive RestartPhase where
  | none | replying | due
  deriving DecidableEq, Repr

/-- Section 10.1. -/
structure OrderLink where
  assembler  : Assembler
  held       : Option OrderFrame
  queue      : List OutFrame
  sending    : Option OutFrame
  noticeLost : Bool
  enables    : NoticeEnables
  restart    : RestartPhase
  deriving DecidableEq, Repr

/-- The state of the PD48, block by block, and the commands waiting to be taken, first in, first out. -/
structure State where
  clock    : Clock
  sessions : Vector Session 48
  plans    : PlanTable
  env      : Envelope
  alloc    : Allocator
  bond     : BondController
  links    : Vector Link 8
  ready    : ReadyList
  faults   : FaultUnit
  lines    : Vector Line 8
  order    : OrderLink
  pending  : List Instr
  deriving DecidableEq, Repr

/-- Why a command stops the machine: it names a unit that Table 0-2 does not number. Only the event commands can
raise one, since an order with such an index is answered RANGE. Safe: no such event can happen to a PD48. -/
inductive Fault where
  /-- Raised by every command that names a cabinet outside 1 to 8. Safe. -/
  | noSuchCabinet (cab : Nat)
  /-- Raised by the timer expiries that name a bay outside 1 to 48. Safe. -/
  | noSuchBay (bay : Nat)
  /-- Raised by CONTACTOR_TIMER_EXPIRY for a module outside 1 to 4. Safe. -/
  | noSuchModule (module : Nat)
  /-- Raised by the yard line events for a line outside 1 to 8. Safe. -/
  | noSuchLine (line : Nat)
  deriving DecidableEq, Repr

/-- Why a command is refused. No meaning of this model refuses. -/
inductive Refusal where
  /-- Raised by `exec` for a command that has no meaning yet. Safe. -/
  | notModelled (mnemonic : String)
  deriving DecidableEq, Repr

/-- What a command answers. -/
abbrev Result := Host.Outcome State Fault Refusal

/-! ### After a power-on reset -/

/-- R50. -/
def Clock.reset : Clock := { minute := 0, setMarker := false, prescaler := 0, fraction := 0 }

/-- R29. -/
def PlanTable.reset : PlanTable :=
  { entries := Vector.replicate 96 PlanEntry.free, masks := Vector.replicate 4 0,
    defaultPlan := ⟨360, 40000, 0, 0, false⟩, cursor := 1 }

/-- R55. -/
def LimitStep.reset : LimitStep := { start := 0, limit := 65535, nextStep := none }

/-- R53 to R56, R60, R63, R65, R70 (Table 3-7). -/
def Envelope.reset : Envelope :=
  { siteCeiling := none, ceilings := Vector.replicate 8 ⟨1200, false⟩,
    banks := Vector.replicate 2 (Vector.replicate 16 LimitStep.reset), activeBank := 0, walker := 0,
    stageLimits := Vector.replicate 3 65535, lineStage := 0, effStage := 0, settling := none, whPerPulse := 10,
    reserve := 0, meterWindow := none, windowCount := 0, lastWindow := none, building := 0, margin := 50,
    available := 0, overdraw := none, excess := none }

/-- R74. -/
def Allocator.reset : Allocator :=
  { snapshot := none, again := false, stale := false, period := 60, periodTimer := some 60000, lastOrder := [] }

def Module.reset : Module := { state := .unknown, bay := none, contactor := none }

def BayPower.reset : BayPower := { commanded := 0, reported := 0, ramp := none }

/-- R104. -/
def BondController.reset : BondController :=
  { modules := Vector.replicate 32 Module.reset, bays := Vector.replicate 48 BayPower.reset, raiseList := [],
    bondLists := Vector.replicate 8 [] }

def LinkBay.reset : LinkBay :=
  { lastBattery := 0, lastAuxiliary := 0, present := false, identitySeen := 0, insulation := false, derate := false }

/-- R129: TRAINING, with the first PROBE sent as training begins (R131). -/
def Link.reset : Link :=
  { state := .training, probeCount := 1, probe := some probeMs, keep := none, silence := none, adopted := false,
    lostHold := none, lostTimer := none, installed := [], bays := Vector.replicate 6 LinkBay.reset,
    sending := some .probe, outbound := [], assembler := .hunting }

/-- R147. -/
def ReadyList.reset : ReadyList := { records := [], overflow := false }

def CabinetFaults.reset : CabinetFaults := { correctable := none, nonfatal := none, fatal := none, isolated := false }

/-- R158. -/
def FaultUnit.reset : FaultUnit :=
  { cabinets := Vector.replicate 8 CabinetFaults.reset, overdrawMinute := none, stopMinute := none,
    notices := ⟨false, false, false⟩, alarms := ⟨false, false, true⟩, alarm := false }

/-- The power-on column of Table 9-1. -/
def LineSettings.reset : LineSettings :=
  { function := .generalIn, invert := false, pullUp := true, edge := .rising, drive := .pushPull, blink := false,
    outputLevel := false }

/-- R171: filtered level not asserted, filter started from the pin. -/
def Line.reset (pin : Bool) : Line :=
  { settings := LineSettings.reset, pin := pin, level := false, filter := if pin then some filterMs else none,
    blinkHalf := true, blinkTimer := none }

/-- R178. -/
def OrderLink.reset : OrderLink :=
  { assembler := .hunting, held := none, queue := [], sending := none, noticeLost := false,
    enables := ⟨false, false, false, false, false, false, false, false⟩, restart := .none }

/-- The PD48 right after a power-on reset. The pins are outside the part; DESIGN CHOICE (log entry 14): each reads
high, as its pull-up makes a pin that nothing drives. -/
def State.reset : State :=
  { clock := Clock.reset, sessions := Vector.replicate 48 (Session.vacant 0), plans := PlanTable.reset,
    env := Envelope.reset, alloc := Allocator.reset, bond := BondController.reset,
    links := Vector.replicate 8 Link.reset, ready := ReadyList.reset, faults := FaultUnit.reset,
    lines := Vector.replicate 8 (Line.reset true), order := OrderLink.reset, pending := [] }

end Sys2Proof.Machine
end

