-- ==== Sys2Proof/Machine/Operands.lean ====
section
/-! DEFINITION. The fields of every frame (section 10.7): how a value is sent (Table 10-5), the frame check, the
frames of orders and of cabinet messages in both directions, and the checks of R135 on a cabinet message. -/

namespace Sys2Proof.Machine

/-! ### Field encoding (Table 10-5) -/

/-- A one-byte field. -/
def enc8 (n : Nat) : List Byte := [if n < 256 then BitVec.ofNat 8 n else Config.unfit8 n]

/-- The two bytes of a word, high byte first. -/
def be16 (w : U16) : List Byte := [w.extractLsb' 8 8, w.extractLsb' 0 8]

/-- The three bytes of a word, high byte first. -/
def be24 (w : U24) : List Byte := [w.extractLsb' 16 8, w.extractLsb' 8 8, w.extractLsb' 0 8]

/-- A two-byte field. -/
def enc16 (n : Nat) : List Byte := be16 (if n < 65536 then BitVec.ofNat 16 n else Config.unfit16 n)

/-- A three-byte field. -/
def enc24 (n : Nat) : List Byte := be24 (if n < 16777216 then BitVec.ofNat 24 n else Config.unfit24 n)

/-- A marker, flag, enable or presence. -/
def encFlag (b : Bool) : List Byte := [if b then 1 else 0]

/-- An optional field and its presence marker, in the order the rules name them; the field is sent as 0 where it is
absent (R180). DEDUCED (log entry 12). -/
def encOpt {α : Type} (enc : α → List Byte) (absent : α) (o : Option α) : List Byte :=
  enc (o.getD absent) ++ encFlag o.isSome

/-- Two bytes as a field. -/
def word16 (a b : Byte) : U16 := a ++ b

/-- Three bytes as a field. -/
def word24 (a b c : Byte) : U24 := a ++ b ++ c

/-- A remaining time in whole seconds, rounded up (R27, R101, R144); 0 when stopped. -/
def secondsUp (t : Timer) : Nat := ceilDiv (t.getD 0) 1000

/-- A remaining time in a unit for which the manual states no rounding: exact where it is a whole number of units,
else one of its two neighbours, left open (log entry 13). -/
def remaining (unit : Nat) (t : Timer) : Nat :=
  let ms := t.getD 0
  if ms % unit = 0 then ms / unit else ms / unit + (if Config.roundsUp ms then 1 else 0)

/-- A remaining time in tenths of a second (R71, R144). -/
def tenths (t : Timer) : Nat := remaining 100 t

/-! ### Numbers of the named values (section 10.7.1) -/

def SessionState.code : SessionState → Nat
  | .vacant => 0 | .identifying => 1 | .active => 2 | .satisfied => 3 | .overdue => 4

def PlanState.code : PlanState → Nat
  | .free => 0 | .opened => 1 | .claimed => 2 | .spent => 3

def PlanKind.code : PlanKind → Nat
  | .exact => 0 | .group1 => 1 | .group2 => 2 | .group3 => 3 | .group4 => 4

def ModuleState.code : ModuleState → Nat
  | .absent => 0 | .unknown => 1 | .free => 2 | .closing => 3 | .bonded => 4 | .ramping => 5 | .opening => 6
  | .faulted => 7

def LinkState.code : LinkState → Nat
  | .absent => 0 | .training => 1 | .up => 2 | .lost => 3 | .isolated => 4

def FaultCode.code : FaultCode → Nat
  | .linkFrame => 0 | .bayDerate => 1 | .moduleFail => 2 | .contactorTimeout => 3 | .bayInsulation => 4
  | .linkLost => 5 | .siteOverdraw => 6 | .cabinetInternal => 7 | .rampTimeout => 8

def FaultClass.code : FaultClass → Nat
  | .correctable => 0 | .nonfatal => 1 | .fatal => 2

def SubjectKind.code : SubjectKind → Nat
  | .cabinet => 0 | .bay => 1 | .module => 2 | .site => 3

def LineFunction.code : LineFunction → Nat
  | .generalIn => 0 | .generalOut => 1 | .curtailA => 2 | .curtailB => 3 | .meterPulse => 4 | .stopIn => 5
  | .alarmOut => 6 | .readyOut => 7

def LineEdge.code : LineEdge → Nat
  | .rising => 0 | .falling => 1 | .both => 2

def LineDrive.code : LineDrive → Nat
  | .pushPull => 0 | .openDrain => 1

/-- The kinds of Table 10-3. -/
def NoticeKind.byte : NoticeKind → Byte
  | .session => 0xE1 | .ready => 0xE2 | .fault => 0xE3 | .shed => 0xE4 | .pass => 0xE5 | .link => 0xE6
  | .line => 0xE7 | .narrow => 0xE8

/-- The set of hold reasons as one byte (Table 10-5). -/
def Holds.code (h : Holds) : Nat :=
  (if h.host then 1 else 0) + (if h.fault then 2 else 0) + (if h.link then 4 else 0) + (if h.stop then 8 else 0)

/-- A set of modules as one byte: bit m - 1 for module m (Table 10-5). -/
def moduleSet (ms : List Nat) : Nat :=
  [1, 2, 3, 4].foldl (fun a m => if ms.contains m then a + 2 ^ (m - 1) else a) 0

def Subject.bytes (x : Subject) : List Byte := enc8 x.kind.code ++ enc8 x.number

def FirstCode.bytes (f : FirstCode) : List Byte := enc8 f.code.code ++ f.subject.bytes

/-- The value of a first code field that is not filled. -/
def FirstCode.unfilled : FirstCode := ⟨.linkFrame, ⟨.cabinet, 0⟩⟩

/-! ### Named values as received -/

/-- The kind of a plan entry (section 10.7.1); absent for any other value (R37). -/
def planKindOf (b : Byte) : Option PlanKind :=
  match b.toNat with
  | 0 => some .exact | 1 => some .group1 | 2 => some .group2 | 3 => some .group3 | 4 => some .group4
  | _ => none

def lineFunctionOf (b : Byte) : Option LineFunction :=
  match b.toNat with
  | 0 => some .generalIn | 1 => some .generalOut | 2 => some .curtailA | 3 => some .curtailB
  | 4 => some .meterPulse | 5 => some .stopIn | 6 => some .alarmOut | 7 => some .readyOut
  | _ => none

def lineEdgeOf (b : Byte) : Option LineEdge :=
  match b.toNat with
  | 0 => some .rising | 1 => some .falling | 2 => some .both | _ => none

def lineDriveOf (b : Byte) : Option LineDrive :=
  match b.toNat with
  | 0 => some .pushPull | 1 => some .openDrain | _ => none

/-- A marker that must be 0 or 1. -/
def markerOf (b : Byte) : Option Bool :=
  match b.toNat with
  | 0 => some false | 1 => some true | _ => none

/-- The settings of a SET LINE order; absent when a value is not one of those listed for its setting (R175). No table
gives the code of an output level. DESIGN CHOICE (unsafe, log entry 45): 1 is asserted and 0 is not asserted. -/
def lineSettingsOf (o : LineOrder) : Option LineSettings :=
  match lineFunctionOf o.function, markerOf o.invert, markerOf o.pullUp, lineEdgeOf o.edge, lineDriveOf o.drive,
    markerOf o.blink, markerOf o.outputLevel with
  | some f, some i, some p, some e, some d, some b, some l => some ⟨f, i, p, e, d, b, l⟩
  | _, _, _, _, _, _, _ => none

/-- The seven settings of a line as READ LINES and SET LINE send them (R175, R176), with the output level as log
entry 45 codes it. -/
def LineSettings.bytes (x : LineSettings) : List Byte :=
  enc8 x.function.code ++ encFlag x.invert ++ encFlag x.pullUp ++ enc8 x.edge.code ++ enc8 x.drive.code ++
    encFlag x.blink ++ encFlag x.outputLevel

/-- The fault code of a FAULT message, for the codes a cabinet may send (R135). -/
def cabinetFaultCode (b : Byte) : Option FaultCode :=
  match b.toNat with
  | 1 => some .bayDerate | 2 => some .moduleFail | 4 => some .bayInsulation | 7 => some .cabinetInternal
  | _ => none

/-- The class of each code (Table 8-1). -/
def FaultCode.cls : FaultCode → FaultClass
  | .linkFrame => .correctable
  | .bayDerate => .correctable
  | .moduleFail => .nonfatal
  | .contactorTimeout => .nonfatal
  | .bayInsulation => .nonfatal
  | .linkLost => .nonfatal
  | .siteOverdraw => .nonfatal
  | .cabinetInternal => .fatal
  | .rampTimeout => .fatal

/-! ### Numbering (Table 0-2) -/

/-- The cabinet of a bay: `⌈b / 6⌉`. -/
def cabOf (bay : Nat) : Nat := ceilDiv bay 6

/-- The position of a bay within its cabinet. -/
def posOf (bay : Nat) : Nat := (bay - 1) % 6 + 1

/-- The bay at a position of a cabinet (section 6.2). -/
def bayAt (cab pos : Nat) : Nat := 6 * (cab - 1) + pos

def validCab (c : Nat) : Bool := 1 ≤ c && c ≤ 8
def validBay (b : Nat) : Bool := 1 ≤ b && b ≤ 48
def validModule (m : Nat) : Bool := 1 ≤ m && m ≤ 4
def validLine (l : Nat) : Bool := 1 ≤ l && l ≤ 8
def validEntry (e : Nat) : Bool := 1 ≤ e && e ≤ 96
def validPosition (p : Nat) : Bool := 1 ≤ p && p ≤ 6

/-! ### The frame check (section 10.7.2) -/

/-- One bit of the CRC-16 with polynomial 0x1021. -/
def crcBit (c : U16) : U16 := if c.msb then (c <<< 1) ^^^ 0x1021#16 else c <<< 1

/-- One byte, high bit first, with no reflection. -/
def crcByte (c : U16) (b : Byte) : U16 :=
  crcBit (crcBit (crcBit (crcBit (crcBit (crcBit (crcBit (crcBit (c ^^^ (b ++ 0#8)))))))))

/-- It starts at 0xFFFF, with no final inversion. -/
def crc16 (bytes : List Byte) : U16 := bytes.foldl crcByte 0xFFFF#16

/-- An order link frame as sent (Table 10-6). -/
def OutFrame.wire (f : OutFrame) : List Byte :=
  let covered := enc8 (f.body.length + 2) ++ [f.tag, f.kind] ++ f.body
  [0xD5] ++ covered ++ be16 (crc16 covered)

/-- Kind and body of a message to a cabinet (Table 10-9). -/
def CabMsg.bytes : CabMsg → List Byte
  | .probe => [0x01]
  | .keep => [0x02]
  | .setpoint p v => [0x03] ++ enc8 p ++ enc16 v
  | .release m => [0x04] ++ enc8 m
  | .bond m p => [0x05] ++ enc8 m ++ enc8 p
  | .ceiling v => [0x06] ++ enc16 v
  | .zero => [0x07]
  | .isolate => [0x08]

/-- A frame to a cabinet as sent (Table 10-8). -/
def CabMsg.wire (m : CabMsg) : List Byte :=
  let covered := enc8 m.bytes.length ++ m.bytes
  [0xA9] ++ covered ++ be16 (crc16 covered)

/-! ### Order frames (Tables 10-4 and 10-6) -/

def planOrderBytes (f : PlanOrder) : List Byte :=
  [f.kind] ++ be24 f.identity ++ be16 f.departure ++ be24 f.target ++ [f.window] ++ be16 f.power ++
    [f.priority, f.reuse]

def defaultOrderBytes (f : DefaultOrder) : List Byte :=
  be16 f.departure ++ be24 f.target ++ [f.window] ++ be16 f.power ++ [f.priority]

/-- The frame of an order; absent for the commands that are no order. -/
def encodeOrder : Instr → Option OrderFrame
  | .setClock t m => some ⟨t, 0x01, be16 m⟩
  | .setSiteCeiling t v => some ⟨t, 0x02, be16 v⟩
  | .setCabinetCeiling t c v => some ⟨t, 0x03, [c] ++ be16 v⟩
  | .putLimitStep t b s a l n => some ⟨t, 0x04, [b, s] ++ be16 a ++ be16 l ++ [n]⟩
  | .selectLimitBank t b => some ⟨t, 0x05, [b]⟩
  | .setCurtailStages t a b c => some ⟨t, 0x06, be16 a ++ be16 b ++ be16 c⟩
  | .setMeter t w => some ⟨t, 0x07, be16 w⟩
  | .setMargin t v => some ⟨t, 0x08, be16 v⟩
  | .setReserve t v => some ⟨t, 0x09, be16 v⟩
  | .readEnvelope t => some ⟨t, 0x0A, []⟩
  | .putPlan t e f => some ⟨t, 0x10, [e] ++ planOrderBytes f⟩
  | .setPlanCursor t e => some ⟨t, 0x11, [e]⟩
  | .putPlanNext t f => some ⟨t, 0x12, planOrderBytes f⟩
  | .releasePlan t e => some ⟨t, 0x13, [e]⟩
  | .readPlan t e => some ⟨t, 0x14, [e]⟩
  | .setGroupMask t g m => some ⟨t, 0x15, [g] ++ be24 m⟩
  | .setDefaultPlan t f => some ⟨t, 0x16, defaultOrderBytes f⟩
  | .readSession t b => some ⟨t, 0x20, [b]⟩
  | .suspendBay t b => some ⟨t, 0x21, [b]⟩
  | .resumeBay t b => some ⟨t, 0x22, [b]⟩
  | .reallocate t => some ⟨t, 0x28, []⟩
  | .setPeriod t p => some ⟨t, 0x29, be16 p⟩
  | .readReady t => some ⟨t, 0x2C, []⟩
  | .clearReadyOverflow t => some ⟨t, 0x2D, []⟩
  | .readCabinet t c => some ⟨t, 0x30, [c]⟩
  | .retrain t c => some ⟨t, 0x31, [c]⟩
  | .readFaults t => some ⟨t, 0x34, []⟩
  | .clearFaults t x c => some ⟨t, 0x35, [x, c]⟩
  | .setReporting t e => some ⟨t, 0x36, [e.correctableNotice, e.correctableAlarm, e.nonfatalNotice,
      e.nonfatalAlarm, e.fatalNotice, e.fatalAlarm]⟩
  | .resumeSite t => some ⟨t, 0x37, []⟩
  | .setLine t l o => some ⟨t, 0x38, [l, o.function, o.invert, o.pullUp, o.edge, o.drive, o.blink, o.outputLevel]⟩
  | .readLines t => some ⟨t, 0x39, []⟩
  | .setNotices t e => some ⟨t, 0x3C, [e.session, e.ready, e.fault, e.shed, e.pass, e.link, e.line, e.narrow]⟩
  | .readStatus t => some ⟨t, 0x3D, []⟩
  | .restart t => some ⟨t, 0x3E, []⟩
  | .orderUnknownKind t k => some ⟨t, k, []⟩
  | _ => none

/-- The body length of each kind of Table 10-4; absent for a kind that names no order. -/
def bodyLength (kind : Byte) : Option Nat :=
  match kind.toNat with
  | 0x01 => some 2 | 0x02 => some 2 | 0x03 => some 3 | 0x04 => some 7 | 0x05 => some 1 | 0x06 => some 6
  | 0x07 => some 2 | 0x08 => some 2 | 0x09 => some 2 | 0x0A => some 0
  | 0x10 => some 15 | 0x11 => some 1 | 0x12 => some 14 | 0x13 => some 1 | 0x14 => some 1 | 0x15 => some 4
  | 0x16 => some 9 | 0x20 => some 1 | 0x21 => some 1 | 0x22 => some 1 | 0x28 => some 0 | 0x29 => some 2
  | 0x2C => some 0 | 0x2D => some 0 | 0x30 => some 1 | 0x31 => some 1 | 0x34 => some 0 | 0x35 => some 2
  | 0x36 => some 6 | 0x37 => some 0 | 0x38 => some 8 | 0x39 => some 0 | 0x3C => some 8 | 0x3D => some 0
  | 0x3E => some 0
  | _ => none

/-- The order that a tag, a kind and a body of the right length spell (Table 10-4). -/
def orderOf (t : Byte) (kind : Byte) (body : List Byte) : Option Instr :=
  match kind.toNat with
  | 0x01 => match body with
    | [a, b] => some (.setClock t (word16 a b))
    | _ => none
  | 0x02 => match body with
    | [a, b] => some (.setSiteCeiling t (word16 a b))
    | _ => none
  | 0x03 => match body with
    | [c, a, b] => some (.setCabinetCeiling t c (word16 a b))
    | _ => none
  | 0x04 => match body with
    | [k, s, a, b, c, d, n] => some (.putLimitStep t k s (word16 a b) (word16 c d) n)
    | _ => none
  | 0x05 => match body with
    | [k] => some (.selectLimitBank t k)
    | _ => none
  | 0x06 => match body with
    | [a, b, c, d, e, f] => some (.setCurtailStages t (word16 a b) (word16 c d) (word16 e f))
    | _ => none
  | 0x07 => match body with
    | [a, b] => some (.setMeter t (word16 a b))
    | _ => none
  | 0x08 => match body with
    | [a, b] => some (.setMargin t (word16 a b))
    | _ => none
  | 0x09 => match body with
    | [a, b] => some (.setReserve t (word16 a b))
    | _ => none
  | 0x0A => match body with
    | [] => some (.readEnvelope t)
    | _ => none
  | 0x10 => match body with
    | [n, k, i, j, l, d, e, a, b, c, w, p, q, h, r] => some (.putPlan t n ⟨k, word24 i j l, word16 d e, word24 a b c, w, word16 p q, h, r⟩)
    | _ => none
  | 0x11 => match body with
    | [n] => some (.setPlanCursor t n)
    | _ => none
  | 0x12 => match body with
    | [k, i, j, l, d, e, a, b, c, w, p, q, h, r] => some (.putPlanNext t ⟨k, word24 i j l, word16 d e, word24 a b c, w, word16 p q, h, r⟩)
    | _ => none
  | 0x13 => match body with
    | [n] => some (.releasePlan t n)
    | _ => none
  | 0x14 => match body with
    | [n] => some (.readPlan t n)
    | _ => none
  | 0x15 => match body with
    | [g, a, b, c] => some (.setGroupMask t g (word24 a b c))
    | _ => none
  | 0x16 => match body with
    | [d, e, a, b, c, w, p, q, h] => some (.setDefaultPlan t ⟨word16 d e, word24 a b c, w, word16 p q, h⟩)
    | _ => none
  | 0x20 => match body with
    | [b] => some (.readSession t b)
    | _ => none
  | 0x21 => match body with
    | [b] => some (.suspendBay t b)
    | _ => none
  | 0x22 => match body with
    | [b] => some (.resumeBay t b)
    | _ => none
  | 0x28 => match body with
    | [] => some (.reallocate t)
    | _ => none
  | 0x29 => match body with
    | [a, b] => some (.setPeriod t (word16 a b))
    | _ => none
  | 0x2C => match body with
    | [] => some (.readReady t)
    | _ => none
  | 0x2D => match body with
    | [] => some (.clearReadyOverflow t)
    | _ => none
  | 0x30 => match body with
    | [c] => some (.readCabinet t c)
    | _ => none
  | 0x31 => match body with
    | [c] => some (.retrain t c)
    | _ => none
  | 0x34 => match body with
    | [] => some (.readFaults t)
    | _ => none
  | 0x35 => match body with
    | [x, c] => some (.clearFaults t x c)
    | _ => none
  | 0x36 => match body with
    | [a, b, c, d, e, f] => some (.setReporting t ⟨a, b, c, d, e, f⟩)
    | _ => none
  | 0x37 => match body with
    | [] => some (.resumeSite t)
    | _ => none
  | 0x38 => match body with
    | [l, a, b, c, d, e, f, g] => some (.setLine t l ⟨a, b, c, d, e, f, g⟩)
    | _ => none
  | 0x39 => match body with
    | [] => some (.readLines t)
    | _ => none
  | 0x3C => match body with
    | [a, b, c, d, e, f, g, h] => some (.setNotices t ⟨a, b, c, d, e, f, g, h⟩)
    | _ => none
  | 0x3D => match body with
    | [] => some (.readStatus t)
    | _ => none
  | 0x3E => match body with
    | [] => some (.restart t)
    | _ => none
  | _ => none

/-- What a completed order frame is (R180). -/
inductive OrderReading where
  /-- An order of the catalogue with the body length of its kind. -/
  | order (i : Instr)
  /-- The kind names no order. -/
  | unknownKind
  /-- The body length is wrong for the kind. -/
  | wrongLength
  deriving DecidableEq, Repr

/-- The order link checks the kind first and then the length (R180). -/
def decodeOrder (f : OrderFrame) : OrderReading :=
  match bodyLength f.kind with
  | none => .unknownKind
  | some n =>
    if f.body.length = n then
      match orderOf f.tag f.kind f.body with
      | some i => .order i
      | none => .wrongLength
    else .wrongLength

/-! ### Messages from a cabinet (Table 10-9) -/

/-- A DESCRIPTOR lists 1 to 4 distinct module numbers from 1 to 4 (Table 6-3). -/
def validDescriptor (ms : List Byte) : Bool :=
  1 ≤ ms.length && ms.length ≤ 4 && ms.all (fun m => validModule m.toNat) && decide ms.Nodup

/-- Each marker of a bay block is 0 or 1; its other fields fill their ranges (Table 6-3). -/
def validBlock (b : BayBlock) : Bool :=
  (markerOf b.presence).isSome && (markerOf b.insulation).isSome && (markerOf b.derate).isSome

/-- A module byte: 0 for open, 1 to 6 for closed to that position, 0xFF for failed (section 10.7.3). -/
def validModuleByte (b : Byte) : Bool := b.toNat ≤ 6 || b == 0xFF

def validStatus (m : StatusMsg) : Bool :=
  m.bays.toList.all validBlock && m.modules.toList.all validModuleByte

def validPlug (position presence : Byte) : Bool :=
  validPosition position.toNat && (markerOf presence).isSome

def validReport (module result : Byte) : Bool :=
  validModule module.toNat && result.toNat ≤ 2

/-- The subject of a FAULT message from cabinet `cab` (section 8.1): a bay position becomes a bay number. -/
def cabinetSubject (cab : Nat) (kind number : Byte) : Option Subject :=
  match kind.toNat with
  | 0 => some ⟨.cabinet, cab⟩
  | 1 => if validPosition number.toNat then some ⟨.bay, bayAt cab number.toNat⟩ else none
  | 2 => if validModule number.toNat then some ⟨.module, number.toNat⟩ else none
  | _ => none

/-- A FAULT message gives a code the cabinet may send and the class of that code (R135). -/
def validFault (faultClass code kind number : Byte) : Bool :=
  match cabinetFaultCode code with
  | none => false
  | some c => faultClass.toNat == c.cls.code && (cabinetSubject 1 kind number).isSome

/-- One bay block and the bytes after it. -/
def readBlock : List Byte → Option (BayBlock × List Byte)
  | p :: a :: b :: c :: d :: e :: f :: g :: h :: i :: j :: k :: l :: m :: n :: o :: rest =>
    some (⟨p, word24 a b c, word16 d e, word24 f g h, word24 i j k, word16 l m, n, o⟩, rest)
  | _ => none

/-- The body of a STATUS message, 100 bytes. -/
def readStatusBody (body : List Byte) : Option StatusMsg :=
  match readBlock body with
  | none => none
  | some (b1, r1) => match readBlock r1 with
    | none => none
    | some (b2, r2) => match readBlock r2 with
      | none => none
      | some (b3, r3) => match readBlock r3 with
        | none => none
        | some (b4, r4) => match readBlock r4 with
          | none => none
          | some (b5, r5) => match readBlock r5 with
            | some (b6, [m1, m2, m3, m4]) => some ⟨#v[b1, b2, b3, b4, b5, b6], #v[m1, m2, m3, m4]⟩
            | _ => none

/-- The message that a kind and a body from cabinet `cab` spell; absent where the kind is not one of Table 6-3 or
the length is wrong for it (R135). A DESCRIPTOR whose count disagrees with its length is a wrong length (R186). -/
def messageOf (cab : Nat) (kind : Byte) (body : List Byte) : Option Instr :=
  match kind.toNat, body with
  | 0x41, n :: ms => if n.toNat = ms.length then some (.descriptor cab ms) else none
  | 0x42, body => (readStatusBody body).map (.status cab)
  | 0x43, [p, x] => some (.plug cab p x)
  | 0x44, [p, a, b, c, d, e] => some (.identity cab p (word24 a b c) (word16 d e))
  | 0x45, [m, r] => some (.moduleReport cab m r)
  | 0x46, [c, k, s, n] => some (.faultMessage cab c k s n)
  | _, _ => none

/-- The bytes of an order on ORD_RX (Table 10-6). -/
def orderWire (f : OrderFrame) : List Byte :=
  let covered := enc8 (f.body.length + 2) ++ [f.tag, f.kind] ++ f.body
  [0xD5] ++ covered ++ be16 (crc16 covered)

/-! ### Frames from a cabinet (Tables 10-8 and 10-9) -/

/-- One bay block of a STATUS message, 16 bytes (section 10.7.3). -/
def blockBytes (b : BayBlock) : List Byte :=
  [b.presence] ++ be24 b.identity ++ be16 b.power ++ be24 b.battery ++ be24 b.auxiliary ++ be16 b.acceptance ++
    [b.insulation, b.derate]

/-- The cabinet, the kind and the body of a message; absent for the commands that are no message. -/
def encodeMessage : Instr → Option (Nat × Byte × List Byte)
  | .descriptor c ms => some (c, 0x41, enc8 ms.length ++ ms)
  | .status c m => some (c, 0x42, m.bays.toList.flatMap blockBytes ++ m.modules.toList)
  | .plug c p x => some (c, 0x43, [p, x])
  | .identity c p v a => some (c, 0x44, [p] ++ be24 v ++ be16 a)
  | .moduleReport c m r => some (c, 0x45, [m, r])
  | .faultMessage c k n x y => some (c, 0x46, [k, n, x, y])
  | _ => none

/-- The bytes of a message from a cabinet (Table 10-8). -/
def messageWire (kind : Byte) (body : List Byte) : List Byte :=
  let covered := enc8 (body.length + 1) ++ [kind] ++ body
  [0xA9] ++ covered ++ be16 (crc16 covered)

end Sys2Proof.Machine
end

