-- ==== Sys2Proof/Machine/Ops.lean ====
section
/-! DEFINITION. The named operations over the state that every chapter uses: reading and writing one item of a
bank by the manual's number, handing a frame to a cabinet link, and placing replies and notices in the outbound
queue (R181, R182). -/

namespace Sys2Proof.Machine

/-! ### Banks -/

/-- Item `i` of a bank, numbered from 1; `d` for a number the bank does not have. -/
def get1 {α : Type} {n : Nat} (v : Vector α n) (d : α) (i : Nat) : α :=
  if i = 0 then d else (v[i - 1]?).getD d

/-- The bank with item `i`, numbered from 1, replaced; unchanged for a number the bank does not have. -/
def set1 {α : Type} {n : Nat} (v : Vector α n) (i : Nat) (a : α) : Vector α n :=
  if i = 0 then v else v.setIfInBounds (i - 1) a

/-- The bank whose item `i` is `f i`, numbered from 1. -/
def tabulate {α : Type} (n : Nat) (f : Nat → α) : Vector α n :=
  ⟨⟨(List.range' 1 n).map f⟩, by simp⟩

/-- The bays 1 to 48. -/
def allBays : List Nat := List.range' 1 48

/-- The cabinets 1 to 8. -/
def allCabs : List Nat := List.range' 1 8

/-- The yard lines 1 to 8. -/
def allLines : List Nat := List.range' 1 8

/-- The plan entries 1 to 96. -/
def allEntries : List Nat := List.range' 1 96

/-- The modules 1 to 4 of a cabinet. -/
def allModules : List Nat := [1, 2, 3, 4]

/-- The six bays of a cabinet, in ascending order. -/
def baysOf (cab : Nat) : List Nat := [1, 2, 3, 4, 5, 6].map (bayAt cab)

/-- Apply an operation for each number of a list, first to last. -/
def forEach (l : List Nat) (f : Nat → State → State) (s : State) : State :=
  l.foldl (fun s i => f i s) s

/-! ### Items of the state -/

def State.session (s : State) (bay : Nat) : Session := get1 s.sessions (Session.vacant 0) bay

def putSession (bay : Nat) (x : Session) (s : State) : State :=
  { s with sessions := set1 s.sessions bay x }

def State.entry (s : State) (e : Nat) : PlanEntry := get1 s.plans.entries PlanEntry.free e

def putEntry (e : Nat) (x : PlanEntry) (s : State) : State :=
  { s with plans := { s.plans with entries := set1 s.plans.entries e x } }

def State.link (s : State) (cab : Nat) : Link := get1 s.links Link.reset cab

def putLink (cab : Nat) (x : Link) (s : State) : State :=
  { s with links := set1 s.links cab x }

def Link.bay (l : Link) (pos : Nat) : LinkBay := get1 l.bays LinkBay.reset pos

/-- The link's items for a bay (Table 6-1). -/
def State.linkBay (s : State) (bay : Nat) : LinkBay := (s.link (cabOf bay)).bay (posOf bay)

def putLinkBay (bay : Nat) (x : LinkBay) (s : State) : State :=
  let l := s.link (cabOf bay)
  putLink (cabOf bay) { l with bays := set1 l.bays (posOf bay) x } s

def State.power (s : State) (bay : Nat) : BayPower := get1 s.bond.bays BayPower.reset bay

def putPower (bay : Nat) (x : BayPower) (s : State) : State :=
  { s with bond := { s.bond with bays := set1 s.bond.bays bay x } }

/-- The place of module `m` of cabinet `cab` among the 32 records; 0 where there is no such module. -/
def moduleIndex (cab m : Nat) : Nat := if validModule m && cab ≠ 0 then 4 * (cab - 1) + m else 0

def State.module (s : State) (cab m : Nat) : Module := get1 s.bond.modules Module.reset (moduleIndex cab m)

def putModule (cab m : Nat) (x : Module) (s : State) : State :=
  { s with bond := { s.bond with modules := set1 s.bond.modules (moduleIndex cab m) x } }

def State.bondList (s : State) (cab : Nat) : List BondEntry := get1 s.bond.bondLists [] cab

def putBondList (cab : Nat) (l : List BondEntry) (s : State) : State :=
  { s with bond := { s.bond with bondLists := set1 s.bond.bondLists cab l } }

def putRaiseList (l : List Nat) (s : State) : State :=
  { s with bond := { s.bond with raiseList := l } }

def State.cabFaults (s : State) (cab : Nat) : CabinetFaults := get1 s.faults.cabinets CabinetFaults.reset cab

def putCabFaults (cab : Nat) (x : CabinetFaults) (s : State) : State :=
  { s with faults := { s.faults with cabinets := set1 s.faults.cabinets cab x } }

def State.line (s : State) (l : Nat) : Line := get1 s.lines (Line.reset true) l

def putLine (l : Nat) (x : Line) (s : State) : State :=
  { s with lines := set1 s.lines l x }

def State.ceiling (s : State) (cab : Nat) : CabinetCeiling := get1 s.env.ceilings ⟨0, false⟩ cab

/-! ### Frames to a cabinet (R133, R186) -/

/-- A frame begins to be sent: while the link is UP the keep timer starts again (R133). -/
def Link.begin (l : Link) (m : CabMsg) : Link :=
  { l with sending := some m, keep := if l.state = .up then some keepMs else l.keep }

/-- A frame is handed to a link. It begins at once on a free line, and waits its turn otherwise (R186). -/
def Link.hand (l : Link) (m : CabMsg) : Link :=
  match l.sending with
  | none => l.begin m
  | some _ => { l with outbound := l.outbound ++ [m] }

def sendCab (cab : Nat) (m : CabMsg) (s : State) : State :=
  putLink cab ((s.link cab).hand m) s

/-- The bond controller sends only to a cabinet whose link is UP (R106). -/
def sendIfUp (cab : Nat) (m : CabMsg) (s : State) : State :=
  if (s.link cab).state = .up then sendCab cab m s else s

/-- The frames that are discarded, their sending not begun, when the link leaves UP: those the bond controller
handed over (R186), and KEEP, which is sent in no other state (R133). -/
def CabMsg.onlyInUp : CabMsg → Bool
  | .keep => true
  | .setpoint _ _ => true
  | .release _ => true
  | .bond _ _ => true
  | .ceiling _ => true
  | .probe => false
  | .zero => false
  | .isolate => false

def Link.discardQueued (l : Link) : Link :=
  { l with outbound := l.outbound.filter (fun m => !m.onlyInUp) }

/-! ### The outbound queue (R181, R182) -/

/-- At most this many entries. -/
def queueSize : Nat := 16

/-- The first member of a list that passes a test, and the list without it. -/
def takeFirst {α : Type} (p : α → Bool) : List α → Option (α × List α)
  | [] => none
  | a :: l => if p a then some (a, l) else (takeFirst p l).map (fun x => (x.1, a :: x.2))

/-- An entry is taken for transmission. The flags byte of a notice takes the notice-lost flag, which is then
cleared (R181). -/
def OrderLink.transmit (o : OrderLink) (f : OutFrame) (rest : List OutFrame) : OrderLink :=
  if f.isReply then { o with queue := rest, sending := some f }
  else { o with queue := rest, sending := some { f with body := encFlag o.noticeLost ++ f.body },
                noticeLost := false }

/-- While the line is free: the oldest reply if there is one, and otherwise the oldest notice (R181). Nothing begins
once the RESTART reply has been sent, since the restart takes effect then (R185). -/
def OrderLink.startNext (o : OrderLink) : OrderLink :=
  if o.sending.isSome || o.restart = .due then o
  else
    match takeFirst (fun f => f.isReply) o.queue with
    | some (f, rest) => o.transmit f rest
    | none =>
      match takeFirst (fun _ => true) o.queue with
      | some (f, rest) => o.transmit f rest
      | none => o

/-- A notice is placed, or dropped at a full queue (R182). -/
def OrderLink.placeNotice (o : OrderLink) (kind : Byte) (body : List Byte) : OrderLink :=
  if o.queue.length < queueSize then
    ({ o with queue := o.queue ++ [⟨false, 0, kind, body⟩] } : OrderLink).startNext
  else { o with noticeLost := true }

/-- A reply is placed. At a full queue it discards the oldest notice (R182); with 16 replies there is no place, and
`takeOrder` does not take the order. -/
def OrderLink.placeReply (o : OrderLink) (tag kind : Byte) (body : List Byte) : OrderLink :=
  let f : OutFrame := ⟨true, tag, kind, body⟩
  if o.queue.length < queueSize then ({ o with queue := o.queue ++ [f] } : OrderLink).startNext
  else
    match takeFirst (fun x => !x.isReply) o.queue with
    | some (_, rest) => ({ o with queue := rest ++ [f], noticeLost := true } : OrderLink).startNext
    | none => o

def OrderLink.replies (o : OrderLink) : Nat := (o.queue.filter (fun f => f.isReply)).length

def OrderLink.notices (o : OrderLink) : Nat := (o.queue.filter (fun f => !f.isReply)).length

def NoticeEnables.on (e : NoticeEnables) : NoticeKind → Bool
  | .session => e.session
  | .ready => e.ready
  | .fault => e.fault
  | .shed => e.shed
  | .pass => e.pass
  | .link => e.link
  | .line => e.line
  | .narrow => e.narrow

/-- A block creates a notice only while the enable of its kind is on (section 10.4). -/
def notify (k : NoticeKind) (body : List Byte) (s : State) : State :=
  if s.order.enables.on k then { s with order := s.order.placeNotice k.byte body } else s

/-! ### Taking an order (R180, R182, R185) -/

/-- Table 10-1. -/
inductive Status where
  | ok | range | state | locked | unknown | length | empty
  deriving DecidableEq, Repr

def Status.byte : Status → Byte
  | .ok => 0x00
  | .range => 0x01
  | .state => 0x02
  | .locked => 0x03
  | .unknown => 0x04
  | .length => 0x05
  | .empty => 0x06

/-- The body of a reply with status OK: the fields of the owning rule. -/
def okBody (fields : List Byte) : List Byte := Status.ok.byte :: fields

/-- The body of a refusal whose rule fills none of the `width` bytes of fields (R180). -/
def refusal (st : Status) (width : Nat) : List Byte := st.byte :: List.replicate width 0

/-- The reply is created and placed after the order's effect (R180). -/
def answer (tag kind : Byte) (r : State × List Byte) : State :=
  { r.1 with order := r.1.order.placeReply tag kind r.2 }

/-- Whether a completed order is taken when it completes: no RESTART has been taken (R185), no order is held and
the queue has a place for the reply (R182). -/
def canTake (s : State) : Bool :=
  s.order.restart = .none && s.order.held.isNone && s.order.replies < queueSize

/-- A completed order `f` with the effect its owner gives it. It is discarded after a RESTART and while another
order is held, becomes the held order when the queue holds 16 replies, and is carried out and answered otherwise. -/
def takeFrame (f : OrderFrame) (replyKind : Byte) (effect : State → State × List Byte) (s : State) : State :=
  if canTake s then answer f.tag replyKind (effect s)
  else if s.order.restart = .none && s.order.held.isNone then { s with order := { s.order with held := some f } }
  else s

/-- Taking an order of the catalogue; the kind of its reply is the order's plus 0x80 (R180). -/
def takeOrder (i : Instr) (effect : State → State × List Byte) (s : State) : State :=
  match encodeOrder i with
  | some f => takeFrame f (f.kind + 0x80) effect s
  | none => s

/-! ### Events at a unit (Table 0-2) -/

def atCab (cab : Nat) (f : State → State) (s : State) : Result :=
  if validCab cab then .next (f s) else .fault (.noSuchCabinet cab)

def atBay (bay : Nat) (f : State → State) (s : State) : Result :=
  if validBay bay then .next (f s) else .fault (.noSuchBay bay)

def atLine (line : Nat) (f : State → State) (s : State) : Result :=
  if validLine line then .next (f s) else .fault (.noSuchLine line)

def atModule (cab m : Nat) (f : State → State) (s : State) : Result :=
  if validCab cab then (if validModule m then .next (f s) else .fault (.noSuchModule m))
  else .fault (.noSuchCabinet cab)

end Sys2Proof.Machine
end

