-- ==== Sys2Proof/Machine/Flags.lean ====
section
/-! DEFINITION. The conditions and sums that the blocks compute from the state: they are held nowhere, and every
rule that names one reads it here. -/

namespace Sys2Proof.Machine

/-! ### Sessions -/

/-- Open: any state but VACANT (section 0.6). -/
def Session.isOpen (x : Session) : Bool := x.state ≠ .vacant

def Holds.has (h : Holds) : HoldReason → Bool
  | .host => h.host
  | .fault => h.fault
  | .link => h.link
  | .stop => h.stop

def Holds.set (h : Holds) (r : HoldReason) (v : Bool) : Holds :=
  match r with
  | .host => { h with host := v }
  | .fault => { h with fault := v }
  | .link => { h with link := v }
  | .stop => { h with stop := v }

/-- Held: at least one reason (section 0.6). -/
def Holds.any (h : Holds) : Bool := h.host || h.fault || h.link || h.stop

/-- ACTIVE or SATISFIED, the states with a countdown above 0. -/
def SessionState.counts : SessionState → Bool
  | .active => true
  | .satisfied => true
  | .vacant => false
  | .identifying => false
  | .overdue => false

/-- The countdown formula of R9. -/
def countdownFrom (departure minute : Nat) : Nat :=
  let d := (departure + 1440 - minute % 1440) % 1440
  if d = 0 then 1440 else d

/-- The window open flag of R12. -/
def Session.opensWindow (x : Session) : Bool :=
  0 < x.plan.power && 0 < x.plan.window && x.state.counts &&
    (match x.countdown with
     | some c => c ≤ x.plan.window
     | none => false)

/-- Target met, as R20 takes it: an IDENTIFYING session has no target. -/
def Session.targetMet (x : Session) : Bool := x.state ≠ .identifying && x.plan.target ≤ x.battery

/-- SATISFIED when the battery energy is at or above the target, and ACTIVE otherwise (R5). -/
def stateFor (battery target : Nat) : SessionState := if target ≤ battery then .satisfied else .active

/-! ### Modules and power -/

/-- The healthy states of Table 5-2. -/
def ModuleState.healthy : ModuleState → Bool
  | .free => true
  | .closing => true
  | .bonded => true
  | .ramping => true
  | .opening => true
  | .absent => false
  | .unknown => false
  | .faulted => false

/-- The modules of a bay's cabinet that are in state `st` with that bay, ascending. -/
def modulesOf (s : State) (bay : Nat) (st : ModuleState) : List Nat :=
  allModules.filter fun m =>
    (s.module (cabOf bay) m).state = st && (s.module (cabOf bay) m).bay = some bay

/-- The bonded, ramping and closing counts of Table 5-3. -/
def bonded (s : State) (bay : Nat) : Nat := (modulesOf s bay .bonded).length
def ramping (s : State) (bay : Nat) : Nat := (modulesOf s bay .ramping).length
def closing (s : State) (bay : Nat) : Nat := (modulesOf s bay .closing).length

/-- The healthy modules of a cabinet (R79). -/
def healthyCount (s : State) (cab : Nat) : Nat :=
  (allModules.filter fun m => (s.module cab m).state.healthy).length

/-- The target module count m of Table 5-3. -/
def targetCount (grant : Nat) : Nat := ceilDiv grant 300

/-- The sum of the commanded setpoints (section 5.2). -/
def commandedSum (s : State) : Nat := (allBays.map fun b => (s.power b).commanded).sum

/-- The sum of a link's lost-hold values; 0 while no lost hold runs (section 6.1). -/
def Link.lostSum (l : Link) : Nat :=
  match l.lostHold with
  | none => 0
  | some v => v.toList.sum

def lostHoldSum (s : State) : Nat := (allCabs.map fun c => (s.link c).lostSum).sum

/-- The site exposure of section 5.2. -/
def siteExposure (s : State) : Nat :=
  (allBays.map fun b => max (s.power b).commanded (s.power b).reported).sum + lostHoldSum s

/-! ### Envelope -/

/-- The schedule limit: the limit of the step the walker stands on, or 65,535 while no bank is active (R56). -/
def scheduleLimit (e : Envelope) : Nat :=
  if e.activeBank = 0 then 65535
  else (get1 (get1 e.banks (Vector.replicate 16 LimitStep.reset) e.activeBank) LimitStep.reset e.walker).limit

/-- The curtailment limit of R59. -/
def curtailLimit (e : Envelope) : Nat :=
  if e.effStage = 0 then 65535 else get1 e.stageLimits 65535 e.effStage

/-- The smaller of the schedule limit and the curtailment limit. -/
def runningLimit (e : Envelope) : Nat := min (scheduleLimit e) (curtailLimit e)

/-- The available power of R66. -/
def availableOf (e : Envelope) : Nat :=
  match e.siteCeiling with
  | none => 0
  | some ceiling => min ceiling (runningLimit e) - e.building - e.margin

/-- Whether a line has the function METER_PULSE. -/
def meterAssigned (s : State) : Bool :=
  allLines.any fun l => (s.line l).settings.function = .meterPulse

/-- The building estimate of R64. -/
def buildingOf (assigned : Bool) (e : Envelope) : Nat :=
  if assigned then
    match e.lastWindow with
    | some p => min 65535 (max e.reserve (ceilDiv (p * e.whPerPulse * 3) 5))
    | none => e.reserve
  else e.reserve

/-- The level of a function as the line stage counts it (R59): 1 when the line that has it is asserted. -/
def functionLevel (s : State) (f : LineFunction) : Nat :=
  if allLines.any (fun l => (s.line l).settings.function = f && (s.line l).level) then 1 else 0

/-- The stage as the two curtailment lines give it (R59). -/
def stageOfLines (s : State) : Nat := functionLevel s .curtailA + 2 * functionLevel s .curtailB

/-- The measured draw M of R68. -/
def measuredDraw (s : State) : Nat :=
  ((allBays.filter fun b => (s.link (cabOf b)).state = .up || (s.link (cabOf b)).state = .isolated).map
    fun b => (s.power b).reported).sum + lostHoldSum s + s.env.building

/-- The tolerance of R68. -/
def overdrawTolerance (available : Nat) : Nat := max 20 (available / 50)

/-! ### Allocation, alarm, lines -/

/-- Allocation is enabled (R76). -/
def allocationEnabled (s : State) : Bool :=
  s.clock.setMarker && s.env.siteCeiling.isSome && s.faults.stopMinute.isNone

/-- A pass is in flight. -/
def inFlight (s : State) : Bool := s.alloc.snapshot.isSome

/-- What the alarm indication is evaluated to (R163). -/
def alarmWanted (s : State) : Bool :=
  s.faults.stopMinute.isSome ||
  (s.faults.alarms.correctable && allCabs.any fun c => (s.cabFaults c).correctable.isSome) ||
  (s.faults.alarms.nonfatal &&
    (s.faults.overdrawMinute.isSome || allCabs.any fun c => (s.cabFaults c).nonfatal.isSome)) ||
  (s.faults.alarms.fatal && allCabs.any fun c => (s.cabFaults c).fatal.isSome)

def ClassEnables.on (e : ClassEnables) : FaultClass → Bool
  | .correctable => e.correctable
  | .nonfatal => e.nonfatal
  | .fatal => e.fatal

/-- The input functions (section 9.1). -/
def LineFunction.isInput : LineFunction → Bool
  | .generalIn => true
  | .curtailA => true
  | .curtailB => true
  | .meterPulse => true
  | .stopIn => true
  | .generalOut => false
  | .alarmOut => false
  | .readyOut => false

/-- The READY_OUT indication (R150). -/
def readyIndication (s : State) : Bool := !s.ready.records.isEmpty

/-- An ALARM_OUT line blinks while the indication is asserted and its blink setting is on (R174). -/
def Line.blinks (x : Line) (alarm : Bool) : Bool :=
  x.settings.function = .alarmOut && x.settings.blink && alarm

/-- Whether an output line is driven asserted at this moment (R174). -/
def drivenAsserted (s : State) (x : Line) : Bool :=
  match x.settings.function with
  | .generalOut => x.settings.outputLevel
  | .readyOut => readyIndication s
  | .alarmOut => s.faults.alarm && (!x.settings.blink || x.blinkHalf)
  | .generalIn => false
  | .curtailA => false
  | .curtailB => false
  | .meterPulse => false
  | .stopIn => false

/-- The raw level of a pin (R171, R176): an output drives it, except that OPEN_DRAIN leaves the high level to the
resistors outside. What a pin reads when its pull-up is switched and nothing outside drives it is not stated. DESIGN
CHOICE (unsafe, log entry 47): the pull-up acts on no level, and the level from outside changes only by
YARD_PIN_CHANGE. -/
def rawPin (s : State) (x : Line) : Bool :=
  if x.settings.function.isInput then x.pin
  else
    let high := drivenAsserted s x != x.settings.invert
    match x.settings.drive with
    | .pushPull => high
    | .openDrain => high && x.pin

/-- The number of STOP_IN lines whose filtered level is asserted (R168, R176). -/
def stopLinesAsserted (s : State) : Nat :=
  (allLines.filter fun l => (s.line l).settings.function = .stopIn && (s.line l).level).length

/-- The filter time of an input function (R172). -/
def filterTime (f : LineFunction) : Nat := if f = .meterPulse then meterFilterMs else filterMs

end Sys2Proof.Machine
end

