-- ==== Sys2Proof/Machine/Requests.lean ====
section
/-! DEFINITION. Pass requests and the start of a pass (sections 4.2 and 4.3). -/

namespace Sys2Proof.Machine

/-- What the snapshot copies of one bay (R79). -/
def snapBay (x : Session) : SnapBay :=
  { state := x.state, serial := x.serial, unheld := !x.holds.any, countdown := x.countdown,
    target := x.plan.target, battery := x.battery, acceptance := x.acceptance, windowOpen := x.windowOpen,
    power := x.plan.power, priority := x.plan.priority }

/-- The snapshot of R79, each value as it stands. -/
def takeSnapshot (s : State) : Snapshot :=
  { available := s.env.available
    ceilings := tabulate 8 fun c => (s.ceiling c).steps
    linkUp := tabulate 8 fun c => decide ((s.link c).state = .up)
    healthy := tabulate 8 fun c => healthyCount s c
    bays := tabulate 48 fun b => snapBay (s.session b) }

/-- The period timer starts at the period (R77). -/
def startPeriod (s : State) : State :=
  { s with alloc := { s.alloc with periodTimer := some (s.alloc.period * 1000) } }

/-- A pass starts (R79). -/
def startPass (s : State) : State :=
  let s1 := startPeriod { s with alloc := { s.alloc with again := false, stale := false } }
  { s1 with alloc := { s1.alloc with snapshot := some (takeSnapshot s) } }

/-- A pass request reaches the allocator (R75). -/
def requestPass (s : State) : State :=
  if allocationEnabled s then
    if inFlight s then { s with alloc := { s.alloc with again := true } } else startPass s
  else s

/-- A pass in flight is marked stale (R80). -/
def markStale (s : State) : State :=
  if inFlight s then { s with alloc := { s.alloc with stale := true } } else s

end Sys2Proof.Machine
end

