-- ==== Sys2Proof/Machine/Pass.lean ====
section
/-! DEFINITION. The computation of a pass from its snapshot (sections 4.4 to 4.6): a pure function of the
snapshot, as R79 says. -/

namespace Sys2Proof.Machine

/-- The snapshot's values for a bay. -/
def Snapshot.bay (p : Snapshot) (bay : Nat) : SnapBay := get1 p.bays (snapBay (Session.vacant 0)) bay

def Snapshot.ceiling (p : Snapshot) (cab : Nat) : Nat := get1 p.ceilings 0 cab

/-- The bay's cabinet link is UP in the snapshot. -/
def Snapshot.up (p : Snapshot) (bay : Nat) : Bool := get1 p.linkUp false (cabOf bay)

/-! ### Per-session quantities (R81 to R84) -/

/-- The bay's session takes part in the key order (R81). -/
def Snapshot.inKeyOrder (p : Snapshot) (bay : Nat) : Bool :=
  (p.bay bay).state.counts && (p.bay bay).unheld && p.up bay

/-- The bay's session takes part in stage C (R81). -/
def Snapshot.inStageC (p : Snapshot) (bay : Nat) : Bool :=
  (p.bay bay).state = .overdue && (p.bay bay).unheld && p.up bay && (p.bay bay).battery < (p.bay bay).target

/-- Remaining energy E (R82). -/
def SnapBay.energy (x : SnapBay) : Nat := x.target - x.battery

/-- Countdown T (R82). DESIGN CHOICE (log entry 32): an absent countdown reads as 0. -/
def SnapBay.minutes (x : SnapBay) : Nat := x.countdown.getD 0

/-- Precondition power P_pre (R82). -/
def SnapBay.pre (x : SnapBay) : Nat := if x.windowOpen then x.power else 0

/-- Bay cap K, for a precondition power `pre` (R82). -/
def Snapshot.bayCap (p : Snapshot) (bay pre : Nat) : Nat :=
  min ((p.bay bay).acceptance + pre) (min 1200 (p.ceiling (cabOf bay)))

/-- Charge cap C (R82). -/
def Snapshot.chargeCap (p : Snapshot) (bay pre : Nat) : Nat := p.bayCap bay pre - pre

/-- Need N (R83). -/
def SnapBay.need (x : SnapBay) : Nat := ceilDiv (3 * x.energy) (5 * x.minutes)

/-- Slack S (R83), for a charge cap `c`. -/
def SnapBay.slack (x : SnapBay) (c : Nat) : Int :=
  if x.energy = 0 then x.minutes
  else if c = 0 then -1440
  else max (-1440) ((x.minutes : Int) - (ceilDiv (3 * x.energy) (5 * c) : Nat))

/-- The slack of a bay's session. -/
def Snapshot.slackOf (p : Snapshot) (bay : Nat) : Int :=
  (p.bay bay).slack (p.chargeCap bay (p.bay bay).pre)

/-- Bay `a` is served before bay `b` by the keys of R84. -/
def Snapshot.before (p : Snapshot) (a b : Nat) : Bool :=
  if (p.bay a).priority ≠ (p.bay b).priority then (p.bay a).priority
  else if p.slackOf a ≠ p.slackOf b then p.slackOf a < p.slackOf b
  else if (p.bay a).minutes ≠ (p.bay b).minutes then (p.bay a).minutes < (p.bay b).minutes
  else a < b

/-- A bay takes its place in an ordered list. -/
def Snapshot.insert (p : Snapshot) (a : Nat) : List Nat → List Nat
  | [] => [a]
  | b :: l => if p.before a b then a :: b :: l else b :: p.insert a l

/-- The key order (R84). -/
def Snapshot.keyOrder (p : Snapshot) : List Nat :=
  (allBays.filter p.inKeyOrder).foldr p.insert []

/-- The stage C sessions, in ascending bay order (R91). -/
def Snapshot.stageC (p : Snapshot) : List Nat := allBays.filter p.inStageC

/-! ### Resources and increments (R85 to R87) -/

/-- The working values of R85. -/
structure Work where
  site     : Nat
  cabinet  : Vector Nat 8
  free     : Vector Nat 8
  grants   : Vector Nat 48
  received : Vector Nat 48
  preShort : Vector Bool 48
  deriving DecidableEq, Repr

def Work.grant (w : Work) (bay : Nat) : Nat := get1 w.grants 0 bay
def Work.pre (w : Work) (bay : Nat) : Nat := get1 w.received 0 bay
def Work.room (w : Work) (bay : Nat) : Nat := get1 w.cabinet 0 (cabOf bay)
def Work.modules (w : Work) (bay : Nat) : Nat := get1 w.free 0 (cabOf bay)

/-- R85: only a cabinet whose link is UP has resources. -/
def Work.start (p : Snapshot) : Work :=
  { site := p.available
    cabinet := tabulate 8 fun c => if get1 p.linkUp false c then p.ceiling c else 0
    free := tabulate 8 fun c => if get1 p.linkUp false c then get1 p.healthy 0 c else 0
    grants := Vector.replicate 48 0
    received := Vector.replicate 48 0
    preShort := Vector.replicate 48 false }

/-- The module headroom H of R86. -/
def Work.headroom (w : Work) (bay : Nat) : Nat :=
  (w.modules bay + ceilDiv (w.grant bay) 300) * 300 - w.grant bay

/-- The increment of R86 before the minimum rule. -/
def Work.increment (w : Work) (bay x : Nat) : Nat :=
  min x (min w.site (min (w.room bay) (w.headroom bay)))

/-- The minimum rule of R87, for a bay cap `k`. -/
def Work.adjusted (w : Work) (bay k y : Nat) : Nat :=
  if w.grant bay = 0 && 1 ≤ y && y < 20 then
    if 20 ≤ w.site && 20 ≤ w.room bay && 20 ≤ w.headroom bay && 20 ≤ k then 20 else 0
  else y

/-- An increment of `y` is granted (R86). -/
def Work.give (w : Work) (bay y : Nat) : Work :=
  let g := w.grant bay
  { w with
    site := w.site - y
    cabinet := set1 w.cabinet (cabOf bay) (w.room bay - y)
    free := set1 w.free (cabOf bay) (w.modules bay - (ceilDiv (g + y) 300 - ceilDiv g 300))
    grants := set1 w.grants bay (g + y) }

/-- A stage asks for `x` steps for a bay, and gives what R86 and R87 allow. -/
def Work.ask (w : Work) (bay k x : Nat) : Work :=
  w.give bay (w.adjusted bay k (w.increment bay x))

/-- The charge part of a working grant (R90). -/
def Work.charge (w : Work) (bay : Nat) : Nat := w.grant bay - w.pre bay

/-! ### The stages (R88 to R91) -/

/-- Stage 0 for one session: P_pre whole or not at all (R88). -/
def stage0 (p : Snapshot) (w : Work) (bay : Nat) : Work :=
  let x := (p.bay bay).pre
  if x = 0 then w
  else if w.increment bay x = x then
    { w.give bay x with received := set1 w.received bay x }
  else { w with preShort := set1 w.preShort bay true }

/-- Stage A for one session (R89). -/
def stageA (p : Snapshot) (w : Work) (bay : Nat) : Work :=
  let x := p.bay bay
  if x.energy = 0 then w
  else w.ask bay (p.bayCap bay x.pre) (min x.need (p.chargeCap bay x.pre))

/-- Stage B for one session (R90). -/
def stageB (p : Snapshot) (w : Work) (bay : Nat) : Work :=
  let x := p.bay bay
  if x.energy = 0 then w
  else w.ask bay (p.bayCap bay x.pre) (p.chargeCap bay x.pre - w.charge bay)

/-- Stage C for one session (R91). -/
def stageCStep (p : Snapshot) (w : Work) (bay : Nat) : Work :=
  w.ask bay (p.bayCap bay 0) (p.chargeCap bay 0)

/-- The stages in the order 0, A, B, C, each finished before the next begins (section 4.6). -/
def runStages (p : Snapshot) : Work :=
  let order := p.keyOrder
  let w0 := order.foldl (stage0 p) (Work.start p)
  let wA := order.foldl (stageA p) w0
  let wB := order.foldl (stageB p) wA
  p.stageC.foldl (stageCStep p) wB

/-- The result of a pass (R92). -/
structure PassResult where
  grants   : Vector Nat 48
  short    : Vector Bool 48
  preShort : Vector Bool 48
  order    : List Nat
  total    : Nat
  deriving DecidableEq, Repr

def PassResult.grant (r : PassResult) (bay : Nat) : Nat := get1 r.grants 0 bay

/-- R92. -/
def passResult (p : Snapshot) : PassResult :=
  let w := runStages p
  { grants := w.grants
    short := tabulate 48 fun b =>
      (p.bay b).state = .active && p.inKeyOrder b && decide (w.charge b < (p.bay b).need)
    preShort := w.preShort
    order := p.keyOrder ++ p.stageC
    total := (allBays.map w.grant).sum }

/-- The result is over the limits now in force (R93, step 3). -/
def overLimits (s : State) (r : PassResult) : Bool :=
  s.env.available < r.total ||
    allCabs.any fun c => (s.ceiling c).steps < ((baysOf c).map r.grant).sum

end Sys2Proof.Machine
end

