-- ==== Sys2Proof/Machine/Bonding.lean ====
section
/-! DEFINITION. The bond controller (chapter 5): setpoints, reductions and raises, releases and bonds, the two kinds
of waiting list, a publication, and what a link's changes of state and a module fault do to it. -/

namespace Sys2Proof.Machine

/-! ### Setpoints -/

/-- The commanded setpoint changes at the moment its SETPOINT is handed to the link (R106). -/
def sendSetpoint (bay v : Nat) (s : State) : State :=
  sendIfUp (cabOf bay) (.setpoint (posOf bay) v)
    (putPower bay { s.power bay with commanded := v } s)

/-- A reduction: SETPOINT, and the ramp timer starts at 5 s (R113). -/
def reduce (bay v : Nat) (s : State) : State :=
  let s1 := sendSetpoint bay v s
  putPower bay { s1.power bay with ramp := some rampMs } s1

/-! ### Raises (R111) -/

/-- The raise limit t of R111. -/
def raiseLimit (s : State) (bay : Nat) : Nat := min (s.session bay).grant (300 * bonded s bay)

/-- The raise y of R111 for the head bay; 0 or less means none. -/
def raiseOf (s : State) (bay : Nat) : Int :=
  let c := (s.power bay).commanded
  let y := min ((raiseLimit s bay : Int) - c) ((s.env.available : Int) - siteExposure s)
  if c = 0 && y < 20 then 0 else y

/-- The examination of the raise waiting list from its head (R111). -/
def examineFrom : List Nat → State → State
  | [], s => putRaiseList [] s
  | h :: rest, s =>
    let g := (s.session h).grant
    let c := (s.power h).commanded
    if c = g then examineFrom rest s
    else if c < g ∧ raiseLimit s h ≤ c then putRaiseList (h :: rest) s
    else
      let y := raiseOf s h
      if y ≤ 0 then putRaiseList (h :: rest) s
      else
        let s1 := sendSetpoint h (c + y.toNat) s
        if c + y.toNat = g then examineFrom rest s1 else putRaiseList (h :: rest) s1

/-- While a site stop is in force the raise waiting list is not examined (R127). -/
def examineRaises (s : State) : State :=
  if s.faults.stopMinute.isSome then s else examineFrom s.bond.raiseList s

/-! ### Bond waiting lists (R108) -/

/-- The lowest-numbered FREE module of a cabinet. -/
def freeModule (s : State) (cab : Nat) : Option Nat :=
  allModules.find? fun m => (s.module cab m).state = .free

/-- The head entry takes a FREE module (R108). -/
def serveHead (cab : Nat) (s : State) : State :=
  match s.bondList cab with
  | [] => s
  | e :: rest =>
    if s.faults.stopMinute.isSome then s
    else
      match freeModule s cab with
      | none => s
      | some m =>
        let s1 := sendIfUp cab (.bond m (posOf e.bay)) s
        let s2 := putModule cab m { state := .closing, bay := some e.bay, contactor := some contactorMs } s1
        putBondList cab (if e.wanted ≤ 1 then rest else { e with wanted := e.wanted - 1 } :: rest) s2

/-- The list is served while it and the FREE modules last; a cabinet has four modules (R108). -/
def serveBonds (cab : Nat) (s : State) : State :=
  serveHead cab (serveHead cab (serveHead cab (serveHead cab s)))

/-! ### A grant lowered between publications (R110) -/

/-- The wanted count of a bay's bond entry is set from its new grant (R110, step 3). -/
def trimBondList (bay : Nat) (s : State) : State :=
  let wanted := targetCount (s.session bay).grant - bonded s bay - closing s bay
  putBondList (cabOf bay) ((s.bondList (cabOf bay)).filterMap fun e =>
    if e.bay = bay then (if wanted = 0 then none else some { e with wanted := wanted }) else some e) s

/-- The bond controller is given a bay's lowered grant, which stands in the session record (R110). -/
def lowerGrant (bay : Nat) (s : State) : State :=
  if (s.link (cabOf bay)).state = .up then
    let g := (s.session bay).grant
    let s1 := if g < (s.power bay).commanded then reduce bay g s else s
    let s2 := putRaiseList (s1.bond.raiseList.filter (fun b => b ≠ bay)) s1
    examineRaises (trimBondList bay s2)
  else s

/-! ### Releases (R107, R114, R118) -/

/-- Ramp cancellation: the lowest-numbered RAMPING modules return to BONDED until the bonded count is m (R118). -/
def cancelRamps (bay : Nat) (s : State) : State :=
  forEach allModules (fun m s =>
    let x := s.module (cabOf bay) m
    if x.state = .ramping ∧ x.bay = some bay ∧ bonded s bay < targetCount (s.session bay).grant then
      putModule (cabOf bay) m { x with state := .bonded } s
    else s) s

/-- The highest-numbered BONDED modules go to RAMPING until the bonded count is m (R107, R116). -/
def releaseExcess (bay : Nat) (s : State) : State :=
  forEach allModules.reverse (fun m s =>
    let x := s.module (cabOf bay) m
    if x.state = .bonded ∧ x.bay = some bay ∧ targetCount (s.session bay).grant < bonded s bay then
      putModule (cabOf bay) m { x with state := .ramping } s
    else s) s

/-- The release test of a bay (R114). -/
def releaseTest (bay : Nat) (s : State) : State :=
  if (s.power bay).reported ≤ 300 * bonded s bay then
    forEach (modulesOf s bay .ramping) (fun m s =>
      putModule (cabOf bay) m { state := .opening, bay := none, contactor := some contactorMs }
        (sendIfUp (cabOf bay) (.release m) s)) s
  else s

/-- The ramp timer test of a bay (R113). -/
def rampTest (bay : Nat) (s : State) : State :=
  let x := s.power bay
  if x.ramp.isSome ∧ x.reported ≤ x.commanded + 10 then putPower bay { x with ramp := none } s else s

/-- The steps of R105 at a STATUS arrival, with the reported power of each of the six positions. -/
def takeReported (cab : Nat) (reported : Nat → Nat) (s : State) : State :=
  let s1 := forEach (baysOf cab) (fun b s => putPower b { s.power b with reported := reported (posOf b) } s) s
  let s2 := if (s1.link cab).state = .up
    then forEach (baysOf cab) releaseTest (forEach (baysOf cab) rampTest s1) else s1
  examineRaises s2

/-! ### A publication (R107) -/

/-- The bays whose cabinet link is UP, in ascending order. -/
def upBays (s : State) : List Nat := allBays.filter fun b => (s.link (cabOf b)).state = .up

/-- A bay's entry in the rebuilt bond waiting list, when it has one (R108). -/
def bondEntry (s : State) (bay : Nat) : Option BondEntry :=
  let held := bonded s bay + closing s bay
  let m := targetCount (s.session bay).grant
  if held < m then some ⟨bay, m - held⟩ else none

/-- Each cabinet's bond waiting list is rebuilt in the last order (R107, step 4). -/
def rebuildBonds (s : State) : State :=
  forEach allCabs (fun c s =>
    putBondList c (if (s.link c).state = .up then
      (s.alloc.lastOrder.filter fun b => cabOf b = c).filterMap (bondEntry s) else []) s) s

/-- The raise waiting list is rebuilt in the last order (R109). -/
def rebuildRaises (s : State) : State :=
  putRaiseList (s.alloc.lastOrder.filter fun b =>
    (s.link (cabOf b)).state = .up && (s.power b).commanded < (s.session b).grant) s

/-- The bond controller takes a publication, in the six steps of R107. -/
def bondPublication (s : State) : State :=
  let s1 := forEach (upBays s) cancelRamps s
  let s2 := forEach (upBays s1) (fun b s =>
    if (s.session b).grant < (s.power b).commanded then reduce b (s.session b).grant s else s) s1
  let s3 := forEach (upBays s2) releaseExcess s2
  let s5 := rebuildRaises (rebuildBonds s3)
  examineRaises (forEach allCabs serveBonds s5)

/-! ### Module reports (R115 to R117) and module faults (R121, R122) -/

/-- A report of opened. -/
def moduleOpened (cab m : Nat) (s : State) : State :=
  match (s.module cab m).state with
  | .opening => serveBonds cab (putModule cab m { state := .free, bay := none, contactor := none } s)
  | .closing =>
    serveBonds cab (requestPass (putModule cab m { state := .free, bay := none, contactor := none } s))
  | _ => s

/-- A report of closed (R116; log entry 32 for a CLOSING module with no bay). -/
def moduleClosed (cab m : Nat) (s : State) : State :=
  let x := s.module cab m
  match x.state with
  | .closing =>
    let s1 := putModule cab m { x with state := .bonded, contactor := none } s
    examineRaises (requestPass (releaseExcess (x.bay.getD 0) s1))
  | _ => s

/-- The NARROW notice of R122, for the state the module had. -/
def narrowNotice (bay cab m : Nat) (had : ModuleState) (s : State) : State :=
  notify .narrow (enc8 bay ++ enc8 cab ++ enc8 m ++ enc8 had.code ++ enc8 (bonded s bay) ++
    enc16 (s.power bay).commanded) s

/-- The commanded setpoint is clipped to what the bonded modules carry (R121). -/
def clipSetpoint (bay : Nat) (s : State) : State :=
  if 300 * bonded s bay < (s.power bay).commanded then reduce bay (300 * bonded s bay) s else s

/-- A module fault (R121; log entry 32 for a BONDED or RAMPING module with no bay). -/
def moduleFault (cab m : Nat) (s : State) : State :=
  let x := s.module cab m
  let s1 := putModule cab m { state := .faulted, bay := none, contactor := none } s
  match x.state with
  | .bonded =>
    let b := x.bay.getD 0
    examineRaises (requestPass (narrowNotice b cab m .bonded (clipSetpoint b s1)))
  | .ramping => requestPass (narrowNotice (x.bay.getD 0) cab m .ramping s1)
  | .closing => requestPass s1
  | .opening => requestPass s1
  | .free => requestPass s1
  | .unknown => s1
  | .absent => s1
  | .faulted => s

/-! ### Cabinet links (R123 to R126) -/

/-- A lost hold starts, or takes the place of the one running, each value the larger of the two (R136). -/
def Link.startLostHold (l : Link) (values : Nat → Nat) : Link :=
  { l with
    lostHold := some (tabulate 6 fun p =>
      match l.lostHold with
      | none => values p
      | some v => max (get1 v 0 p) (values p))
    lostTimer := some lostHoldMs }

/-- The bays' reported powers become 0, and the link holds their last values (R123, R142). -/
def holdReported (cab : Nat) (s : State) : State :=
  let s1 := putLink cab ((s.link cab).startLostHold fun p => (s.power (bayAt cab p)).reported) s
  forEach (baysOf cab) (fun b s => putPower b { s.power b with reported := 0 } s) s1

/-- The link leaves UP, step 1: every module that is not FAULTED becomes UNKNOWN (R123). -/
def forgetModules (cab : Nat) (s : State) : State :=
  forEach allModules (fun m s =>
    if (s.module cab m).state = .faulted then s else putModule cab m Module.reset s) s

/-- What the bond controller does when a link leaves UP (R123). `held` is yes where the link becomes LOST or
TRAINING, which hold the reported powers, and no where it becomes ISOLATED, which keeps them. -/
def bondLeavesUp (held : Bool) (cab : Nat) (s : State) : State :=
  let healthy := healthyCount s cab
  let s1 := forgetModules cab s
  let s2 := forEach (baysOf cab) (fun b s => putPower b { s.power b with commanded := 0, ramp := none } s) s1
  let s3 := putRaiseList (s2.bond.raiseList.filter fun b => cabOf b ≠ cab) (putBondList cab [] s2)
  let s4 := if held then holdReported cab s3 else s3
  let s5 := examineRaises s4
  if healthy = 0 then s5 else requestPass s5

/-- CEILING carries the cabinet's ceiling (R126). -/
def sendCeiling (cab : Nat) (s : State) : State := sendIfUp cab (.ceiling (s.ceiling cab).steps) s

/-- A DESCRIPTOR sets the modules it does not name ABSENT (R124). -/
def bondDescriptor (cab : Nat) (installed : List Nat) (s : State) : State :=
  sendCeiling cab (forEach allModules (fun m s =>
    if installed.contains m then s
    else putModule cab m { state := .absent, bay := none, contactor := none } s) s)

/-- The module record that a module byte of the adoption arrival gives (R125). -/
def adoptedModule (cab : Nat) (b : Byte) : Module :=
  if b = 0 then { state := .free, bay := none, contactor := none }
  else if b.toNat ≤ 6 then { state := .bonded, bay := some (bayAt cab b.toNat), contactor := none }
  else { state := .faulted, bay := none, contactor := none }

/-- The modules are adopted; a change of their health makes one request (R125, R103). -/
def adoptModules (cab : Nat) (installed : List Nat) (entries : Vector Byte 4) (s : State) : State :=
  let s1 := forEach allModules (fun m s =>
    if installed.contains m then putModule cab m (adoptedModule cab (get1 entries 0 m)) s else s) s
  if allModules.any fun m => (s.module cab m).state.healthy != (s1.module cab m).state.healthy
  then requestPass s1 else s1

end Sys2Proof.Machine
end

