-- ==== Sys2Proof/Machine/Sheds.lean ====
section
/-! DEFINITION. Sheds (section 4.8), the available power and what a change of it hands on (section 3.6), and the
completion and publication of a pass (section 4.7). -/

namespace Sys2Proof.Machine

/-- The causes of R97, in its order. -/
inductive ShedCause where
  | envelope | overdraw | stop
  deriving DecidableEq, Repr

def ShedCause.code : ShedCause → Nat
  | .envelope => 0 | .overdraw => 1 | .stop => 2

/-- The walk of a shed: the deficit left, the sum of the falls of the setpoints, and the bays whose grant was
changed, in the order of the walk. -/
structure ShedWalk where
  state   : State
  deficit : Int
  shed    : Nat
  changed : List Nat
  deriving DecidableEq, Repr

/-- A grant is written into a session record. -/
def writeGrant (bay g : Nat) (s : State) : State := putSession bay { s.session bay with grant := g } s

/-- The new grant of a bay that the walk visits (R98, steps 1 and 2). -/
def shedGrant (g c : Nat) (deficit : Int) : Nat :=
  let base := min g c
  let n := base - min base deficit.toNat
  if n < 20 then 0 else n

/-- One bay of the walk (R98). -/
def ShedWalk.visit (w : ShedWalk) (bay : Nat) : ShedWalk :=
  let g := (w.state.session bay).grant
  let c := (w.state.power bay).commanded
  let n := shedGrant g c w.deficit
  { state := if n = g then w.state else writeGrant bay n w.state
    deficit := w.deficit - ((c : Int) - n)
    shed := w.shed + (c - n)
    changed := if n = g then w.changed else w.changed ++ [bay] }

/-- The walk ends when the deficit is met, except for cause STOP, which goes on to the end (R98). -/
def shedWalk (cause : ShedCause) : List Nat → ShedWalk → ShedWalk
  | [], w => w
  | b :: rest, w => if cause ≠ .stop ∧ w.deficit ≤ 0 then w else shedWalk cause rest (w.visit b)

/-- A shed with a cause and a target (R97 to R99). R99 does not say in which order the lowered grants are handed to
the bond controller. DESIGN CHOICE (unsafe, log entry 42): the model hands them over in the order of the walk. Each
examines the raise waiting list (R110, step 4), whose room is A (R111), while R100 has the commanded sum end at or below
the target. DESIGN CHOICE (unsafe, log entry 48): where the target lies below A, as in an OVERDRAW shed, the model makes
those examinations up to A, so the head bay may be raised above the target. -/
def shed (cause : ShedCause) (target : Int) (s : State) : State :=
  let w := shedWalk cause s.alloc.lastOrder.reverse ⟨s, (commandedSum s : Int) - target, 0, []⟩
  let s1 := forEach w.changed lowerGrant w.state
  let s2 := markStale s1
  let s3 := notify .shed (enc8 cause.code ++ enc16 w.shed ++ enc16 (commandedSum s2) ++ enc8 w.changed.length) s2
  requestPass s3

/-- What a computation of A hands on (R67): the stale mark, the shed, the pass request, and word to the bond
controller, which examines its raise waiting list. -/
def handOnAvailable (old : Nat) (s : State) : State :=
  let a := s.env.available
  let s1 := if a < old then markStale s else s
  let s2 := if a < commandedSum s1 then shed .envelope a s1 else s1
  if a = old then s2 else examineRaises (requestPass s2)

/-- The envelope unit computes A afresh (R66) and hands the result on (R67). -/
def recompute (s : State) : State :=
  handOnAvailable s.env.available { s with env := { s.env with available := availableOf s.env } }

/-- The building estimate is computed (R64). -/
def recomputeBuilding (s : State) : State :=
  { s with env := { s.env with building := buildingOf (meterAssigned s) s.env } }

/-! ### Publication (R94 to R96) -/

/-- The filter of R94: the grant is withdrawn when the session has changed since the snapshot `p`. -/
def withdrawn (p : Snapshot) (s : State) (bay : Nat) : Bool :=
  (s.session bay).serial ≠ (p.bay bay).serial || (s.session bay).state = .vacant ||
    (s.session bay).state = .identifying || (s.session bay).holds.any || (s.link (cabOf bay)).state ≠ .up

/-- The grant and the flags of one bay are written (R94). -/
def publishBay (p : Snapshot) (r : PassResult) (bay : Nat) (s : State) : State :=
  let x := s.session bay
  if withdrawn p s bay then putSession bay { x with grant := 0, short := false, preShort := false } s
  else putSession bay { x with grant := r.grant bay, short := get1 r.short false bay,
                                preShort := get1 r.preShort false bay } s

/-- The PASS notice (R96). -/
def passNotice (p : Snapshot) (s : State) : State :=
  notify .pass (enc16 p.available ++ enc16 ((allBays.map fun b => (s.session b).grant).sum) ++
    enc8 (allBays.filter fun b => (s.session b).short).length ++
    enc8 (allBays.filter fun b => (s.session b).preShort).length) s

/-- The allocator becomes IDLE, with pending and stale clear. -/
def becomeIdle (s : State) : State :=
  { s with alloc := { s.alloc with snapshot := none, again := false, stale := false } }

/-- The grants are written and handed to the bond controller with the new last order (R94, R95). -/
def writePublication (p : Snapshot) (r : PassResult) (s : State) : State :=
  let s1 := forEach allBays (publishBay p r) s
  bondPublication { s1 with alloc := { s1.alloc with lastOrder := r.order } }

/-- A result is published, and a new pass starts if pending is set (R94 to R96). -/
def publish (p : Snapshot) (r : PassResult) (s : State) : State :=
  let s1 := writePublication p r s
  -- the grants and flags the notice counts are those R94 wrote
  let s2 := passNotice p s1
  if s2.alloc.again then startPass s2 else becomeIdle s2

/-- A pass completes (R93). -/
def completePass (s : State) : State :=
  match s.alloc.snapshot with
  | none => s
  | some p =>
    if !allocationEnabled s then becomeIdle s
    else if s.alloc.stale then startPass s
    else
      let r := passResult p
      if overLimits s r then startPass s else publish p r s

end Sys2Proof.Machine
end

