-- ==== Sys2Proof/Machine/Plans.lean ====
section
/-! DEFINITION. The plan table's own operations: matching and claiming (section 2.3) and the end of a claim
(section 2.4). -/

namespace Sys2Proof.Machine

/-- The mask of a GROUP kind; no bit of an EXACT entry is left out of the comparison (R30). -/
def maskOf (s : State) : PlanKind → U24
  | .exact => 0
  | .group1 => get1 s.plans.masks 0 1
  | .group2 => get1 s.plans.masks 0 2
  | .group3 => get1 s.plans.masks 0 3
  | .group4 => get1 s.plans.masks 0 4

/-- An entry matches an identity when they agree in every bit where the mask holds 0 (R30). -/
def entryMatches (s : State) (x : PlanEntry) (vehicle : U24) : Bool :=
  (x.identity ^^^ vehicle) &&& ~~~(maskOf s x.kind) = 0

/-- The candidates of one kind, ascending (R32). -/
def candidates (s : State) (vehicle : U24) (k : PlanKind) : List Nat :=
  allEntries.filter fun e =>
    (s.entry e).state ≠ .free && (s.entry e).kind = k && entryMatches s (s.entry e) vehicle

/-- The candidates of the top kind: the first of the given kinds that has one (R32). -/
def topCandidates (s : State) (vehicle : U24) : List PlanKind → List Nat
  | [] => []
  | k :: rest => if (candidates s vehicle k).isEmpty then topCandidates s vehicle rest else candidates s vehicle k

/-- The kinds by rank (R32). -/
def kindRank : List PlanKind := [.exact, .group1, .group2, .group3, .group4]

/-- The entry a match request is answered with: the lowest-numbered OPEN candidate of the top kind; absent for
"default plan" (R32). -/
def matchEntry (s : State) (vehicle : U24) : Option Nat :=
  (topCandidates s vehicle kindRank).find? fun e => (s.entry e).state = .opened

/-- An entry is claimed for a bay (R33). -/
def claimEntry (e bay : Nat) (s : State) : State :=
  putEntry e { s.entry e with state := .claimed, claimant := some bay } s

/-- The claimant's session is closed (R36). -/
def endClaim (e : Nat) (outcome : SessionOutcome) (s : State) : State :=
  let x := s.entry e
  if x.reuse then putEntry e { x with state := .opened, claimant := none } s
  else putEntry e { x with state := .spent, claimant := none, outcome := some outcome } s

end Sys2Proof.Machine
end

