-- ==== Sys2Proof/Machine/ReadyOps.lean ====
section
/-! DEFINITION. The ready list's additions and the session reports (chapter 7). -/

namespace Sys2Proof.Machine

/-- The list holds at most 32 records (R148). -/
def readySize : Nat := 32

/-- An identity field, sent as 0 where absent. -/
def encIdentity (o : Option U24) : List Byte := be24 (o.getD 0) ++ encFlag o.isSome

/-- An addition: placed after the newest record, or in its place at a full list (R148). -/
def ReadyList.add (l : ReadyList) (r : ReadyRecord) : ReadyList :=
  if l.records.length < readySize then { l with records := l.records ++ [r] }
  else { records := l.records.take (readySize - 1) ++ [r], overflow := true }

def ReadyRecord.bytes (r : ReadyRecord) : List Byte :=
  enc8 r.bay ++ encIdentity r.identity ++ encOpt enc8 0 r.planEntry ++ enc16 r.minute ++ enc24 r.battery ++
    enc16 r.countdown

/-- The record that a session hands over when it becomes SATISFIED (R15; log entry 32 for an absent countdown). -/
def readyRecordOf (s : State) (bay : Nat) : ReadyRecord :=
  let x := s.session bay
  { bay := bay, identity := x.identity, planEntry := x.planLink, minute := s.clock.minute, battery := x.battery,
    countdown := x.countdown.getD 0 }

/-- The ready list takes a session's record, and sends a READY notice (R148, R149). -/
def addReady (bay : Nat) (s : State) : State :=
  let r := readyRecordOf s bay
  let replaced := decide (readySize ≤ s.ready.records.length)
  let l := s.ready.add r
  notify .ready (r.bytes ++ enc8 l.records.length ++ encFlag l.overflow ++ encFlag replaced) { s with ready := l }

/-- The close causes, in the order of section 1.8. -/
inductive CloseCause where
  | unplugged | reconnectMismatch | restart
  deriving DecidableEq, Repr

def CloseCause.code : CloseCause → Nat
  | .unplugged => 0 | .reconnectMismatch => 1 | .restart => 2

/-- Table 7-4, in its order. -/
inductive SessionReason where
  | opened | overdue | leftSatisfied | leftShort | leftOverdue | leftUnbound
  deriving DecidableEq, Repr

def SessionReason.code : SessionReason → Nat
  | .opened => 0 | .overdue => 1 | .leftSatisfied => 2 | .leftShort => 3 | .leftOverdue => 4 | .leftUnbound => 5

/-- The reason that the state at close gives (R156). A VACANT session is not closed. -/
def leftReason : SessionState → SessionReason
  | .satisfied => .leftSatisfied
  | .active => .leftShort
  | .overdue => .leftOverdue
  | .identifying => .leftUnbound
  | .vacant => .leftUnbound

/-- The part of a SESSION notice that every reason carries (Table 7-3). -/
def sessionHead (r : SessionReason) (bay : Nat) (x : Session) (minute : Nat) : List Byte :=
  enc8 r.code ++ enc8 bay ++ enc16 x.serial ++ enc16 minute ++ enc16 x.opened

/-- The part for OVERDUE and the closing reasons (Table 7-3); the target is not sent for LEFT_UNBOUND. -/
def sessionTail (cause : Nat) (x : Session) : List Byte :=
  enc8 cause ++ encIdentity x.identity ++ encOpt enc8 0 x.planLink ++
    enc24 (if x.state = .identifying then 0 else x.plan.target) ++ enc24 x.battery ++ enc24 x.auxiliary ++
    encFlag x.targetMet

/-- SESSION with reason OPENED (R154): the fields of the tail are sent as 0. -/
def noticeOpened (bay : Nat) (s : State) : State :=
  notify .session (sessionHead .opened bay (s.session bay) s.clock.minute ++ List.replicate 17 0) s

/-- SESSION with reason OVERDUE (R155). -/
def noticeOverdue (bay : Nat) (s : State) : State :=
  notify .session (sessionHead .overdue bay (s.session bay) s.clock.minute ++ sessionTail 0 (s.session bay)) s

/-- SESSION at a close (R156). -/
def noticeClosed (cause : CloseCause) (bay : Nat) (s : State) : State :=
  let x := s.session bay
  notify .session (sessionHead (leftReason x.state) bay x s.clock.minute ++ sessionTail cause.code x) s

end Sys2Proof.Machine
end

