-- ==== Sys2Proof/Machine/SessionOps.lean ====
section
/-! DEFINITION. The session table's own operations (chapter 1): opening, identities, binding, energy, acceptance,
countdowns, amendment, closing and holds. -/

namespace Sys2Proof.Machine

/-! ### Opening (R2) -/

/-- The session that a plug-present report opens on a VACANT bay (R2). -/
def openedSession (s : State) (bay : Nat) : Session :=
  { Session.vacant (((s.session bay).serial + 1) % 65536) with
    state := .identifying
    opened := s.clock.minute
    idTimer := some identityMs
    holds := { Holds.none with fault := (s.link (cabOf bay)).state = .isolated, stop := s.faults.stopMinute.isSome } }

/-- The link's last counts for a bay are set to 0 (R2). -/
def resetCounts (bay : Nat) (s : State) : State :=
  putLinkBay bay { s.linkBay bay with lastBattery := 0, lastAuxiliary := 0 } s

/-- A plug-present report (R2, R154); ignored while the bay's session is open. -/
def plugPresent (bay : Nat) (s : State) : State :=
  if (s.session bay).isOpen then s
  else noticeOpened bay (resetCounts bay (putSession bay (openedSession s bay) s))

/-! ### Binding (R5) -/

/-- The plan fields are copied and the countdown, state and window evaluated (R5, R6): the identity, holds,
energies and acceptance are kept. -/
def Session.rebound (x : Session) (plan : Plan) (link : Option Nat) (minute : Nat) : Session :=
  let y := { x with plan := plan, planLink := link, countdown := some (countdownFrom plan.departure minute),
                    state := stateFor x.battery plan.target, idTimer := none }
  { y with windowOpen := y.opensWindow }

/-- Binding ends IDENTIFYING (R5). -/
def bind (bay : Nat) (plan : Plan) (link : Option Nat) (s : State) : State :=
  let x := (s.session bay).rebound plan link s.clock.minute
  let s1 := putSession bay x s
  requestPass (if x.state = .satisfied then addReady bay s1 else s1)

/-- An identity is matched, and the session bound to the claimed entry or to the default plan (R3, R32, R33). -/
def matchAndBind (bay : Nat) (vehicle : U24) (s : State) : State :=
  match matchEntry s vehicle with
  | some e => bind bay (s.entry e).plan (some e) (claimEntry e bay s)
  | none => bind bay s.plans.defaultPlan none s

/-- A late identity that finds an entry (R6). -/
def lateClaim (bay e : Nat) (s : State) : State :=
  let before := (s.session bay).state
  let x := (s.session bay).rebound (s.entry e).plan (some e) s.clock.minute
  let s1 := requestPass (putSession bay x (claimEntry e bay s))
  if x.state = .satisfied ∧ before = .active then addReady bay s1 else s1

/-! ### Acceptance and identity (R3, R6 to R8) -/

/-- The acceptance of an open session is recorded, and a change of more than 20 steps requests a pass (R8). -/
def updateAcceptance (bay v : Nat) (s : State) : State :=
  let x := s.session bay
  if x.isOpen then
    let a := min v 3000
    let s1 := putSession bay { x with acceptance := a } s
    if (a + 20 < x.acceptance ∨ x.acceptance + 20 < a) ∧ x.state ≠ .identifying then requestPass s1 else s1
  else s

/-- An identity report for a bay (R3, R6, R7). -/
def takeIdentity (bay : Nat) (vehicle : U24) (acceptance : Nat) (s : State) : State :=
  let x := s.session bay
  match x.state with
  | .vacant => s
  | .identifying =>
    let s1 := updateAcceptance bay acceptance s
    if vehicle = 0 then s1
    else matchAndBind bay vehicle
      (putSession bay { s1.session bay with identity := some vehicle, idTimer := none } s1)
  | .active | .satisfied =>
    if x.identity.isSome ∨ vehicle = 0 then updateAcceptance bay acceptance s
    else
      let s1 := updateAcceptance bay acceptance (putSession bay { x with identity := some vehicle } s)
      match matchEntry s1 vehicle with
      | some e => lateClaim bay e s1
      | none => s1
  | .overdue =>
    if x.identity.isSome ∨ vehicle = 0 then updateAcceptance bay acceptance s
    else updateAcceptance bay acceptance (putSession bay { x with identity := some vehicle } s)

/-! ### Energy (R13, R14) -/

/-- The increment that a reported count brings over the last count (R13). -/
def increment (reported last : Nat) : Nat := if last ≤ reported then reported - last else reported

/-- An energy grows by an increment, and saturates at 999,999 Wh (R13). -/
def addEnergy (e inc : Nat) : Nat := min 999999 (e + inc)

/-- The increments of a STATUS arrival are counted, and an ACTIVE session that meets its target becomes SATISFIED
(R13, R14). -/
def countEnergy (bay battery auxiliary : Nat) (s : State) : State :=
  let x := s.session bay
  let l := s.linkBay bay
  if x.isOpen then
    let y := { x with battery := addEnergy x.battery (increment battery l.lastBattery),
                      auxiliary := addEnergy x.auxiliary (increment auxiliary l.lastAuxiliary) }
    if y.state = .active ∧ y.plan.target ≤ y.battery then
      requestPass (addReady bay (putSession bay { y with state := .satisfied } s))
    else putSession bay y s
  else s

/-! ### Countdowns (R10, R11, R16) -/

/-- The minute event at one session (R10, R16, R155; log entry 32 for an absent countdown). -/
def minuteAt (bay : Nat) (s : State) : State :=
  let x := s.session bay
  if x.state.counts then
    let c := x.countdown.getD 0 - 1
    if c = 0 then
      noticeOverdue bay (requestPass
        (putSession bay { x with state := .overdue, countdown := some 0, windowOpen := false } s))
    else
      let y := { x with countdown := some c }
      let s1 := putSession bay { y with windowOpen := y.opensWindow } s
      if y.opensWindow && !x.windowOpen then requestPass s1 else s1
  else s

/-- The session after SET CLOCK (R11). -/
def Session.reclocked (x : Session) (minute : Nat) : Session :=
  if x.state.counts then
    let y := { x with countdown := some (countdownFrom x.plan.departure minute) }
    { y with windowOpen := y.opensWindow }
  else x

/-- SET CLOCK at the session table: a pass is requested if any window open flag becomes set (R11). -/
def reclockSessions (s : State) : State :=
  let s1 := forEach allBays (fun b s => putSession b ((s.session b).reclocked s.clock.minute) s) s
  if allBays.any fun b => (s1.session b).windowOpen && !(s.session b).windowOpen then requestPass s1 else s1

/-! ### Amendment and release of the plan (R17, R18) -/

/-- The session after an amendment, in the steps of R17. -/
def Session.amended (x : Session) (plan : Plan) (minute : Nat) : Session :=
  let x1 := if plan.departure ≠ x.plan.departure then
      { x with countdown := some (countdownFrom plan.departure minute),
               state := if x.state = .overdue then .active else x.state }
    else x
  let x2 := { x1 with plan := plan }
  let x3 := { x2 with state := if x2.state.counts then stateFor x2.battery plan.target else x2.state }
  { x3 with windowOpen := x3.opensWindow }

/-- The session table applies an amendment to the claimant's session (R17). -/
def amendSession (bay : Nat) (plan : Plan) (s : State) : State :=
  let x := s.session bay
  let y := x.amended plan s.clock.minute
  let s1 := putSession bay y s
  let s2 := if y.state ≠ x.state ∨ (y.windowOpen ∧ ¬ x.windowOpen) then requestPass s1 else s1
  if y.state = .satisfied ∧ (x.state = .active ∨ x.state = .overdue) then addReady bay s2 else s2

/-- The session's plan link is dropped, and every other field kept (R18). -/
def dropLink (bay : Nat) (s : State) : State :=
  putSession bay { s.session bay with planLink := none } s

/-! ### Closing (R20) -/

/-- The outcome of a session (R20, step 1). -/
def outcomeOf (s : State) (bay : Nat) : SessionOutcome :=
  let x := s.session bay
  { bay := bay, identity := x.identity, battery := x.battery, auxiliary := x.auxiliary,
    closeMinute := s.clock.minute, targetMet := x.targetMet }

/-- The claim of a closing session ends (R20, step 2). -/
def endSessionClaim (bay : Nat) (s : State) : State :=
  match (s.session bay).planLink with
  | some e => endClaim e (outcomeOf s bay) s
  | none => s

/-- The grant and the short flags are cleared, and the bond controller is given the new grant (R20, R23). -/
def withdrawGrant (bay : Nat) (s : State) : State :=
  lowerGrant bay (putSession bay { s.session bay with grant := 0, short := false, preShort := false } s)

/-- A session is closed with reason UNPLUGGED or RECONNECT_MISMATCH, in the steps of R20. -/
def closeSession (cause : CloseCause) (bay : Nat) (s : State) : State :=
  let s3 := noticeClosed cause bay (endSessionClaim bay s)
  let s4 := withdrawGrant bay s3
  requestPass (putSession bay (Session.vacant (s4.session bay).serial) s4)

/-- A plug-absent report (R21); ignored for a VACANT bay. -/
def plugAbsent (bay : Nat) (s : State) : State :=
  if (s.session bay).isOpen then closeSession .unplugged bay s else s

/-! ### Holds (R23) -/

/-- A block asks to set a hold reason on a bay (R23). -/
def setHold (r : HoldReason) (bay : Nat) (s : State) : State :=
  let x := s.session bay
  if x.isOpen && !x.holds.has r then
    let s1 := putSession bay { x with holds := x.holds.set r true } s
    requestPass (if x.holds.any then s1 else withdrawGrant bay s1)
  else s

/-- A block asks to clear a hold reason on a bay (R23). -/
def clearHold (r : HoldReason) (bay : Nat) (s : State) : State :=
  let x := s.session bay
  if x.isOpen && x.holds.has r then
    requestPass (putSession bay { x with holds := x.holds.set r false } s)
  else s

end Sys2Proof.Machine
end

