-- ==== Sys2Proof/Machine/LinkOps.lean ====
section
/-! DEFINITION. The cabinet links' own operations (chapter 6): training, changes of state, the end of a lost hold,
loss, isolation and its end. -/

namespace Sys2Proof.Machine

/-- The causes of Table 6-6, in its order. -/
inductive LinkCause where
  | descriptor | noAnswer | silence | holdEnd | retrain | isolation | fatalCleared
  deriving DecidableEq, Repr

def LinkCause.code : LinkCause → Nat
  | .descriptor => 0 | .noAnswer => 1 | .silence => 2 | .holdEnd => 3 | .retrain => 4 | .isolation => 5
  | .fatalCleared => 6

/-- A change of link state is made known (R145). -/
def linkChanged (cab : Nat) (before : LinkState) (cause : LinkCause) (s : State) : State :=
  let s1 := requestPass s
  notify .link (enc8 cab ++ enc8 before.code ++ enc8 (s1.link cab).state.code ++ enc8 cause.code) s1

/-- A PROBE is sent and counted, and the probe timer starts at 1 s (R131). -/
def Link.sendProbe (l : Link) : Link :=
  { l.hand .probe with probeCount := l.probeCount + 1, probe := some probeMs }

/-- A link enters TRAINING (R131). The keep and silence timers run in no such state (Table 6-1). -/
def Link.train (l : Link) : Link :=
  ({ l with state := .training, probeCount := 0, keep := none, silence := none } : Link).sendProbe

def enterTraining (cab : Nat) (s : State) : State := putLink cab (s.link cab).train s

/-- A link leaves UP: its state and timers change and what waits to be sent is discarded (R186). -/
def Link.leaveUp (l : Link) (st : LinkState) : Link :=
  { l.discardQueued with state := st, keep := none }

/-- The lost hold ends: the values become absent and the timer is stopped (R136). -/
def Link.endLostHold (l : Link) : Link := { l with lostHold := none, lostTimer := none }

/-- The hold LINK is set on every open session of a cabinet (R134, R142, R143). -/
def holdCabinet (r : HoldReason) (cab : Nat) (s : State) : State := forEach (baysOf cab) (setHold r) s

/-- RETRAIN takes a link from UP to TRAINING (R143). -/
def retrainFromUp (cab : Nat) (s : State) : State :=
  let s1 := holdCabinet .link cab (sendCab cab .zero s)
  let s2 := putLink cab ((s1.link cab).leaveUp .training) s1
  linkChanged cab .up .retrain (enterTraining cab (bondLeavesUp true cab s2))

/-- A link is asked to isolate its cabinet (R141). -/
def isolateLink (cab : Nat) (s : State) : State :=
  let l := s.link cab
  match l.state with
  | .up =>
    let s1 := putLink cab ((l.leaveUp .isolated).hand .isolate) s
    linkChanged cab .up .isolation (bondLeavesUp false cab s1)
  | .isolated => s
  | st =>
    let l1 := { l.hand .isolate with state := .isolated, probe := none, silence := some silenceMs }
    linkChanged cab st .isolation (putLink cab l1 s)

/-- A link leaves isolation (R142). -/
def leaveIsolation (cab : Nat) (s : State) : State :=
  let s1 := putLink cab { s.link cab with silence := none } s
  let s2 := holdCabinet .link cab (holdReported cab s1)
  linkChanged cab .isolated .fatalCleared (enterTraining cab s2)

/-- A good frame taken in UP or ISOLATED starts the silence timer again at 2 s (R134, Table 6-4). -/
def Link.heard (l : Link) : Link :=
  match l.state with
  | .up => { l with silence := some silenceMs }
  | .isolated => { l with silence := some silenceMs }
  | .absent => l
  | .training => l
  | .lost => l

def goodFrame (cab : Nat) (s : State) : State := putLink cab (s.link cab).heard s

/-- Whether a link takes PLUG and IDENTITY (Table 6-4). -/
def Link.serves (l : Link) : Bool := (l.state = .up && l.adopted) || l.state = .isolated

end Sys2Proof.Machine
end

