-- ==== Sys2Proof/Machine/FaultOps.lean ====
section
/-! DEFINITION. The fault unit's own operations (chapter 8): taking a fault, isolation, the alarm indication and the
site stop. -/

namespace Sys2Proof.Machine

/-! ### The alarm indication (R163, R174) -/

/-- A blinking alarm starts with its asserted half (R174). -/
def Line.startBlink (x : Line) : Line := { x with blinkHalf := true, blinkTimer := some blinkMs }

/-- A line that does not blink holds no blink timer. -/
def Line.stopBlink (x : Line) : Line := { x with blinkHalf := true, blinkTimer := none }

/-- A line is handed a change of the alarm indication (R174). -/
def Line.takeAlarm (x : Line) (alarm : Bool) : Line :=
  if x.settings.function = .alarmOut then (if x.blinks alarm then x.startBlink else x.stopBlink) else x

/-- The alarm indication is evaluated, and handed to the yard lines at a change (R163). -/
def evaluateAlarm (s : State) : State :=
  let a := alarmWanted s
  if a = s.faults.alarm then s
  else forEach allLines (fun l s => putLine l ((s.line l).takeAlarm a) s)
    { s with faults := { s.faults with alarm := a } }

/-! ### Isolation (R162) -/

/-- A FATAL fault isolates a cabinet (R162). -/
def isolateCabinet (cab : Nat) (s : State) : State :=
  let s1 := if (s.cabFaults cab).isolated then s
    else isolateLink cab (putCabFaults cab { s.cabFaults cab with isolated := true } s)
  holdCabinet .fault cab s1

/-! ### Taking a fault (R159 to R161) -/

/-- Who handed a fault to the fault unit: a FAULT message through a link, or a block of the PD48 itself. -/
inductive FaultSource where
  | message | block
  deriving DecidableEq, Repr

def CabinetFaults.flag (f : CabinetFaults) : FaultClass → Option FirstCode
  | .correctable => f.correctable
  | .nonfatal => f.nonfatal
  | .fatal => f.fatal

def CabinetFaults.setFlag (f : CabinetFaults) (c : FaultClass) (v : Option FirstCode) : CabinetFaults :=
  match c with
  | .correctable => { f with correctable := v }
  | .nonfatal => { f with nonfatal := v }
  | .fatal => { f with fatal := v }

/-- Step 1 of R159 for a cabinet's record: a clear flag is set, a set one keeps its first code. -/
def recordFault (cab : Nat) (first : FirstCode) (s : State) : State :=
  let f := s.cabFaults cab
  if (f.flag first.code.cls).isSome then s else putCabFaults cab (f.setFlag first.code.cls (some first)) s

/-- Step 2 of R159: the effect of a code (R161). -/
def faultEffect (source : FaultSource) (cab : Nat) (first : FirstCode) (s : State) : State :=
  match first.code, first.subject.kind with
  | .moduleFail, .module =>
    match source with
    | .message => moduleFault cab first.subject.number s
    | .block => s
  | .bayInsulation, .bay => setHold .fault first.subject.number s
  | .bayInsulation, .cabinet => holdCabinet .fault cab s
  | .cabinetInternal, _ => isolateCabinet cab s
  | .rampTimeout, _ => isolateCabinet cab s
  | _, _ => s

/-- The subject of a FAULT notice, with the cabinet for a module (R160). Whether another subject carries a cabinet
byte is not stated. DESIGN CHOICE (unsafe, log entry 43): the byte is sent for every subject, as 0 where it is no
module. -/
def noticeSubject (cab : Nat) (x : Subject) : List Byte :=
  x.bytes ++ enc8 (if x.kind = .module then cab else 0)

/-- The FAULT notice of a cabinet's fault (R160). -/
def faultNotice (cab : Nat) (first : FirstCode) (setFlag : Bool) (s : State) : State :=
  let f := s.cabFaults cab
  if s.faults.notices.on first.code.cls then
    notify .fault (enc8 first.code.code ++ enc8 first.code.cls.code ++ noticeSubject cab first.subject ++ enc8 cab ++
      encFlag setFlag ++ encFlag f.correctable.isSome ++ encFlag f.nonfatal.isSome ++ encFlag f.fatal.isSome ++
      encFlag f.isolated ++ enc16 s.clock.minute ++ encFlag (alarmWanted s)) s
  else s

/-- The fault unit takes a fault of a cabinet, whole, in the steps of R159. -/
def takeFault (source : FaultSource) (cab : Nat) (code : FaultCode) (subject : Subject) (s : State) : State :=
  let first : FirstCode := ⟨code, subject⟩
  let setFlag := ((s.cabFaults cab).flag code.cls).isNone
  let s2 := faultEffect source cab first (recordFault cab first s)
  evaluateAlarm (faultNotice cab first setFlag s2)

/-- The FAULT notice of SITE_OVERDRAW, filed in the site record (R160). The site record has no isolated marker
(Table 8-3). DESIGN CHOICE (unsafe, log entry 44): the notice carries the marker as 0. -/
def overdrawNotice (setFlag : Bool) (s : State) : State :=
  if s.faults.notices.nonfatal then
    notify .fault (enc8 FaultCode.siteOverdraw.code ++ enc8 FaultClass.nonfatal.code ++ noticeSubject 0 ⟨.site, 0⟩ ++
      enc8 0 ++ encFlag setFlag ++ encFlag false ++ encFlag s.faults.overdrawMinute.isSome ++ encFlag false ++
      encFlag false ++ enc16 s.clock.minute ++ encFlag (alarmWanted s)) s
  else s

/-- The fault unit takes SITE_OVERDRAW (R159, R161). -/
def takeOverdraw (s : State) : State :=
  let setFlag := s.faults.overdrawMinute.isNone
  let s1 := if setFlag then { s with faults := { s.faults with overdrawMinute := some s.clock.minute } } else s
  evaluateAlarm (overdrawNotice setFlag s1)

/-- A frame that fails its checks (R135). -/
def linkFrameFault (cab : Nat) (s : State) : State := takeFault .block cab .linkFrame ⟨.cabinet, cab⟩ s

/-! ### The site stop (R167, R168) -/

/-- A STOP_IN line asserts (R167). -/
def beginStop (s : State) : State :=
  if s.faults.stopMinute.isSome then s
  else
    let s1 := { s with faults := { s.faults with stopMinute := some s.clock.minute } }
    evaluateAlarm (forEach allBays (setHold .stop) (shed .stop 0 s1))

/-- A site stop ends, in the steps of R168. -/
def endStop (s : State) : State :=
  let s1 := { s with faults := { s.faults with stopMinute := none } }
  let s2 := forEach allBays (clearHold .stop) s1
  let s3 := examineRaises (forEach allCabs serveBonds s2)
  evaluateAlarm (requestPass s3)

/-! ### Clearing (R165, R166) -/

/-- The hold test of R166. -/
def holdTest (cab : Nat) (s : State) : State :=
  forEach (baysOf cab) (fun b s =>
    if !(s.cabFaults cab).isolated && !(s.linkBay b).insulation then clearHold .fault b s else s) s

/-- A bit of the set of classes (Table 10-5). -/
def namesClass (classes : Byte) : FaultClass → Bool
  | .correctable => classes.getLsbD 0
  | .nonfatal => classes.getLsbD 1
  | .fatal => classes.getLsbD 2

/-- CLEAR FAULTS for the site (R165). -/
def clearSite (classes : Byte) (s : State) : State :=
  if namesClass classes .nonfatal then { s with faults := { s.faults with overdrawMinute := none } } else s

/-- CLEAR FAULTS for a cabinet (R165, R166). -/
def clearCabinet (cab : Nat) (classes : Byte) (s : State) : State :=
  let f := s.cabFaults cab
  let f1 : CabinetFaults :=
    { correctable := if namesClass classes .correctable then none else f.correctable
      nonfatal := if namesClass classes .nonfatal then none else f.nonfatal
      fatal := if namesClass classes .fatal then none else f.fatal
      isolated := f.isolated }
  let s1 := putCabFaults cab f1 s
  let s2 := if namesClass classes .fatal && f.isolated then
      leaveIsolation cab (putCabFaults cab { f1 with isolated := false } s1) else s1
  if namesClass classes .nonfatal || namesClass classes .fatal then holdTest cab s2 else s2

end Sys2Proof.Machine
end

