-- ==== Sys2Proof/Machine/YardOps.lean ====
section
/-! DEFINITION. What the yard lines hand on (chapter 9): the filter, the line stage, the meter line, and a change of a
line's filtered level according to its function. -/

namespace Sys2Proof.Machine

/-! ### The filter (R172) -/

/-- The filter time left to a pin whose level is, or is not, the filtered one (R172). -/
def filterFor (f : LineFunction) (differs : Bool) : Timer := if differs then some (filterTime f) else none

/-- The pin stands at its asserted level: high with invert off, low with invert on (R172). -/
def Line.pinAsserted (x : Line) : Bool := x.pin != x.settings.invert

/-- A line is given a function: an input starts at not asserted, with its filter started from the pin (R172); an
output holds no filtered level, and blinks from its asserted half where it blinks (R174). -/
def Line.start (x : Line) (alarm : Bool) : Line :=
  let y := { x with level := false,
                    filter := if x.settings.function.isInput then filterFor x.settings.function x.pinAsserted
                              else none }
  if y.blinks alarm then y.startBlink else y.stopBlink

/-- The pin of a line takes a level: on an input line a change starts the filter time again, and the end of an
excursion stops it (R172). -/
def Line.takePin (x : Line) (high : Bool) : Line :=
  if x.pin = high then x
  else
    let y := { x with pin := high }
    if x.settings.function.isInput then
      { y with filter := filterFor x.settings.function (y.pinAsserted != x.level) }
    else y

/-! ### The line stage (R59) -/

/-- The line stage is read from the lines, and a change of it starts or stops the settling timer (R59). -/
def updateStage (s : State) : State :=
  let n := stageOfLines s
  if n = s.env.lineStage then s
  else { s with env := { s.env with lineStage := n
                                    settling := if n = s.env.effStage then none else some settlingMs } }

/-! ### The meter line (R62, R63) -/

/-- The window starts at 60 s with no pulse counted and no window completed, or stops (R63). -/
def restartWindow (assigned : Bool) (e : Envelope) : Envelope :=
  { e with meterWindow := if assigned then some meterWindowMs else none, windowCount := 0, lastWindow := none }

/-- METER_PULSE is given to a line or taken away from it (R63). -/
def meterChanged (s : State) : State :=
  recompute (recomputeBuilding { s with env := restartWindow (meterAssigned s) s.env })

/-- A pulse edge is counted while a meter line is assigned; the count saturates (R62). -/
def countPulse (s : State) : State :=
  { s with env := { s.env with windowCount := min 65535 (s.env.windowCount + 1) } }

/-! ### A change of filtered level (R173) -/

/-- The edge setting selects the edge that leaves the line at `level` (R173). -/
def LineEdge.selects (e : LineEdge) (level : Bool) : Bool :=
  match e with
  | .rising => level
  | .falling => !level
  | .both => true

/-- The LINE notice of a GENERAL_IN line (R173), with its level as log entry 46 codes it: 1 is asserted. -/
def lineNotice (l : Nat) (level : Bool) (s : State) : State :=
  notify .line (enc8 l ++ enc8 (if level then LineEdge.rising.code else LineEdge.falling.code) ++ encFlag level ++
    enc16 s.clock.minute) s

/-- A change of filtered level is handed on according to the line's function (R173). -/
def handLevel (l : Nat) (s : State) : State :=
  let x := s.line l
  match x.settings.function with
  | .generalIn => if x.settings.edge.selects x.level then lineNotice l x.level s else s
  | .curtailA => updateStage s
  | .curtailB => updateStage s
  | .meterPulse => if x.settings.edge.selects x.level then countPulse s else s
  | .stopIn => if x.level then beginStop s else s
  | .generalOut => s
  | .alarmOut => s
  | .readyOut => s

/-- A function is taken from a line or given to it, and the envelope unit is handed the change (R59, R63). -/
def handFunction (f : LineFunction) (s : State) : State :=
  match f with
  | .curtailA => updateStage s
  | .curtailB => updateStage s
  | .meterPulse => meterChanged s
  | .generalIn => s
  | .stopIn => s
  | .generalOut => s
  | .alarmOut => s
  | .readyOut => s

/-! ### SET LINE (R175) -/

/-- CURTAIL_A, CURTAIL_B and METER_PULSE belong to one line at most (R175). -/
def LineFunction.exclusive : LineFunction → Bool
  | .curtailA => true
  | .curtailB => true
  | .meterPulse => true
  | .generalIn => false
  | .generalOut => false
  | .stopIn => false
  | .alarmOut => false
  | .readyOut => false

/-- A different line already has the function (R175). -/
def functionTaken (s : State) (l : Nat) (f : LineFunction) : Bool :=
  f.exclusive && allLines.any fun k => k ≠ l && (s.line k).settings.function = f

/-- A line whose function is kept takes new settings as it runs (R175, step 3): a change of invert reverses an
input's filtered level (R172), and a change of blink starts or stops the blinking (R174). -/
def Line.retune (x : Line) (n : LineSettings) (alarm : Bool) : Line :=
  let y := { x with settings := n,
                    level := if n.function.isInput && (n.invert != x.settings.invert) then !x.level else x.level }
  if y.blinks alarm then (if x.settings.blink then y else y.startBlink) else y.stopBlink

/-- An accepted SET LINE (R175). -/
def applyLine (l : Nat) (n : LineSettings) (s : State) : State :=
  let x := s.line l
  if n.function = x.settings.function then
    let y := x.retune n s.faults.alarm
    let s1 := putLine l y s
    if y.level = x.level then s1 else handLevel l s1
  else
    let s1 := putLine l (({ x with settings := n } : Line).start s.faults.alarm) s
    handFunction n.function (handFunction x.settings.function s1)

/-- The level of a line as READ LINES gives it (R176): raw pin, filtered level, driven asserted. No table gives the
code of a level. DESIGN CHOICE (unsafe, log entry 46): 1 is high, and 1 is asserted. -/
def lineLevelBytes (s : State) (x : Line) : List Byte :=
  encFlag (rawPin s x) ++ encFlag (x.settings.function.isInput && x.level) ++ encFlag (drivenAsserted s x)

end Sys2Proof.Machine
end

