-- ==== Sys2Proof/Machine/EnvelopeOrders.lean ====
section
/-! DEFINITION. The orders to the depot clock and the envelope unit (chapter 3). For each order its effect with the
fields of its reply, and its meaning. -/

namespace Sys2Proof.Machine

/-- A margin, a power or another two-byte field as a number. -/
abbrev num {w : Nat} (b : BitVec w) : Nat := b.toNat

/-! ### SET CLOCK -/

/-- The walker is placed on step 1 of the active bank (R56, R58). -/
def placeWalker (s : State) : State :=
  { s with env := { s.env with walker := if s.env.activeBank = 0 then 0 else 1 } }

/-- The five steps of an accepted SET CLOCK (R51). -/
def applyClock (minute : Nat) (s : State) : State :=
  let s2 := { s with clock := { minute := minute, setMarker := true, prescaler := 0, fraction := 0 } }
  let s4 := recompute (placeWalker (reclockSessions s2))
  if s.clock.setMarker then s4 else requestPass s4

def effectSetClock (minute : U16) (s : State) : State × List Byte :=
  if 1440 ≤ num minute then (s, refusal .range 2)
  else (applyClock (num minute) s, okBody (enc16 (num minute)))

/-- SET_CLOCK (R51). -/
def execSetClock (tag : Byte) (minute : U16) (s : State) : Result :=
  .next (takeOrder (.setClock tag minute) (effectSetClock minute) s)

/-! ### The ceilings -/

/-- The steps of an accepted SET SITE CEILING (R53). -/
def applySiteCeiling (steps : Nat) (s : State) : State :=
  requestPass (recompute { s with env := { s.env with siteCeiling := some steps } })

def effectSetSiteCeiling (steps : U16) (s : State) : State × List Byte :=
  if s.env.siteCeiling.isSome then (s, refusal .locked 2)
  else if num steps = 0 then (s, refusal .range 2)
  else (applySiteCeiling (num steps) s, okBody (enc16 (num steps)))

/-- SET_SITE_CEILING (R53). -/
def execSetSiteCeiling (tag : Byte) (steps : U16) (s : State) : Result :=
  .next (takeOrder (.setSiteCeiling tag steps) (effectSetSiteCeiling steps) s)

/-- The steps of an accepted SET CABINET CEILING (R54). -/
def applyCabinetCeiling (cab steps : Nat) (s : State) : State :=
  requestPass (sendCeiling cab
    { s with env := { s.env with ceilings := set1 s.env.ceilings cab ⟨steps, true⟩ } })

def effectSetCabinetCeiling (cabinet : Byte) (steps : U16) (s : State) : State × List Byte :=
  if !validCab (num cabinet) then (s, refusal .range 2)
  else if (s.ceiling (num cabinet)).locked then (s, refusal .locked 2)
  else (applyCabinetCeiling (num cabinet) (min 1200 (num steps)) s, okBody (enc16 (min 1200 (num steps))))

/-- SET_CABINET_CEILING (R54). -/
def execSetCabinetCeiling (tag cabinet : Byte) (steps : U16) (s : State) : Result :=
  .next (takeOrder (.setCabinetCeiling tag cabinet steps) (effectSetCabinetCeiling cabinet steps) s)

/-! ### The limit schedule -/

/-- A limit step's next: 1 to 16, or 0 for END (Table 10-5). -/
def nextOf (n : Nat) : Option Nat := if n = 0 then none else some n

/-- One step of a bank is written (R55). -/
def writeLimitStep (bank step : Nat) (x : LimitStep) (s : State) : State :=
  let steps := set1 (get1 s.env.banks (Vector.replicate 16 LimitStep.reset) bank) step x
  { s with env := { s.env with banks := set1 s.env.banks bank steps } }

def effectPutLimitStep (bank step : Byte) (start limit : U16) (nextStep : Byte) (s : State) : State × List Byte :=
  if num bank < 1 || 2 < num bank || num step < 1 || 16 < num step || 1440 ≤ num start || 16 < num nextStep then
    (s, refusal .range 0)
  else if num bank = s.env.activeBank then (s, refusal .state 0)
  else (writeLimitStep (num bank) (num step) ⟨num start, num limit, nextOf (num nextStep)⟩ s, okBody [])

/-- PUT_LIMIT_STEP (R55). -/
def execPutLimitStep (tag bank step : Byte) (start limit : U16) (nextStep : Byte) (s : State) : Result :=
  .next (takeOrder (.putLimitStep tag bank step start limit nextStep)
    (effectPutLimitStep bank step start limit nextStep) s)

def effectSelectLimitBank (bank : Byte) (s : State) : State × List Byte :=
  if 2 < num bank then (s, refusal .range 2)
  else
    let s1 := recompute (placeWalker { s with env := { s.env with activeBank := num bank } })
    (s1, okBody (enc8 s1.env.activeBank ++ enc8 s1.env.walker))

/-- SELECT_LIMIT_BANK (R56). -/
def execSelectLimitBank (tag bank : Byte) (s : State) : Result :=
  .next (takeOrder (.selectLimitBank tag bank) (effectSelectLimitBank bank) s)

/-! ### Curtailment stages, meter, reserve, margin -/

def effectSetCurtailStages (limit1 limit2 limit3 : U16) (s : State) : State × List Byte :=
  (recompute { s with env := { s.env with stageLimits := #v[num limit1, num limit2, num limit3] } }, okBody [])

/-- SET_CURTAIL_STAGES (R60). -/
def execSetCurtailStages (tag : Byte) (limit1 limit2 limit3 : U16) (s : State) : Result :=
  .next (takeOrder (.setCurtailStages tag limit1 limit2 limit3) (effectSetCurtailStages limit1 limit2 limit3) s)

/-- A Wh per pulse of 0 is taken as 1, and one above 1000 as 1000 (R64). -/
def clampMeter (w : Nat) : Nat := min 1000 (max 1 w)

def effectSetMeter (wh : U16) (s : State) : State × List Byte :=
  (recompute (recomputeBuilding { s with env := { s.env with whPerPulse := clampMeter (num wh) } }),
    okBody (enc16 (clampMeter (num wh))))

/-- SET_METER (R64). -/
def execSetMeter (tag : Byte) (wh : U16) (s : State) : Result :=
  .next (takeOrder (.setMeter tag wh) (effectSetMeter wh) s)

def effectSetMargin (steps : U16) (s : State) : State × List Byte :=
  (recompute { s with env := { s.env with margin := min 1000 (num steps) } },
    okBody (enc16 (min 1000 (num steps))))

/-- SET_MARGIN (R65). -/
def execSetMargin (tag : Byte) (steps : U16) (s : State) : Result :=
  .next (takeOrder (.setMargin tag steps) (effectSetMargin steps) s)

def effectSetReserve (steps : U16) (s : State) : State × List Byte :=
  (recompute (recomputeBuilding { s with env := { s.env with reserve := num steps } }), okBody (enc16 (num steps)))

/-- SET_RESERVE (R64). -/
def execSetReserve (tag : Byte) (steps : U16) (s : State) : Result :=
  .next (takeOrder (.setReserve tag steps) (effectSetReserve steps) s)

/-! ### READ ENVELOPE -/

/-- The site limit L that READ ENVELOPE returns (R66); open while the site ceiling is unset (log entry 13). -/
def siteLimit (e : Envelope) : Nat :=
  match e.siteCeiling with
  | some c => min c (runningLimit e)
  | none => Config.limitWhileUnset (runningLimit e)

def ceilingBytes (c : CabinetCeiling) : List Byte := enc16 c.steps ++ encFlag c.locked

/-- The fields of R71, in its order. -/
def envelopeBytes (s : State) : List Byte :=
  let e := s.env
  enc16 s.clock.minute ++ encFlag s.clock.setMarker ++
  enc16 (e.siteCeiling.getD 0) ++ encFlag e.siteCeiling.isSome ++ encFlag e.siteCeiling.isSome ++
  allCabs.flatMap (fun c => ceilingBytes (s.ceiling c)) ++
  enc8 e.activeBank ++ enc8 e.walker ++ enc16 (scheduleLimit e) ++
  enc8 e.lineStage ++ enc8 e.effStage ++ enc16 (tenths e.settling) ++ e.stageLimits.toList.flatMap enc16 ++
  encFlag (meterAssigned s) ++ enc16 e.whPerPulse ++ enc16 e.windowCount ++ encOpt enc16 0 e.lastWindow ++
  enc16 (remaining 1000 e.meterWindow) ++
  enc16 e.reserve ++ enc16 e.building ++ enc16 e.margin ++
  enc16 (siteLimit e) ++ enc16 e.available ++
  enc16 (commandedSum s) ++
  enc16 (tenths e.overdraw) ++ encOpt enc16 0 e.excess

def effectReadEnvelope (s : State) : State × List Byte := (s, okBody (envelopeBytes s))

/-- READ_ENVELOPE (R71). -/
def execReadEnvelope (tag : Byte) (s : State) : Result :=
  .next (takeOrder (.readEnvelope tag) effectReadEnvelope s)

end Sys2Proof.Machine
end

