-- ==== Sys2Proof/Machine/EnvelopeEvents.lean ====
section
/-! DEFINITION. The events of the depot clock and the envelope unit (chapter 3). An expiry acts on a running timer;
a stopped timer cannot expire, and the command then changes nothing (log entry 2). -/

namespace Sys2Proof.Machine

/-- The walker at a minute event (R57). -/
def walk (s : State) : State :=
  let e := s.env
  if e.activeBank = 0 then s
  else
    let bank := get1 e.banks (Vector.replicate 16 LimitStep.reset) e.activeBank
    match (get1 bank LimitStep.reset e.walker).nextStep with
    | none => s
    | some n =>
      if (get1 bank LimitStep.reset n).start = s.clock.minute then
        recompute { s with env := { e with walker := n } }
      else s

/-- The minute advances, and the prescaler passes to 0 (R50). -/
def advanceMinute (s : State) : State :=
  { s with clock := { s.clock with minute := (s.clock.minute + 1) % 1440, prescaler := 0, fraction := 0 } }

/-- MINUTE_EVENT (R50, R10, R57): the session table acts on the event bay by bay, and then the walker (log entry
6). -/
def execMinuteEvent (s : State) : Result :=
  .next (walk (forEach allBays minuteAt (advanceMinute s)))

/-- SETTLING_TIMER_EXPIRY (R59). -/
def execSettlingTimerExpiry (s : State) : Result :=
  .next (if s.env.settling.isSome then
      recompute { s with env := { s.env with effStage := s.env.lineStage, settling := none } }
    else s)

/-- METER_WINDOW_EXPIRY (R62). -/
def execMeterWindowExpiry (s : State) : Result :=
  .next (if s.env.meterWindow.isSome then
      recompute (recomputeBuilding { s with env := { s.env with
        lastWindow := some s.env.windowCount, windowCount := 0, meterWindow := some meterWindowMs } })
    else s)

/-- OVERDRAW_TIMER_EXPIRY (R69; log entry 32 for an absent measured excess). -/
def execOverdrawTimerExpiry (s : State) : Result :=
  .next (if s.env.overdraw.isSome then
      let s2 := shed .overdraw ((s.env.available : Int) - s.env.excess.getD 0) (takeOverdraw s)
      { s2 with env := { s2.env with overdraw := none, excess := none } }
    else s)

/-- The evaluation of overdraw at a STATUS arrival (R68). -/
def evaluateOverdraw (s : State) : State :=
  if s.env.siteCeiling.isNone then s
  else if s.env.available + overdrawTolerance s.env.available < measuredDraw s then
    { s with env := { s.env with
        overdraw := if s.env.overdraw.isSome then s.env.overdraw else some overdrawMs
        excess := some (measuredDraw s - s.env.available) } }
  else { s with env := { s.env with overdraw := none, excess := none } }

end Sys2Proof.Machine
end

