-- ==== Sys2Proof/Machine/PlanOrders.lean ====
section
/-! DEFINITION. The orders to the plan table (section 2.5). -/

namespace Sys2Proof.Machine

/-! ### Checks and clamps (R37) -/

/-- A precondition power from 1 to 19 is taken as 20, and one above 100 as 100 (R37). -/
def clampPower (p : Nat) : Nat := if p = 0 then 0 else min 100 (max 20 p)

/-- The plan fields of an order after the clamps of R37: a window above 60 is taken as 60, a class other than 0
as 1. -/
def planOf (f : PlanOrder) : Plan :=
  { departure := num f.departure, target := num f.target, window := min 60 (num f.window),
    power := clampPower (num f.power), priority := f.priority ≠ 0 }

/-- A departure minute or a target that is refused RANGE (R37, R44). -/
def badTimes (departure : U16) (target : U24) : Bool := 1440 ≤ num departure || 999999 < num target

/-- The kind of an order whose fields R37 accepts; absent when it refuses them RANGE. -/
def acceptedKind (f : PlanOrder) : Option PlanKind :=
  match planKindOf f.kind with
  | none => none
  | some k => if (k = .exact ∧ f.identity = 0) ∨ badTimes f.departure f.target then none else some k

/-- The entry that a write leaves OPEN (R38). -/
def openEntryOf (f : PlanOrder) (k : PlanKind) : PlanEntry :=
  { state := .opened, kind := k, identity := f.identity, plan := planOf f, reuse := f.reuse ≠ 0, claimant := none,
    outcome := none }

/-! ### Writing an entry (R38, R40) -/

/-- A write to entry `e`, from 1 to 96, with the status it is answered (R37, R38, R40; log entry 32 for a CLAIMED entry
with no claimant). -/
def writePlan (e : Nat) (f : PlanOrder) (s : State) : State × Status :=
  match acceptedKind f with
  | none => (s, .range)
  | some k =>
    let x := s.entry e
    match x.state with
    | .free => (putEntry e (openEntryOf f k) s, .ok)
    | .opened => (putEntry e (openEntryOf f k) s, .ok)
    | .spent => (putEntry e (openEntryOf f k) s, .ok)
    | .claimed =>
      if x.kind = k ∧ x.identity = f.identity then
        (amendSession (x.claimant.getD 0) (planOf f) (putEntry e { x with plan := planOf f, reuse := f.reuse ≠ 0 } s), .ok)
      else (s, .state)

def effectPutPlan (entry : Byte) (f : PlanOrder) (s : State) : State × List Byte :=
  if !validEntry (num entry) then (s, refusal .range 2)
  else
    let r := writePlan (num entry) f s
    match r.2 with
    | .ok => (r.1, okBody (enc8 (num entry) ++ enc8 (r.1.entry (num entry)).state.code))
    | st => (r.1, refusal st 2)

/-- PUT_PLAN (R37 to R40). -/
def execPutPlan (tag entry : Byte) (fields : PlanOrder) (s : State) : Result :=
  .next (takeOrder (.putPlan tag entry fields) (effectPutPlan entry fields) s)

/-! ### The put cursor (R41) -/

def setCursor (c : Nat) (s : State) : State := { s with plans := { s.plans with cursor := c } }

def effectSetPlanCursor (entry : Byte) (s : State) : State × List Byte :=
  if validEntry (num entry) then (setCursor (num entry) s, okBody (enc8 (num entry))) else (s, refusal .range 1)

/-- SET_PLAN_CURSOR (R41). -/
def execSetPlanCursor (tag entry : Byte) (s : State) : Result :=
  .next (takeOrder (.setPlanCursor tag entry) (effectSetPlanCursor entry) s)

/-- PUT PLAN NEXT: every reply carries an entry number, the one written or the cursor's value at a refusal, and the
cursor after the order (R41). -/
def effectPutPlanNext (f : PlanOrder) (s : State) : State × List Byte :=
  let c := s.plans.cursor
  if 96 < c then (s, Status.range.byte :: enc8 c ++ enc8 c)
  else
    let r := writePlan c f s
    match r.2 with
    | .ok => (setCursor (c + 1) r.1, okBody (enc8 c ++ enc8 (c + 1)))
    | st => (r.1, st.byte :: enc8 c ++ enc8 c)

/-- PUT_PLAN_NEXT (R41). -/
def execPutPlanNext (tag : Byte) (fields : PlanOrder) (s : State) : Result :=
  .next (takeOrder (.putPlanNext tag fields) (effectPutPlanNext fields) s)

/-! ### Releasing and reading (R42, R43) -/

/-- An entry becomes FREE, and a claimant's session loses its plan link (R42, R18; log entry 32 for a CLAIMED entry with
no claimant). -/
def releaseEntry (e : Nat) (s : State) : State :=
  let x := s.entry e
  let s1 := if x.state = .claimed then dropLink (x.claimant.getD 0) s else s
  putEntry e PlanEntry.free s1

def effectReleasePlan (entry : Byte) (s : State) : State × List Byte :=
  if validEntry (num entry) then
    (releaseEntry (num entry) s, okBody (enc8 (s.entry (num entry)).state.code))
  else (s, refusal .range 1)

/-- RELEASE_PLAN (R42). -/
def execReleasePlan (tag entry : Byte) (s : State) : Result :=
  .next (takeOrder (.releasePlan tag entry) (effectReleasePlan entry) s)

def Plan.bytes (p : Plan) : List Byte :=
  enc16 p.departure ++ enc24 p.target ++ enc8 p.window ++ enc16 p.power ++ encFlag p.priority

/-- The outcome's own fields (section 2.1). -/
def SessionOutcome.bytes (o : SessionOutcome) : List Byte :=
  enc8 o.bay ++ encIdentity o.identity ++ enc24 o.battery ++ enc24 o.auxiliary ++ enc16 o.closeMinute ++
    encFlag o.targetMet

/-- The outcome's fields where there is none. -/
def SessionOutcome.unfilled : SessionOutcome := ⟨0, none, 0, 0, 0, false⟩

/-- The fields of R43, in its order. -/
def entryBytes (x : PlanEntry) (cursor : Nat) : List Byte :=
  enc8 x.state.code ++ enc8 x.kind.code ++ be24 x.identity ++ encFlag x.reuse ++ x.plan.bytes ++
    encOpt enc8 0 x.claimant ++ encFlag x.outcome.isSome ++ (x.outcome.getD SessionOutcome.unfilled).bytes ++
    enc8 cursor

/-- The bytes of a READ PLAN reply after its status. -/
def entryWidth : Nat := 33

def effectReadPlan (entry : Byte) (s : State) : State × List Byte :=
  if validEntry (num entry) then (s, okBody (entryBytes (s.entry (num entry)) s.plans.cursor))
  else (s, refusal .range entryWidth)

/-- READ_PLAN (R43). -/
def execReadPlan (tag entry : Byte) (s : State) : Result :=
  .next (takeOrder (.readPlan tag entry) (effectReadPlan entry) s)

/-! ### Masks and the default plan (R44, R45) -/

def effectSetGroupMask (group : Byte) (mask : U24) (s : State) : State × List Byte :=
  if 1 ≤ num group && num group ≤ 4 then
    ({ s with plans := { s.plans with masks := set1 s.plans.masks (num group) mask } }, okBody (be24 mask))
  else (s, refusal .range 3)

/-- SET_GROUP_MASK (R45). -/
def execSetGroupMask (tag group : Byte) (mask : U24) (s : State) : Result :=
  .next (takeOrder (.setGroupMask tag group mask) (effectSetGroupMask group mask) s)

/-- The default plan an order gives, after the clamps of R37 (R44). -/
def defaultPlanOf (f : DefaultOrder) : Plan :=
  { departure := num f.departure, target := num f.target, window := min 60 (num f.window),
    power := clampPower (num f.power), priority := f.priority ≠ 0 }

def effectSetDefaultPlan (f : DefaultOrder) (s : State) : State × List Byte :=
  if badTimes f.departure f.target then (s, refusal .range 0)
  else ({ s with plans := { s.plans with defaultPlan := defaultPlanOf f } }, okBody [])

/-- SET_DEFAULT_PLAN (R44). -/
def execSetDefaultPlan (tag : Byte) (fields : DefaultOrder) (s : State) : Result :=
  .next (takeOrder (.setDefaultPlan tag fields) (effectSetDefaultPlan fields) s)

end Sys2Proof.Machine
end

