-- ==== Sys2Proof/Machine/SessionOrders.lean ====
section
/-! DEFINITION. The orders to the session table (section 1.10) and the identity timer (R4). -/

namespace Sys2Proof.Machine

/-- The fields of R27, in its order. -/
def sessionBytes (x : Session) : List Byte :=
  enc8 x.state.code ++ enc16 x.serial ++ enc16 x.opened ++
  encIdentity x.identity ++ encOpt enc8 0 x.planLink ++
  enc16 x.plan.departure ++ encOpt enc16 0 x.countdown ++
  enc24 x.plan.target ++ enc24 x.battery ++ enc24 x.auxiliary ++
  enc8 x.plan.window ++ enc16 x.plan.power ++ encFlag x.windowOpen ++
  encFlag x.plan.priority ++ enc16 x.acceptance ++
  enc8 x.holds.code ++
  enc16 x.grant ++ encFlag x.short ++ encFlag x.preShort ++
  enc16 (secondsUp x.idTimer)

/-- The bytes of a READ SESSION reply after its status. -/
def sessionWidth : Nat := 39

def effectReadSession (bay : Byte) (s : State) : State × List Byte :=
  if validBay (num bay) then (s, okBody (sessionBytes (s.session (num bay)))) else (s, refusal .range sessionWidth)

/-- READ_SESSION (R27). -/
def execReadSession (tag bay : Byte) (s : State) : Result :=
  .next (takeOrder (.readSession tag bay) (effectReadSession bay) s)

/-- The reply of SUSPEND BAY and RESUME BAY: the serial, and the hold reasons after the order (R25, R26). -/
def holdsBytes (x : Session) : List Byte := enc16 x.serial ++ enc8 x.holds.code

def effectSuspendBay (bay : Byte) (s : State) : State × List Byte :=
  if !validBay (num bay) then (s, refusal .range 3)
  else if !(s.session (num bay)).isOpen then (s, refusal .state 3)
  else
    let s1 := setHold .host (num bay) s
    (s1, okBody (holdsBytes (s1.session (num bay))))

/-- SUSPEND_BAY (R25). -/
def execSuspendBay (tag bay : Byte) (s : State) : Result :=
  .next (takeOrder (.suspendBay tag bay) (effectSuspendBay bay) s)

def effectResumeBay (bay : Byte) (s : State) : State × List Byte :=
  if !validBay (num bay) then (s, refusal .range 3)
  else if !(s.session (num bay)).isOpen then (s, refusal .state 3)
  else
    let s1 := clearHold .host (num bay) s
    (s1, okBody (holdsBytes (s1.session (num bay))))

/-- RESUME_BAY (R26). -/
def execResumeBay (tag bay : Byte) (s : State) : Result :=
  .next (takeOrder (.resumeBay tag bay) (effectResumeBay bay) s)

/-- The expiry of a running identity timer binds the session to the default plan (R4). -/
def expireIdentity (bay : Nat) (s : State) : State :=
  if (s.session bay).state = .identifying ∧ (s.session bay).idTimer.isSome then bind bay s.plans.defaultPlan none s
  else s

/-- IDENTITY_TIMER_EXPIRY (R4). -/
def execIdentityTimerExpiry (bay : Nat) (s : State) : Result := atBay bay (expireIdentity bay) s

end Sys2Proof.Machine
end

