-- ==== Sys2Proof/Machine/Allocator.lean ====
section
/-! DEFINITION. The orders to the allocator and its events (chapter 4). -/

namespace Sys2Proof.Machine

/-- The fields of R101: whether the order started a pass (1) or set pending (0), then the state after it (log entry
27). -/
def reallocateBytes (started : Bool) (s : State) : List Byte :=
  encFlag started ++ encFlag (inFlight s) ++ encFlag s.alloc.again ++ encFlag s.alloc.stale ++
    enc16 s.alloc.period ++ enc16 (secondsUp s.alloc.periodTimer) ++ enc8 s.alloc.lastOrder.length

def effectReallocate (s : State) : State × List Byte :=
  if allocationEnabled s then (requestPass s, okBody (reallocateBytes (!inFlight s) (requestPass s)))
  else (s, refusal .state 9)

/-- REALLOCATE (R101). -/
def execReallocate (tag : Byte) (s : State) : Result :=
  .next (takeOrder (.reallocate tag) effectReallocate s)

/-- The period is taken as 10 s at least and 600 s at most (R78). -/
def clampPeriod (p : Nat) : Nat := min 600 (max 10 p)

def effectSetPeriod (seconds : U16) (s : State) : State × List Byte :=
  (startPeriod { s with alloc := { s.alloc with period := clampPeriod (num seconds) } },
    okBody (enc16 (clampPeriod (num seconds))))

/-- SET_PERIOD (R78). -/
def execSetPeriod (tag : Byte) (seconds : U16) (s : State) : Result :=
  .next (takeOrder (.setPeriod tag seconds) (effectSetPeriod seconds) s)

/-- PERIOD_TIMER_EXPIRY (R77): a pass is requested, and the timer starts again at the period. -/
def execPeriodTimerExpiry (s : State) : Result :=
  .next (if s.alloc.periodTimer.isSome then startPeriod (requestPass s) else s)

/-- PASS_COMPLETE (R93 to R96): with no pass in flight there is nothing to complete. -/
def execPassComplete (s : State) : Result := .next (completePass s)

end Sys2Proof.Machine
end

