-- ==== Sys2Proof/Machine/ReadyOrders.lean ====
section
/-! DEFINITION. The orders to the ready list (section 7.2). -/

namespace Sys2Proof.Machine

/-- The bytes of a ready record in a reply. -/
def recordWidth : Nat := 14

def effectReadReady (s : State) : State × List Byte :=
  match s.ready.records with
  | [] => (s, Status.empty.byte :: List.replicate recordWidth 0 ++ enc8 0 ++ encFlag s.ready.overflow)
  | r :: rest =>
    ({ s with ready := { s.ready with records := rest } },
      okBody (r.bytes ++ enc8 rest.length ++ encFlag s.ready.overflow))

/-- READ_READY (R151). -/
def execReadReady (tag : Byte) (s : State) : Result :=
  .next (takeOrder (.readReady tag) effectReadReady s)

def effectClearReadyOverflow (s : State) : State × List Byte :=
  ({ s with ready := { s.ready with overflow := false } },
    okBody (enc8 s.ready.records.length ++ encFlag s.ready.overflow))

/-- CLEAR_READY_OVERFLOW (R152). -/
def execClearReadyOverflow (tag : Byte) (s : State) : Result :=
  .next (takeOrder (.clearReadyOverflow tag) effectClearReadyOverflow s)

end Sys2Proof.Machine
end

