-- ==== Sys2Proof/Machine/CabinetOrders.lean ====
section
/-! DEFINITION. The orders to the cabinet links (section 6.9). -/

namespace Sys2Proof.Machine

/-- A module's state, and its bay where present (R144). -/
def moduleBytes (x : Module) : List Byte := enc8 x.state.code ++ encOpt enc8 0 x.bay

/-- The values of one bay of a cabinet (R144). -/
def linkBayBytes (s : State) (bay : Nat) : List Byte :=
  let l := s.linkBay bay
  encFlag l.present ++ be24 l.identitySeen ++ enc24 l.lastBattery ++ enc24 l.lastAuxiliary ++ encFlag l.insulation ++
    encFlag l.derate ++ enc16 (s.power bay).reported ++ enc16 (s.power bay).commanded

/-- The fields of R144, in its order. -/
def cabinetBytes (cab : Nat) (s : State) : List Byte :=
  let l := s.link cab
  enc8 l.state.code ++ encFlag l.adopted ++ enc8 l.probeCount ++ enc16 (secondsUp l.probe) ++
  enc16 (tenths l.silence) ++
  enc16 (tenths l.lostTimer) ++ enc24 l.lostSum ++
  enc8 (moduleSet l.installed) ++
  allModules.flatMap (fun m => moduleBytes (s.module cab m)) ++
  (baysOf cab).flatMap (linkBayBytes s) ++
  ceilingBytes (s.ceiling cab)

/-- The bytes of a READ CABINET reply after its status. -/
def cabinetWidth : Nat := 124

def effectReadCabinet (cabinet : Byte) (s : State) : State × List Byte :=
  if validCab (num cabinet) then (s, okBody (cabinetBytes (num cabinet) s)) else (s, refusal .range cabinetWidth)

/-- READ_CABINET (R144). -/
def execReadCabinet (tag cabinet : Byte) (s : State) : Result :=
  .next (takeOrder (.readCabinet tag cabinet) (effectReadCabinet cabinet) s)

/-- RETRAIN of a link that is not ISOLATED (R143). -/
def retrainLink (cab : Nat) (s : State) : State :=
  match (s.link cab).state with
  | .up => retrainFromUp cab s
  | .training => enterTraining cab s
  | .absent => linkChanged cab .absent .retrain (enterTraining cab s)
  | .lost => linkChanged cab .lost .retrain (enterTraining cab s)
  | .isolated => s

def effectRetrain (cabinet : Byte) (s : State) : State × List Byte :=
  if !validCab (num cabinet) then (s, refusal .range 0)
  else if (s.link (num cabinet)).state = .isolated then (s, refusal .state 0)
  else (retrainLink (num cabinet) s, okBody [])

/-- RETRAIN (R143). -/
def execRetrain (tag cabinet : Byte) (s : State) : Result :=
  .next (takeOrder (.retrain tag cabinet) (effectRetrain cabinet) s)

end Sys2Proof.Machine
end

