-- ==== Sys2Proof/Machine/CabinetMessages.lean ====
section
/-! DEFINITION. The messages from a cabinet (sections 6.3 to 6.7). A message whose fields break R135 is a frame error
in every link state; a good frame restarts the silence timer before it is acted on. -/

namespace Sys2Proof.Machine

/-- A message that passes the checks is taken as `act` states; one that fails them is a frame error (R135). -/
def takeChecked (cab : Nat) (good : Bool) (act : State → State) (s : State) : State :=
  if good then act (goodFrame cab s) else linkFrameFault cab s

/-! ### DESCRIPTOR (R132) -/

def LinkBay.clearFlags (b : LinkBay) : LinkBay := { b with insulation := false, derate := false }

/-- Every bay of a link changed alike. -/
def Link.eachBay (l : Link) (f : LinkBay → LinkBay) : Link :=
  { l with bays := tabulate 6 fun p => f (l.bay p) }

/-- The installed modules that a descriptor names, in ascending order. -/
def installedOf (ms : List Byte) : List Nat := allModules.filter fun m => (ms.map BitVec.toNat).contains m

/-- Steps 1 to 3 of R132. -/
def Link.trained (l : Link) (installed : List Nat) : Link :=
  ({ l with state := .up, probe := none, adopted := false, silence := some silenceMs, keep := some keepMs,
            installed := installed } : Link).eachBay LinkBay.clearFlags

/-- A DESCRIPTOR taken in TRAINING or ABSENT (R132). -/
def bringUp (cab : Nat) (installed : List Nat) (s : State) : State :=
  let before := (s.link cab).state
  let s1 := putLink cab ((s.link cab).trained installed) s
  linkChanged cab before .descriptor (bondDescriptor cab installed s1)

def actDescriptor (cab : Nat) (ms : List Byte) (s : State) : State :=
  match (s.link cab).state with
  | .training => bringUp cab (installedOf ms) s
  | .absent => bringUp cab (installedOf ms) s
  | .up => s
  | .lost => s
  | .isolated => s

def takeDescriptor (cab : Nat) (ms : List Byte) (s : State) : State :=
  takeChecked cab (validDescriptor ms) (actDescriptor cab ms) s

/-- DESCRIPTOR (R132). -/
def execDescriptor (cab : Nat) (modules : List Byte) (s : State) : Result :=
  atCab cab (takeDescriptor cab modules) s

/-! ### STATUS (R137, R138) -/

def zeroBlock : BayBlock := ⟨0, 0, 0, 0, 0, 0, 0, 0⟩

def blockOf (m : StatusMsg) (pos : Nat) : BayBlock := get1 m.bays zeroBlock pos

def blockPresent (b : BayBlock) : Bool := b.presence ≠ 0
def blockInsulation (b : BayBlock) : Bool := b.insulation ≠ 0
def blockDerate (b : BayBlock) : Bool := b.derate ≠ 0

/-- An identity that is not 0 is handed to the session table (Table 6-5). -/
def handIdentity (bay : Nat) (b : BayBlock) (s : State) : State :=
  if b.identity = 0 then s else takeIdentity bay b.identity (num b.acceptance) s

/-- Adoption of one bay (Table 6-5). -/
def adoptBay (bay : Nat) (b : BayBlock) (s : State) : State :=
  let x := s.session bay
  if blockPresent b then
    match x.state with
    | .vacant => handIdentity bay b (plugPresent bay s)
    | .identifying => handIdentity bay b (clearHold .link bay s)
    | .active | .satisfied | .overdue =>
      if x.identity.getD 0 = b.identity then clearHold .link bay s
      else handIdentity bay b (plugPresent bay (closeSession .reconnectMismatch bay s))
  else if x.isOpen then closeSession .reconnectMismatch bay s
  else s

/-- A bay's insulation and derate faults, each handed on when its flag was clear; the flags then take the message's
values (R138, step 2). -/
def takeBayFaults (bay : Nat) (b : BayBlock) (s : State) : State :=
  let l := s.linkBay bay
  let s1 := if blockInsulation b && !l.insulation then
      takeFault .block (cabOf bay) .bayInsulation ⟨.bay, bay⟩ s else s
  let s2 := if blockDerate b && !l.derate then takeFault .block (cabOf bay) .bayDerate ⟨.bay, bay⟩ s1 else s1
  putLinkBay bay { s2.linkBay bay with insulation := blockInsulation b, derate := blockDerate b } s2

/-- Energy and acceptance of one bay; the reported counts become the last counts (R138, step 3). -/
def takeEnergy (bay : Nat) (b : BayBlock) (s : State) : State :=
  let s1 := updateAcceptance bay (num b.acceptance) (countEnergy bay (num b.battery) (num b.auxiliary) s)
  putLinkBay bay { s1.linkBay bay with lastBattery := num b.battery, lastAuxiliary := num b.auxiliary } s1

/-- Presence of one bay (R138, step 1). -/
def takePresence (bay : Nat) (b : BayBlock) (s : State) : State :=
  let l := s.linkBay bay
  let s1 := putLinkBay bay { l with present := blockPresent b, identitySeen := b.identity } s
  if blockPresent b = l.present then s1 else if blockPresent b then plugPresent bay s1 else plugAbsent bay s1

/-- The three steps of R138 for one bay. -/
def serveBay (bay : Nat) (b : BayBlock) (s : State) : State :=
  takeEnergy bay b (takeBayFaults bay b (takePresence bay b s))

/-- The reported powers are taken, and overdraw is evaluated (R105, R68). -/
def takePower (cab : Nat) (m : StatusMsg) (s : State) : State :=
  evaluateOverdraw (takeReported cab (fun p => num (blockOf m p).power) s)

/-- A STATUS in service (R138). -/
def serveStatus (cab : Nat) (m : StatusMsg) (s : State) : State :=
  takePower cab m (forEach (baysOf cab) (fun bay => serveBay bay (blockOf m (posOf bay))) s)

/-- Presence and identity last seen, at adoption (R137, step 3). -/
def storeSeen (bay : Nat) (b : BayBlock) (s : State) : State :=
  putLinkBay bay { s.linkBay bay with present := blockPresent b, identitySeen := b.identity } s

/-- The link marks itself adopted and ends any lost hold, of which the bond controller is told (R137, R136). -/
def markAdopted (cab : Nat) (s : State) : State :=
  let l := s.link cab
  let s1 := putLink cab { l.endLostHold with adopted := true } s
  if l.lostHold.isSome then examineRaises s1 else s1

/-- The adoption arrival, in the steps of R137. -/
def adoptStatus (cab : Nat) (m : StatusMsg) (s : State) : State :=
  let s1 := adoptModules cab (s.link cab).installed m.modules (markAdopted cab s)
  let s2 := forEach (baysOf cab) (fun bay => adoptBay bay (blockOf m (posOf bay))) s1
  let s3 := forEach (baysOf cab) (fun bay s =>
    takeBayFaults bay (blockOf m (posOf bay)) (storeSeen bay (blockOf m (posOf bay)) s)) s2
  let s4 := forEach (baysOf cab) (fun bay => takeEnergy bay (blockOf m (posOf bay))) s3
  takePower cab m s4

def actStatus (cab : Nat) (m : StatusMsg) (s : State) : State :=
  let l := s.link cab
  match l.state with
  | .up => if l.adopted then serveStatus cab m s else adoptStatus cab m s
  | .isolated => serveStatus cab m s
  | .training => s
  | .absent => s
  | .lost => s

def takeStatus (cab : Nat) (m : StatusMsg) (s : State) : State :=
  takeChecked cab (validStatus m) (actStatus cab m) s

/-- STATUS (R137, R138). -/
def execStatus (cab : Nat) (message : StatusMsg) (s : State) : Result :=
  atCab cab (takeStatus cab message) s

/-! ### PLUG and IDENTITY (R139) -/

def actPlug (cab : Nat) (position presence : Byte) (s : State) : State :=
  if (s.link cab).serves then
    let bay := bayAt cab (num position)
    let s1 := putLinkBay bay { s.linkBay bay with present := presence ≠ 0 } s
    if presence ≠ 0 then plugPresent bay s1 else plugAbsent bay s1
  else s

def takePlug (cab : Nat) (position presence : Byte) (s : State) : State :=
  takeChecked cab (validPlug position presence) (actPlug cab position presence) s

/-- PLUG (R139). -/
def execPlug (cab : Nat) (position presence : Byte) (s : State) : Result :=
  atCab cab (takePlug cab position presence) s

def actIdentity (cab : Nat) (position : Byte) (vehicle : U24) (acceptance : U16) (s : State) : State :=
  if (s.link cab).serves then takeIdentity (bayAt cab (num position)) vehicle (num acceptance) s else s

def takeIdentityMsg (cab : Nat) (position : Byte) (vehicle : U24) (acceptance : U16) (s : State) : State :=
  takeChecked cab (validPosition (num position)) (actIdentity cab position vehicle acceptance) s

/-- IDENTITY (R139, R3, R6, R7). -/
def execIdentity (cab : Nat) (position : Byte) (vehicle : U24) (acceptance : U16) (s : State) : Result :=
  atCab cab (takeIdentityMsg cab position vehicle acceptance) s

/-! ### MODULE REPORT and FAULT (R140) -/

/-- A report of failed: the bond controller faults the module (R121) and hands MODULE_FAIL to the fault unit (R117,
log entry 31). -/
def moduleFailed (cab m : Nat) (s : State) : State :=
  takeFault .block cab .moduleFail ⟨.module, m⟩ (moduleFault cab m s)

def actModuleReport (cab : Nat) (module result : Byte) (s : State) : State :=
  let l := s.link cab
  if l.state = .up && l.adopted then
    match num result with
    | 0 => moduleOpened cab (num module) s
    | 1 => moduleClosed cab (num module) s
    | _ => moduleFailed cab (num module) s
  else s

def takeModuleReport (cab : Nat) (module result : Byte) (s : State) : State :=
  takeChecked cab (validReport module result) (actModuleReport cab module result) s

/-- MODULE_REPORT (R140, R115 to R117). -/
def execModuleReport (cab : Nat) (module result : Byte) (s : State) : Result :=
  atCab cab (takeModuleReport cab module result) s

def actFault (cab : Nat) (code kind number : Byte) (s : State) : State :=
  let l := s.link cab
  if l.state = .up || l.state = .isolated then
    match cabinetFaultCode code, cabinetSubject cab kind number with
    | some c, some x => takeFault .message cab c x s
    | _, _ => s
  else s

def takeFaultMsg (cab : Nat) (faultClass code kind number : Byte) (s : State) : State :=
  takeChecked cab (validFault faultClass code kind number) (actFault cab code kind number) s

/-- FAULT_MESSAGE (R140, R159 to R162). -/
def execFaultMessage (cab : Nat) (faultClass code subjectKind subjectNumber : Byte) (s : State) : Result :=
  atCab cab (takeFaultMsg cab faultClass code subjectKind subjectNumber) s

end Sys2Proof.Machine
end

