-- ==== Sys2Proof/Machine/CabinetTimers.lean ====
section
/-! DEFINITION. The expiries of the timers of the bond controller (section 5.8) and of the cabinet links (chapter 6).
An expiry acts on a running timer; a stopped timer cannot expire, and the command then changes nothing (log entry
2). -/

namespace Sys2Proof.Machine

/-! ### Bond controller -/

/-- A ramp timer expires (R119). -/
def expireRamp (bay : Nat) (s : State) : State :=
  if (s.power bay).ramp.isSome then
    takeFault .block (cabOf bay) .rampTimeout ⟨.cabinet, cabOf bay⟩
      (putPower bay { s.power bay with ramp := none } s)
  else s

/-- RAMP_TIMER_EXPIRY (R119). -/
def execRampTimerExpiry (bay : Nat) (s : State) : Result := atBay bay (expireRamp bay) s

/-- A contactor timer expires (R120). -/
def expireContactor (cab m : Nat) (s : State) : State :=
  if (s.module cab m).contactor.isSome then
    requestPass (putModule cab m { state := .faulted, bay := none, contactor := none }
      (takeFault .block cab .contactorTimeout ⟨.module, m⟩ s))
  else s

/-- CONTACTOR_TIMER_EXPIRY (R120). -/
def execContactorTimerExpiry (cab module : Nat) (s : State) : Result :=
  atModule cab module (expireContactor cab module) s

/-! ### Training (R131) -/

/-- At most ten probes are sent in one training (R131). -/
def probeLimit : Nat := 10

/-- A probe timer expires (R131). -/
def expireProbe (cab : Nat) (s : State) : State :=
  let l := s.link cab
  if l.probe.isSome then
    match l.state with
    | .training =>
      if l.probeCount < probeLimit then putLink cab l.sendProbe s
      else linkChanged cab .training .noAnswer
        (putLink cab { l with state := .absent, probe := some absentProbeMs } s)
    | .absent => putLink cab { l.hand .probe with probe := some absentProbeMs } s
    | .up => s
    | .lost => s
    | .isolated => s
  else s

/-- PROBE_TIMER_EXPIRY (R131). -/
def execProbeTimerExpiry (cab : Nat) (s : State) : Result := atCab cab (expireProbe cab) s

/-! ### The link in service (R133, R134, R141) -/

/-- A keep timer expires (R133). -/
def expireKeep (cab : Nat) (s : State) : State :=
  let l := s.link cab
  if l.keep.isSome && l.state = .up then putLink cab { l.hand .keep with keep := some keepMs } s else s

/-- KEEP_TIMER_EXPIRY (R133). -/
def execKeepTimerExpiry (cab : Nat) (s : State) : Result := atCab cab (expireKeep cab) s

/-- The silence timer of an UP link expires (R134). -/
def loseLink (cab : Nat) (s : State) : State :=
  let s1 := putLink cab { (s.link cab).leaveUp .lost with silence := none } s
  let s2 := takeFault .block cab .linkLost ⟨.cabinet, cab⟩ s1
  let s3 := holdCabinet .link cab s2
  linkChanged cab .up .silence (bondLeavesUp true cab s3)

/-- The silence timer of an ISOLATED link expires: the reported powers become 0, and the timer starts again
(R141). -/
def silenceIsolated (cab : Nat) (s : State) : State :=
  let s1 := forEach (baysOf cab) (fun b s => putPower b { s.power b with reported := 0 } s) s
  putLink cab { s1.link cab with silence := some silenceMs } s1

/-- A silence timer expires. -/
def expireSilence (cab : Nat) (s : State) : State :=
  let l := s.link cab
  if l.silence.isSome then
    match l.state with
    | .up => loseLink cab s
    | .isolated => silenceIsolated cab s
    | .absent => s
    | .training => s
    | .lost => s
  else s

/-- SILENCE_TIMER_EXPIRY (R134, R141). -/
def execSilenceTimerExpiry (cab : Nat) (s : State) : Result := atCab cab (expireSilence cab) s

/-! ### The lost hold (R136) -/

/-- A lost-hold timer expires: the values become absent, a LOST link becomes TRAINING, and the bond controller is
told (R136). -/
def expireLostHold (cab : Nat) (s : State) : State :=
  let l := s.link cab
  if l.lostTimer.isSome then
    let s1 := putLink cab l.endLostHold s
    if l.state = .lost then linkChanged cab .lost .holdEnd (examineRaises (enterTraining cab s1))
    else examineRaises s1
  else s

/-- LOST_HOLD_TIMER_EXPIRY (R136). -/
def execLostHoldTimerExpiry (cab : Nat) (s : State) : Result := atCab cab (expireLostHold cab) s

end Sys2Proof.Machine
end

