-- ==== Sys2Proof/Machine/FaultOrders.lean ====
section
/-! DEFINITION. The orders to the fault unit (sections 8.5 to 8.8). -/

namespace Sys2Proof.Machine

/-- A first code with its presence marker (R165, R169). -/
def firstBytes (o : Option FirstCode) : List Byte := encOpt FirstCode.bytes FirstCode.unfilled o

/-- A cabinet's record: the three flags, the three first codes, the isolated marker (R165, R169). -/
def recordBytes (f : CabinetFaults) : List Byte :=
  encFlag f.correctable.isSome ++ encFlag f.nonfatal.isSome ++ encFlag f.fatal.isSome ++
    firstBytes f.correctable ++ firstBytes f.nonfatal ++ firstBytes f.fatal ++ encFlag f.isolated

/-- The six reporting enables, class by class (R164). -/
def enablesBytes (f : FaultUnit) : List Byte :=
  encFlag f.notices.correctable ++ encFlag f.alarms.correctable ++ encFlag f.notices.nonfatal ++
    encFlag f.alarms.nonfatal ++ encFlag f.notices.fatal ++ encFlag f.alarms.fatal

/-- The fields of R169, in its order. -/
def faultsBytes (s : State) : List Byte :=
  allCabs.flatMap (fun c => recordBytes (s.cabFaults c)) ++
  encFlag s.faults.overdrawMinute.isSome ++ encOpt enc16 0 s.faults.overdrawMinute ++
  encFlag s.faults.stopMinute.isSome ++ encOpt enc16 0 s.faults.stopMinute ++
  enablesBytes s.faults ++ encFlag s.faults.alarm

def effectReadFaults (s : State) : State × List Byte := (s, okBody (faultsBytes s))

/-- READ_FAULTS (R169). -/
def execReadFaults (tag : Byte) (s : State) : Result :=
  .next (takeOrder (.readFaults tag) effectReadFaults s)

/-- The reply of CLEAR FAULTS: a cabinet's record, or the site's flag and minute; the other part is not filled
(R165, log entry 12). -/
def clearedBytes (subject : Nat) (s : State) : List Byte :=
  if subject = 0 then
    recordBytes CabinetFaults.reset ++ encFlag s.faults.overdrawMinute.isSome ++
      enc16 (s.faults.overdrawMinute.getD 0)
  else recordBytes (s.cabFaults subject) ++ encFlag false ++ enc16 0

/-- The bytes of a CLEAR FAULTS reply after its status. -/
def clearedWidth : Nat := 19

def effectClearFaults (subject classes : Byte) (s : State) : State × List Byte :=
  if num subject = 0 then
    let s1 := evaluateAlarm (clearSite classes s)
    (s1, okBody (clearedBytes 0 s1))
  else if validCab (num subject) then
    let s1 := evaluateAlarm (clearCabinet (num subject) classes s)
    (s1, okBody (clearedBytes (num subject) s1))
  else (s, refusal .range clearedWidth)

/-- CLEAR_FAULTS (R165, R166). -/
def execClearFaults (tag subject classes : Byte) (s : State) : Result :=
  .next (takeOrder (.clearFaults tag subject classes) (effectClearFaults subject classes) s)

/-- An enable other than off is taken as on (R164, R183). -/
def isOn (b : Byte) : Bool := b ≠ 0

/-- The enables that an order stores (R164). -/
def applyReporting (e : ReportingOrder) (s : State) : State :=
  evaluateAlarm { s with faults := { s.faults with
    notices := ⟨isOn e.correctableNotice, isOn e.nonfatalNotice, isOn e.fatalNotice⟩
    alarms := ⟨isOn e.correctableAlarm, isOn e.nonfatalAlarm, isOn e.fatalAlarm⟩ } }

def effectSetReporting (e : ReportingOrder) (s : State) : State × List Byte :=
  let s1 := applyReporting e s
  (s1, okBody (enablesBytes s1.faults ++ encFlag s1.faults.alarm))

/-- SET_REPORTING (R164). -/
def execSetReporting (tag : Byte) (enables : ReportingOrder) (s : State) : Result :=
  .next (takeOrder (.setReporting tag enables) (effectSetReporting enables) s)

/-- The fields of every RESUME SITE reply (R168). -/
def stopBytes (s : State) : List Byte :=
  encFlag s.faults.stopMinute.isSome ++ encOpt enc16 0 s.faults.stopMinute ++ enc8 (stopLinesAsserted s)

def effectResumeSite (s : State) : State × List Byte :=
  if s.faults.stopMinute.isNone || 0 < stopLinesAsserted s then (s, Status.state.byte :: stopBytes s)
  else
    let s1 := endStop s
    (s1, okBody (stopBytes s1))

/-- RESUME_SITE (R168). -/
def execResumeSite (tag : Byte) (s : State) : Result :=
  .next (takeOrder (.resumeSite tag) effectResumeSite s)

end Sys2Proof.Machine
end

