-- ==== Sys2Proof/Machine/Yard.lean ====
section
/-! DEFINITION. The orders to the yard lines and their events (chapter 9). -/

namespace Sys2Proof.Machine

/-- A line's settings and its level, as READ LINES and SET LINE give them (R175, R176). -/
def lineBytes (s : State) (l : Nat) : List Byte := (s.line l).settings.bytes ++ lineLevelBytes s (s.line l)

/-- The bytes of a SET LINE reply after its status. -/
def lineWidth : Nat := 10

def effectSetLine (line : Byte) (o : LineOrder) (s : State) : State × List Byte :=
  match lineSettingsOf o with
  | none => (s, refusal .range lineWidth)
  | some n =>
    if !validLine (num line) then (s, refusal .range lineWidth)
    else if functionTaken s (num line) n.function then (s, refusal .state lineWidth)
    else
      let s1 := applyLine (num line) n s
      (s1, okBody (lineBytes s1 (num line)))

/-- SET_LINE (R175). -/
def execSetLine (tag line : Byte) (settings : LineOrder) (s : State) : Result :=
  .next (takeOrder (.setLine tag line settings) (effectSetLine line settings) s)

/-- The fields of R176, in its order. -/
def linesBytes (s : State) : List Byte :=
  allLines.flatMap (lineBytes s) ++ enc8 (stopLinesAsserted s)

def effectReadLines (s : State) : State × List Byte := (s, okBody (linesBytes s))

/-- READ_LINES (R176). -/
def execReadLines (tag : Byte) (s : State) : Result :=
  .next (takeOrder (.readLines tag) effectReadLines s)

/-- YARD_PIN_CHANGE (R172). -/
def execYardPinChange (line : Nat) (high : Bool) (s : State) : Result :=
  atLine line (fun s => putLine line ((s.line line).takePin high) s) s

/-- The filter time of a line has passed: the filtered level takes the pin's, and is handed on (R172, R173). -/
def expireFilter (l : Nat) (s : State) : State :=
  let x := s.line l
  if x.filter.isSome then handLevel l (putLine l { x with level := !x.level, filter := none } s) else s

/-- LINE_FILTER_EXPIRY (R172, R173). -/
def execLineFilterExpiry (line : Nat) (s : State) : Result := atLine line (expireFilter line) s

/-- A blinking alarm changes to its other half (R174). -/
def Line.toggle (x : Line) : Line :=
  if x.blinkTimer.isSome then { x with blinkHalf := !x.blinkHalf, blinkTimer := some blinkMs } else x

/-- ALARM_BLINK_TOGGLE (R174). -/
def execAlarmBlinkToggle (line : Nat) (s : State) : Result :=
  atLine line (fun s => putLine line (s.line line).toggle s) s

end Sys2Proof.Machine
end

