-- ==== Sys2Proof/Machine/OrderLinkOrders.lean ====
section
/-! DEFINITION. The orders to the order link itself (sections 10.4 and 10.5). -/

namespace Sys2Proof.Machine

/-- The eight enables that an order stores (R183). -/
def enablesOf (e : NoticeOrder) : NoticeEnables :=
  ⟨isOn e.session, isOn e.ready, isOn e.fault, isOn e.shed, isOn e.pass, isOn e.link, isOn e.line, isOn e.narrow⟩

def NoticeEnables.bytes (e : NoticeEnables) : List Byte :=
  encFlag e.session ++ encFlag e.ready ++ encFlag e.fault ++ encFlag e.shed ++ encFlag e.pass ++ encFlag e.link ++
    encFlag e.line ++ encFlag e.narrow

def effectSetNotices (e : NoticeOrder) (s : State) : State × List Byte :=
  ({ s with order := { s.order with enables := enablesOf e } }, okBody (enablesOf e).bytes)

/-- SET_NOTICES (R183). -/
def execSetNotices (tag : Byte) (enables : NoticeOrder) (s : State) : Result :=
  .next (takeOrder (.setNotices tag enables) (effectSetNotices enables) s)

/-- The part code. -/
def partCode : Nat := 0x48

/-- The layout edition. -/
def layoutEdition : Nat := 1

/-- The fields of R184, in its order. -/
def statusBytes (s : State) : List Byte :=
  enc8 partCode ++ enc8 layoutEdition ++
  encFlag s.order.noticeLost ++ s.order.enables.bytes ++
  enc8 s.order.replies ++ enc8 s.order.notices ++
  encFlag s.clock.setMarker ++ encFlag s.env.siteCeiling.isSome ++ encFlag s.faults.stopMinute.isSome ++
  encFlag (allocationEnabled s) ++ encFlag (inFlight s) ++
  allCabs.flatMap (fun c => enc8 (s.link c).state.code) ++
  enc8 s.ready.records.length ++ encFlag s.ready.overflow ++ encFlag s.faults.alarm

def effectReadStatus (s : State) : State × List Byte :=
  ({ s with order := { s.order with noticeLost := false } }, okBody (statusBytes s))

/-- READ_STATUS (R184). -/
def execReadStatus (tag : Byte) (s : State) : Result :=
  .next (takeOrder (.readStatus tag) effectReadStatus s)

def effectRestart (s : State) : State × List Byte :=
  ({ s with order := { s.order with restart := .replying } }, okBody [])

/-- RESTART (R185): no further order is taken until the restart takes effect. -/
def execRestart (tag : Byte) (s : State) : Result :=
  .next (takeOrder (.restart tag) effectRestart s)

end Sys2Proof.Machine
end

