-- ==== Sys2Proof/Machine/Restart.lean ====
section
/-! DEFINITION. Power-on reset, and a RESTART order taking effect block by block (R185; log entry 22 for the order of
the blocks). -/

namespace Sys2Proof.Machine

/-- POWER_ON_RESET (R1 and the reset rule of every chapter): the pins keep the levels they have from outside, and the
commands that wait still wait (log entry 14). -/
def execPowerOnReset (s : State) : Result :=
  .next { State.reset with lines := tabulate 8 fun l => Line.reset (s.line l).pin, pending := s.pending }

/-! ### Block by block -/

/-- R185: the enables are kept, and the loss of a queued notice is recorded. -/
def OrderLink.restarted (o : OrderLink) : OrderLink :=
  { assembler := .hunting, held := none, queue := [], sending := none,
    noticeLost := o.noticeLost || o.queue.any (fun f => !f.isReply), enables := o.enables, restart := .none }

/-- R28. -/
def closeForRestart (s : State) : State :=
  forEach allBays (fun b s => putSession b (Session.vacant (s.session b).serial) s) s

/-- R47. -/
def reopenClaims (s : State) : State :=
  forEach allEntries (fun e s =>
    let x := s.entry e
    if x.state = .claimed then putEntry e { x with state := .opened, claimant := none } s else s) s

/-- R128, with the discard of R186 before it. -/
def restartBonds (s : State) : State :=
  let s1 := forEach allCabs (fun c s => putLink c (s.link c).discardQueued s) s
  let s2 := forEach allCabs (fun c => sendIfUp c .zero) s1
  { s2 with bond := BondController.reset }

/-- One link at a restart (R146, R186). -/
def Link.restarted (l : Link) : Link :=
  let l1 := { l with adopted := false, lostHold := none, lostTimer := none,
                     bays := Vector.replicate 6 LinkBay.reset, assembler := .hunting }
  if l.state = .isolated then { l1 with silence := some silenceMs } else l1.train

def restartLinks (s : State) : State :=
  forEach allCabs (fun c s => putLink c (s.link c).restarted s) s

/-- R102. -/
def restartAllocator (s : State) : State :=
  startPeriod { s with alloc := { s.alloc with snapshot := none, again := false, stale := false, lastOrder := [] } }

/-- The restart values of R58, R61, R63 and R70. -/
def restartSettings (s : State) : State :=
  let e := restartWindow (meterAssigned s) s.env
  placeWalker { s with env := { e with lineStage := stageOfLines s, settling := some settlingMs, overdraw := none,
                                       excess := none } }

/-- R72: A is computed once, and handed on as R67 states. -/
def restartEnvelope (s : State) : State := recompute (recomputeBuilding (restartSettings s))

/-- Every block takes its restart state (R185). -/
def applyRestart (s : State) : State :=
  let s1 := closeForRestart { s with order := s.order.restarted }
  let s2 := restartLinks (restartBonds (reopenClaims s1))
  let s3 := restartAllocator { s2 with ready := ReadyList.reset }
  evaluateAlarm (restartEnvelope s3)

/-- The frame is the RESTART reply. -/
def OutFrame.isRestartReply (f : OutFrame) : Bool := f.isReply && f.kind == 0xBE && f.body == okBody []

/-- The RESTART reply has been sent, or is the frame whose last byte is being sent (R185). -/
def restartReady (o : OrderLink) : Bool :=
  o.restart = .due ||
  (o.restart = .replying && (match o.sending with | some f => f.isRestartReply | none => false))

/-- RESTART_TAKES_EFFECT (R185): before the RESTART reply has been sent no restart takes effect. -/
def execRestartTakesEffect (s : State) : Result :=
  .next (if restartReady s.order then applyRestart s else s)

end Sys2Proof.Machine
end

