-- ==== Sys2Proof/Machine/OrderFrames.lean ====
section
/-! DEFINITION. The order link's frames (sections 10.1 to 10.3): a completed order is handed to its owner, the receive
assembler, the held order and the end of a frame in transmission. -/

namespace Sys2Proof.Machine

/-! ### A completed order (R180) -/

/-- The effect an order has at its owner, with the body of its reply; absent for the commands that are no order. -/
def orderEffect : Instr → Option (State → State × List Byte)
  | .setClock _ m => some (effectSetClock m)
  | .setSiteCeiling _ v => some (effectSetSiteCeiling v)
  | .setCabinetCeiling _ c v => some (effectSetCabinetCeiling c v)
  | .putLimitStep _ b k a l n => some (effectPutLimitStep b k a l n)
  | .selectLimitBank _ b => some (effectSelectLimitBank b)
  | .setCurtailStages _ a b c => some (effectSetCurtailStages a b c)
  | .setMeter _ w => some (effectSetMeter w)
  | .setMargin _ v => some (effectSetMargin v)
  | .setReserve _ v => some (effectSetReserve v)
  | .readEnvelope _ => some effectReadEnvelope
  | .putPlan _ e f => some (effectPutPlan e f)
  | .setPlanCursor _ e => some (effectSetPlanCursor e)
  | .putPlanNext _ f => some (effectPutPlanNext f)
  | .releasePlan _ e => some (effectReleasePlan e)
  | .readPlan _ e => some (effectReadPlan e)
  | .setGroupMask _ g m => some (effectSetGroupMask g m)
  | .setDefaultPlan _ f => some (effectSetDefaultPlan f)
  | .readSession _ b => some (effectReadSession b)
  | .suspendBay _ b => some (effectSuspendBay b)
  | .resumeBay _ b => some (effectResumeBay b)
  | .reallocate _ => some effectReallocate
  | .setPeriod _ p => some (effectSetPeriod p)
  | .readReady _ => some effectReadReady
  | .clearReadyOverflow _ => some effectClearReadyOverflow
  | .readCabinet _ c => some (effectReadCabinet c)
  | .retrain _ c => some (effectRetrain c)
  | .readFaults _ => some effectReadFaults
  | .clearFaults _ x c => some (effectClearFaults x c)
  | .setReporting _ e => some (effectSetReporting e)
  | .resumeSite _ => some effectResumeSite
  | .setLine _ l o => some (effectSetLine l o)
  | .readLines _ => some effectReadLines
  | .setNotices _ e => some (effectSetNotices e)
  | .readStatus _ => some effectReadStatus
  | .restart _ => some effectRestart
  | _ => none

/-- The kind of a reply: the order's plus 0x80 (Table 10-6). -/
def replyKind (kind : Byte) : Byte := kind + 0x80

/-- A completed order frame is taken (R180): UNKNOWN and LENGTH carry the status alone and are handed to no
block. -/
def takeCompleted (f : OrderFrame) (s : State) : State :=
  match decodeOrder f with
  | .unknownKind => takeFrame f 0xFF (fun s => (s, [Status.unknown.byte])) s
  | .wrongLength => takeFrame f (replyKind f.kind) (fun s => (s, [Status.length.byte])) s
  | .order i =>
    match orderEffect i with
    | some e => takeFrame f (replyKind f.kind) e s
    | none => s

/-- ORDER_UNKNOWN_KIND (R180). A kind of the catalogue is none of these, and the command then changes nothing (log
entry 34). -/
def execOrderUnknownKind (tag kind : Byte) (s : State) : Result :=
  .next (if (bodyLength kind).isSome then s
    else takeFrame ⟨tag, kind, []⟩ 0xFF (fun s => (s, [Status.unknown.byte])) s)

/-! ### The receive assembler (R179) -/

def setAssembler (a : Assembler) (s : State) : State := { s with order := { s.order with assembler := a } }

/-- ORDER_FRAME_DROPPED (R179): the frame is discarded without a reply. -/
def execOrderFrameDropped (s : State) : Result := .next (setAssembler .hunting s)

/-- ORDER_BYTE_GAP_TIMEOUT (R179). -/
def execOrderByteGapTimeout (s : State) : Result := .next (setAssembler .hunting s)

/-- What an assembler does with a byte. -/
inductive Assembly where
  /-- The frame goes on, or none has begun. -/
  | going (a : Assembler)
  /-- The frame is abandoned for a length out of range, or dropped for its frame check. -/
  | failed
  /-- The frame is complete: the bytes between the length and the frame check. -/
  | complete (payload : List Byte)
  deriving DecidableEq, Repr

/-- A frame's bytes after its start byte, once the last has arrived: the frame check covers all but the last two. -/
def checkFrame (bytes : List Byte) : Assembly :=
  let n := bytes.length - 2
  if be16 (crc16 (bytes.take n)) = bytes.drop n then .complete ((bytes.take n).drop 1) else .failed

/-- One byte at an assembler with start byte `start` and lengths from `low` to `high` (R179, R186). -/
def Assembler.take (start : Byte) (low high : Nat) (a : Assembler) (b : Byte) : Assembly :=
  match a with
  | .hunting => if b = start then .going (.collecting []) else .going .hunting
  | .collecting bytes =>
    let all := bytes ++ [b]
    match all with
    | [] => .going .hunting
    | len :: rest =>
      if num len < low || high < num len then .failed
      else if rest.length < num len + 2 then .going (.collecting all)
      else checkFrame all

/-- The order frame in the bytes between the length and the frame check (Table 10-6). -/
def orderFrameOf : List Byte → Option OrderFrame
  | tag :: kind :: body => some ⟨tag, kind, body⟩
  | _ => none

/-- A byte on ORD_RX: a completed order is taken within the step that completes it (R179, R180, log entry 19). -/
def receiveOrderByte (b : Byte) (s : State) : State :=
  match s.order.assembler.take 0xD5 2 252 b with
  | .going a => setAssembler a s
  | .failed => setAssembler .hunting s
  | .complete payload =>
    match orderFrameOf payload with
    | some f => takeCompleted f (setAssembler .hunting s)
    | none => setAssembler .hunting s

/-- ORDER_BYTE_RECEIVED (R179). -/
def execOrderByteReceived (byte : Byte) (s : State) : Result := .next (receiveOrderByte byte s)

/-! ### The held order and the end of a frame (R181, R182) -/

/-- The queue has a place for the reply to the held order (R182). -/
def heldCanGo (o : OrderLink) : Bool := o.held.isSome && o.restart = .none && o.replies < queueSize

/-- HELD_ORDER_TAKEN (R182): while no place is free the order stays held. -/
def execHeldOrderTaken (s : State) : Result :=
  .next (match s.order.held with
    | some f =>
      if heldCanGo s.order then takeCompleted f { s with order := { s.order with held := none } } else s
    | none => s)

/-- The line is free once the frame has ended; the end of the RESTART reply makes the restart due, and otherwise the
next frame is taken (R181, R185). -/
def OrderLink.frameSent (o : OrderLink) : OrderLink :=
  match o.sending with
  | none => o
  | some f =>
    ({ o with sending := none
              restart := if o.restart = .replying && f.isRestartReply then .due else o.restart } :
      OrderLink).startNext

/-- ORDER_LINK_FRAME_SENT (R181). -/
def execOrderLinkFrameSent (s : State) : Result := .next { s with order := s.order.frameSent }

end Sys2Proof.Machine
end

