-- ==== Sys2Proof/Machine/CabinetFrames.lean ====
section
/-! DEFINITION. The frames of the cabinet links (R135, R186). -/

namespace Sys2Proof.Machine

def setCabAssembler (cab : Nat) (a : Assembler) (s : State) : State :=
  putLink cab { s.link cab with assembler := a } s

/-- A frame is dropped: the assembler hunts, and LINK_FRAME is handed to the fault unit (R135, R186). -/
def dropFrame (cab : Nat) (s : State) : State := linkFrameFault cab (setCabAssembler cab .hunting s)

/-- CABINET_FRAME_ERROR (R135). -/
def execCabinetFrameError (cab : Nat) (s : State) : Result := atCab cab (dropFrame cab) s

/-- A gap inside a frame abandons it as a frame error (R186); between frames there is no gap to exceed. -/
def exceedGap (cab : Nat) (s : State) : State :=
  match (s.link cab).assembler with
  | .hunting => s
  | .collecting _ => dropFrame cab s

/-- CABINET_BYTE_GAP_TIMEOUT (R186). -/
def execCabinetByteGapTimeout (cab : Nat) (s : State) : Result := atCab cab (exceedGap cab) s

/-- The frame being sent has ended, and the next of those handed over begins (R133, R186). -/
def Link.frameSent (l : Link) : Link :=
  match l.sending, l.outbound with
  | none, _ => l
  | some _, [] => { l with sending := none }
  | some _, m :: rest => ({ l with outbound := rest } : Link).begin m

/-- CABINET_FRAME_SENT (R186). -/
def execCabinetFrameSent (cab : Nat) (s : State) : Result :=
  atCab cab (fun s => putLink cab (s.link cab).frameSent s) s

/-- What a message from a cabinet does; absent for the commands that are no message. -/
def messageEffect : Instr → Option (State → State)
  | .descriptor c ms => some (takeDescriptor c ms)
  | .status c m => some (takeStatus c m)
  | .plug c p x => some (takePlug c p x)
  | .identity c p v a => some (takeIdentityMsg c p v a)
  | .moduleReport c m r => some (takeModuleReport c m r)
  | .faultMessage c k n x y => some (takeFaultMsg c k n x y)
  | _ => none

/-- A frame with a good frame check: its kind and length are checked, and then its fields (R135). -/
def takeCabinetFrame (cab : Nat) (payload : List Byte) (s : State) : State :=
  match payload with
  | [] => linkFrameFault cab s
  | kind :: body =>
    match (messageOf cab kind body).bind messageEffect with
    | some f => f s
    | none => linkFrameFault cab s

/-- A byte on a cabinet link: a completed frame is taken within the step that completes it (R186, log entry 19). -/
def receiveCabinetByte (cab : Nat) (b : Byte) (s : State) : State :=
  match (s.link cab).assembler.take 0xA9 1 101 b with
  | .going a => setCabAssembler cab a s
  | .failed => dropFrame cab s
  | .complete payload => takeCabinetFrame cab payload (setCabAssembler cab .hunting s)

/-- CABINET_BYTE_RECEIVED (R186). -/
def execCabinetByteReceived (cab : Nat) (byte : Byte) (s : State) : Result :=
  atCab cab (receiveCabinetByte cab byte) s

end Sys2Proof.Machine
end

