-- ==== Sys2Proof/Machine/Clockwork.lean ====
section
/-! DEFINITION. What the part does of its own accord while no command waits (log entry 1): the event that is due, and
else one millisecond of its timers. -/

namespace Sys2Proof.Machine

/-! ### One millisecond -/

/-- A running timer falls by 1 ms. -/
def Timer.tick (t : Timer) : Timer := t.map fun ms => ms - 1

/-- The part of the second, and the seconds from 0 to 59; the minute event takes the prescaler back to 0 (R50). -/
def Clock.tick (c : Clock) : Clock :=
  if c.fraction + 1 < 1000 then { c with fraction := c.fraction + 1 }
  else { c with fraction := 0, prescaler := c.prescaler + 1 }

def Session.tick (x : Session) : Session := { x with idTimer := Timer.tick x.idTimer }

def Envelope.tick (e : Envelope) : Envelope :=
  { e with settling := Timer.tick e.settling, meterWindow := Timer.tick e.meterWindow,
           overdraw := Timer.tick e.overdraw }

def Allocator.tick (a : Allocator) : Allocator := { a with periodTimer := Timer.tick a.periodTimer }

def Module.tick (x : Module) : Module := { x with contactor := Timer.tick x.contactor }

def BayPower.tick (x : BayPower) : BayPower := { x with ramp := Timer.tick x.ramp }

def BondController.tick (b : BondController) : BondController :=
  { b with modules := tabulate 32 fun i => (get1 b.modules Module.reset i).tick
           bays := tabulate 48 fun i => (get1 b.bays BayPower.reset i).tick }

def Link.tick (l : Link) : Link :=
  { l with probe := Timer.tick l.probe, keep := Timer.tick l.keep, silence := Timer.tick l.silence,
           lostTimer := Timer.tick l.lostTimer }

def Line.tick (x : Line) : Line :=
  { x with filter := Timer.tick x.filter, blinkTimer := Timer.tick x.blinkTimer }

/-- One millisecond passes. -/
def tick (s : State) : State :=
  { s with
    clock := s.clock.tick
    sessions := tabulate 48 fun b => (s.session b).tick
    env := s.env.tick
    alloc := s.alloc.tick
    bond := s.bond.tick
    links := tabulate 8 fun c => (s.link c).tick
    lines := tabulate 8 fun l => (s.line l).tick }

/-! ### Due events -/

/-- A running timer has no time left. -/
def Timer.due (t : Timer) : Bool :=
  match t with
  | some 0 => true
  | some _ => false
  | none => false

/-- A unit's event where its timer is due. -/
def dueAt (units : List Nat) (timer : Nat → Timer) (event : Nat → Instr) : List Instr :=
  (units.filter fun u => Timer.due (timer u)).map event

/-- An event where a condition holds. -/
def dueIf (b : Bool) (event : Instr) : List Instr := if b then [event] else []

/-- The events that are due, in a fixed order (log entry 1). -/
def dueEvents (s : State) : List Instr :=
  dueIf (s.order.restart = .due) .restartTakesEffect ++
  dueIf (heldCanGo s.order) .heldOrderTaken ++
  dueIf (60 ≤ s.clock.prescaler) .minuteEvent ++
  dueAt allBays (fun b => (s.session b).idTimer) .identityTimerExpiry ++
  dueIf (Timer.due s.env.settling) .settlingTimerExpiry ++
  dueIf (Timer.due s.env.meterWindow) .meterWindowExpiry ++
  dueIf (Timer.due s.env.overdraw) .overdrawTimerExpiry ++
  dueIf (Timer.due s.alloc.periodTimer) .periodTimerExpiry ++
  dueAt allBays (fun b => (s.power b).ramp) .rampTimerExpiry ++
  allCabs.flatMap (fun c => dueAt allModules (fun m => (s.module c m).contactor) (.contactorTimerExpiry c)) ++
  dueAt allCabs (fun c => (s.link c).probe) .probeTimerExpiry ++
  dueAt allCabs (fun c => (s.link c).keep) .keepTimerExpiry ++
  dueAt allCabs (fun c => (s.link c).silence) .silenceTimerExpiry ++
  dueAt allCabs (fun c => (s.link c).lostTimer) .lostHoldTimerExpiry ++
  dueAt allLines (fun l => (s.line l).filter) .lineFilterExpiry ++
  dueAt allLines (fun l => (s.line l).blinkTimer) .alarmBlinkToggle

/-- The event the part takes next of its own accord; absent when none is due. -/
def dueEvent (s : State) : Option Instr := (dueEvents s).head?

end Sys2Proof.Machine
end

