-- ==== Sys2Proof/Machine/Dispatch.lean ====
section
/-! DEFINITION. The meaning of every command: one arm per row of spec/opcode_table.json, in the table's order. -/

namespace Sys2Proof.Machine

def exec (i : Instr) (s : State) : Host.Outcome State Fault Refusal :=
  match i with
  | .powerOnReset => Sys2Proof.Machine.execPowerOnReset s
  | .setClock tag minute => Sys2Proof.Machine.execSetClock tag minute s
  | .setSiteCeiling tag steps => Sys2Proof.Machine.execSetSiteCeiling tag steps s
  | .setCabinetCeiling tag cabinet steps => Sys2Proof.Machine.execSetCabinetCeiling tag cabinet steps s
  | .putLimitStep tag bank step start limit nextStep => Sys2Proof.Machine.execPutLimitStep tag bank step start limit nextStep s
  | .selectLimitBank tag bank => Sys2Proof.Machine.execSelectLimitBank tag bank s
  | .setCurtailStages tag limit1 limit2 limit3 => Sys2Proof.Machine.execSetCurtailStages tag limit1 limit2 limit3 s
  | .setMeter tag whPerPulse => Sys2Proof.Machine.execSetMeter tag whPerPulse s
  | .setMargin tag steps => Sys2Proof.Machine.execSetMargin tag steps s
  | .setReserve tag steps => Sys2Proof.Machine.execSetReserve tag steps s
  | .readEnvelope tag => Sys2Proof.Machine.execReadEnvelope tag s
  | .putPlan tag entry fields => Sys2Proof.Machine.execPutPlan tag entry fields s
  | .setPlanCursor tag entry => Sys2Proof.Machine.execSetPlanCursor tag entry s
  | .putPlanNext tag fields => Sys2Proof.Machine.execPutPlanNext tag fields s
  | .releasePlan tag entry => Sys2Proof.Machine.execReleasePlan tag entry s
  | .readPlan tag entry => Sys2Proof.Machine.execReadPlan tag entry s
  | .setGroupMask tag group mask => Sys2Proof.Machine.execSetGroupMask tag group mask s
  | .setDefaultPlan tag fields => Sys2Proof.Machine.execSetDefaultPlan tag fields s
  | .readSession tag bay => Sys2Proof.Machine.execReadSession tag bay s
  | .suspendBay tag bay => Sys2Proof.Machine.execSuspendBay tag bay s
  | .resumeBay tag bay => Sys2Proof.Machine.execResumeBay tag bay s
  | .reallocate tag => Sys2Proof.Machine.execReallocate tag s
  | .setPeriod tag seconds => Sys2Proof.Machine.execSetPeriod tag seconds s
  | .readReady tag => Sys2Proof.Machine.execReadReady tag s
  | .clearReadyOverflow tag => Sys2Proof.Machine.execClearReadyOverflow tag s
  | .readCabinet tag cabinet => Sys2Proof.Machine.execReadCabinet tag cabinet s
  | .retrain tag cabinet => Sys2Proof.Machine.execRetrain tag cabinet s
  | .readFaults tag => Sys2Proof.Machine.execReadFaults tag s
  | .clearFaults tag subject classes => Sys2Proof.Machine.execClearFaults tag subject classes s
  | .setReporting tag enables => Sys2Proof.Machine.execSetReporting tag enables s
  | .resumeSite tag => Sys2Proof.Machine.execResumeSite tag s
  | .setLine tag line settings => Sys2Proof.Machine.execSetLine tag line settings s
  | .readLines tag => Sys2Proof.Machine.execReadLines tag s
  | .setNotices tag enables => Sys2Proof.Machine.execSetNotices tag enables s
  | .readStatus tag => Sys2Proof.Machine.execReadStatus tag s
  | .restart tag => Sys2Proof.Machine.execRestart tag s
  | .restartTakesEffect => Sys2Proof.Machine.execRestartTakesEffect s
  | .orderUnknownKind tag kind => Sys2Proof.Machine.execOrderUnknownKind tag kind s
  | .orderFrameDropped => Sys2Proof.Machine.execOrderFrameDropped s
  | .orderByteGapTimeout => Sys2Proof.Machine.execOrderByteGapTimeout s
  | .heldOrderTaken => Sys2Proof.Machine.execHeldOrderTaken s
  | .orderLinkFrameSent => Sys2Proof.Machine.execOrderLinkFrameSent s
  | .descriptor cab modules => Sys2Proof.Machine.execDescriptor cab modules s
  | .status cab message => Sys2Proof.Machine.execStatus cab message s
  | .plug cab position presence => Sys2Proof.Machine.execPlug cab position presence s
  | .identity cab position vehicle acceptance => Sys2Proof.Machine.execIdentity cab position vehicle acceptance s
  | .moduleReport cab module result => Sys2Proof.Machine.execModuleReport cab module result s
  | .faultMessage cab faultClass code subjectKind subjectNumber => Sys2Proof.Machine.execFaultMessage cab faultClass code subjectKind subjectNumber s
  | .cabinetFrameError cab => Sys2Proof.Machine.execCabinetFrameError cab s
  | .cabinetByteGapTimeout cab => Sys2Proof.Machine.execCabinetByteGapTimeout cab s
  | .cabinetFrameSent cab => Sys2Proof.Machine.execCabinetFrameSent cab s
  | .minuteEvent => Sys2Proof.Machine.execMinuteEvent s
  | .identityTimerExpiry bay => Sys2Proof.Machine.execIdentityTimerExpiry bay s
  | .settlingTimerExpiry => Sys2Proof.Machine.execSettlingTimerExpiry s
  | .meterWindowExpiry => Sys2Proof.Machine.execMeterWindowExpiry s
  | .overdrawTimerExpiry => Sys2Proof.Machine.execOverdrawTimerExpiry s
  | .periodTimerExpiry => Sys2Proof.Machine.execPeriodTimerExpiry s
  | .passComplete => Sys2Proof.Machine.execPassComplete s
  | .rampTimerExpiry bay => Sys2Proof.Machine.execRampTimerExpiry bay s
  | .contactorTimerExpiry cab module => Sys2Proof.Machine.execContactorTimerExpiry cab module s
  | .probeTimerExpiry cab => Sys2Proof.Machine.execProbeTimerExpiry cab s
  | .keepTimerExpiry cab => Sys2Proof.Machine.execKeepTimerExpiry cab s
  | .silenceTimerExpiry cab => Sys2Proof.Machine.execSilenceTimerExpiry cab s
  | .lostHoldTimerExpiry cab => Sys2Proof.Machine.execLostHoldTimerExpiry cab s
  | .yardPinChange line high => Sys2Proof.Machine.execYardPinChange line high s
  | .lineFilterExpiry line => Sys2Proof.Machine.execLineFilterExpiry line s
  | .alarmBlinkToggle line => Sys2Proof.Machine.execAlarmBlinkToggle line s
  | .orderByteReceived byte => Sys2Proof.Machine.execOrderByteReceived byte s
  | .cabinetByteReceived cab byte => Sys2Proof.Machine.execCabinetByteReceived cab byte s

end Sys2Proof.Machine
end

