-- ==== Sys2Proof/Machine/Step.lean ====
section
/-! DEFINITION. One step: the command at the front of the queue, or what the part does while none waits. -/

namespace Sys2Proof.Machine

/-- With no command waiting: the event that is due is taken, and else one millisecond passes. DESIGN CHOICE (log
entry 1). -/
def idle (s : State) : Result :=
  match dueEvent s with
  | some c => exec c s
  | none => .next (tick s)

/-- One step of the PD48. -/
def step (s : State) : Host.Outcome State Fault Refusal :=
  match s.pending with
  | c :: rest => exec c { s with pending := rest }
  | [] => idle s

/-- `s` with the command that a word of the table spells in front of its queue; no word spells one. -/
def State.withFetchWord (s : State) (nbits w : Nat) : State :=
  match Sys2Proof.decodeTableWord nbits w with
  | some c => { s with pending := c :: s.pending }
  | none => s

end Sys2Proof.Machine
end

