-- ==== Sys2Proof/Safety.lean ====
section
/-! DEFINITION. The terms that statements about runs use: what a change of power may bring about elsewhere (a frame),
an order answered, the notices that a command creates and the frames that it hands to a cabinet, commands carried out
one after another, and the invariants that every step keeps. -/

namespace Sys2Proof.Machine

/-! ### Frames -/

/-- The order link apart from its outbound side: notices and replies may have been placed, and frames begun. -/
def OrderKept (a b : OrderLink) : Prop :=
  b = { a with queue := b.queue, sending := b.sending, noticeLost := b.noticeLost }

/-- A cabinet link apart from the frames handed to it. -/
def LinkKept (a b : Link) : Prop :=
  b = { a with sending := b.sending, outbound := b.outbound, keep := b.keep }

/-- The allocator apart from a pass that starts, is asked for again or is marked stale. -/
def AllocKept (a b : Allocator) : Prop :=
  b = { a with snapshot := b.snapshot, again := b.again, stale := b.stale, periodTimer := b.periodTimer }

/-- A session apart from a grant that falls. -/
def SessionKept (a b : Session) : Prop := b = { a with grant := b.grant } ∧ b.grant ≤ a.grant

/-- `t` differs from `s` by no more than a shed, a pass request and the examination of the raise waiting list bring
about: grants that fall, commanded setpoints, ramp timers and waiting lists, the pass state, and frames handed over.
Everything else is as it was. -/
structure Ripple (s t : State) : Prop where
  clock    : t.clock = s.clock
  plans    : t.plans = s.plans
  env      : t.env = s.env
  ready    : t.ready = s.ready
  faults   : t.faults = s.faults
  lines    : t.lines = s.lines
  pending  : t.pending = s.pending
  session  : ∀ b, SessionKept (s.session b) (t.session b)
  alloc    : AllocKept s.alloc t.alloc
  modules  : t.bond.modules = s.bond.modules
  reported : ∀ b, (t.power b).reported = (s.power b).reported
  link     : ∀ c, LinkKept (s.link c) (t.link c)
  order    : OrderKept s.order t.order
  replies  : t.order.replies ≤ s.order.replies

/-- The power of the site stands in `t` as in `s`: the sessions, the bond controller and the cabinet links. -/
structure PowerAs (s t : State) : Prop where
  sessions : t.sessions = s.sessions
  bond     : t.bond = s.bond
  links    : t.links = s.links

/-- `t` differs from `s` by no more than a pass request and notices bring about. -/
structure Quiet (s t : State) : Prop where
  ripple : Ripple s t
  power  : PowerAs s t

/-- A reply is placed in the outbound queue (R180, R182). -/
def State.replied (tag kind : Byte) (body : List Byte) (s : State) : State :=
  { s with order := s.order.placeReply tag kind body }

/-- The reply with that tag, kind and body is the newest entry of the outbound queue or the frame in transmission. -/
def Answered (tag kind : Byte) (body : List Byte) (t : State) : Prop :=
  t.order.sending = some ⟨true, tag, kind, body⟩ ∨ t.order.queue.getLast? = some ⟨true, tag, kind, body⟩

/-- A pass request made between `s` and `r` has not been lost: while allocation is enabled a pass is in flight, and
pending is set where one was in flight before (R75). -/
def Requested (s r : State) : Prop :=
  allocationEnabled r = true → inFlight r = true ∧ (inFlight s = true → r.alloc.again = true)

/-- Commands carried out one after another, to the first that does not answer a next state. -/
def execAll : List Instr → State → Result
  | [], s => .next s
  | i :: l, s =>
    match exec i s with
    | .next t => execAll l t
    | other => other

/-! ### Values that rules speak of -/

/-- The envelope with the available power computed afresh (R66). -/
def Envelope.fresh (e : Envelope) : Envelope := { e with available := availableOf e }

/-- Step `k` of a limit bank. -/
def Envelope.step (e : Envelope) (bank k : Nat) : LimitStep :=
  get1 (get1 e.banks (Vector.replicate 16 LimitStep.reset) bank) LimitStep.reset k

/-- The envelope after a minute event that produced `minute` (R57). -/
def Envelope.walked (e : Envelope) (minute : Nat) : Envelope :=
  match (e.step e.activeBank e.walker).nextStep with
  | some n =>
    if e.activeBank ≠ 0 ∧ (e.step e.activeBank n).start = minute then ({ e with walker := n } : Envelope).fresh else e
  | none => e

/-- A session after a minute event (R10, R12, R16). -/
def Session.afterMinute (x : Session) : Session :=
  if x.state = .active ∨ x.state = .satisfied then
    if x.countdown.getD 0 ≤ 1 then { x with state := .overdue, countdown := some 0, windowOpen := false }
    else { x with countdown := some (x.countdown.getD 0 - 1)
                  windowOpen := 0 < x.plan.power && 0 < x.plan.window &&
                    decide (x.countdown.getD 0 - 1 ≤ x.plan.window) }
  else x

/-- A session after a hold reason has been set on it (R23): the first reason withdraws the grant. -/
def Session.held (x : Session) (r : HoldReason) : Session :=
  if x.state = .vacant ∨ x.holds.has r = true then x
  else if x.holds.any then { x with holds := x.holds.set r true }
  else { x with holds := x.holds.set r true, grant := 0, short := false, preShort := false }

/-- A plan entry whose claimant's session is closed (R36). -/
def PlanEntry.ended (x : PlanEntry) (o : SessionOutcome) : PlanEntry :=
  if x.reuse then { x with state := .opened, claimant := none }
  else { x with state := .spent, claimant := none, outcome := some o }

/-- The plan table and the rest after session `x` of bay `b` has left it at `minute`: the claim that it names ends with
its outcome (R20, R36). -/
def endedClaim (b minute : Nat) (x : Session) (u : State) : State :=
  match x.planLink with
  | some e => putEntry e ((u.entry e).ended ⟨b, x.identity, x.battery, x.auxiliary, minute,
      x.state ≠ .identifying && decide (x.plan.target ≤ x.battery)⟩) u
  | none => u

/-- The session that a plug-present report opens on the bay of the VACANT session `x`, in the state `s` (R2). -/
def Session.reopened (x : Session) (b : Nat) (s : State) : Session :=
  { Session.vacant ((x.serial + 1) % 65536) with
    state := .identifying
    opened := s.clock.minute
    idTimer := some 20000
    holds := ⟨false, (s.link (cabOf b)).state = .isolated, false, s.faults.stopMinute.isSome⟩ }

/-- A session after the counts and the acceptance of a STATUS, over the last counts given (R8, R13, R14). -/
def Session.counted (x : Session) (k : BayBlock) (battery auxiliary : Nat) : Session :=
  let gain (count last : Nat) : Nat := if last ≤ count then count - last else count
  let e := min 999999 (x.battery + gain k.battery.toNat battery)
  if x.state = .vacant then x
  else { x with
    battery := e
    auxiliary := min 999999 (x.auxiliary + gain k.auxiliary.toNat auxiliary)
    acceptance := min k.acceptance.toNat 3000
    state := if x.state = .active ∧ x.plan.target ≤ e then .satisfied else x.state }

/-- An acceptance that a STATUS brings requests a pass (R8). -/
def Session.newAcceptance (x : Session) (k : BayBlock) : Prop :=
  (x.state = .active ∨ x.state = .satisfied ∨ x.state = .overdue) ∧
    (x.acceptance + 20 < min k.acceptance.toNat 3000 ∨ min k.acceptance.toNat 3000 + 20 < x.acceptance)

/-- The ready list after the sessions of cabinet `c` that were ACTIVE in `s` and are SATISFIED in `t` have handed their
records over, in ascending order of the bays (R15, R138, R148; the order at an adoption is log entry 10). -/
def readied (c : Nat) (s t : State) (l : ReadyList) : ReadyList :=
  (baysOf c).foldl (fun l b =>
    let x := t.session b
    if (s.session b).state = .active ∧ x.state = .satisfied
    then l.add ⟨b, x.identity, x.planLink, s.clock.minute, x.battery, x.countdown.getD 0⟩ else l) l

/-- The frame is handed to the link: it is being sent or is the newest of those that wait (R186). -/
def Link.handed (l : Link) (m : CabMsg) : Prop := l.sending = some m ∨ l.outbound.getLast? = some m

/-- A link as its training begins (R131). -/
def Link.training (l : Link) : Link :=
  { ({ l with state := .training, probeCount := 0, keep := none, silence := none } : Link).hand .probe with
    probeCount := 1, probe := some 1000 }

/-- The evaluation of overdraw at the end of a STATUS arrival that leads from `s` to `t` (R68): M is the reported powers
of the UP and ISOLATED cabinets, the lost-hold values and the building estimate, each as it stands in `t`. -/
structure OverdrawEvaluated (s t : State) : Prop where
  others : t.env = { s.env with overdraw := t.env.overdraw, excess := t.env.excess }
  unset  : s.env.siteCeiling = none → t.env = s.env
  set    : s.env.siteCeiling ≠ none →
    let drawn : Nat := ((allBays.filter fun b => (t.link (cabOf b)).state = .up ∨
        (t.link (cabOf b)).state = .isolated).map fun b => (t.power b).reported).sum +
      (allCabs.map fun k => match (t.link k).lostHold with
        | some held => held.toList.sum
        | none => 0).sum + t.env.building
    (s.env.available + max 20 (s.env.available / 50) < drawn →
      t.env.overdraw = some (s.env.overdraw.getD 10000) ∧ t.env.excess = some (drawn - s.env.available)) ∧
    (drawn ≤ s.env.available + max 20 (s.env.available / 50) → t.env.overdraw = none ∧ t.env.excess = none)

/-- The lines take no more than the change of the alarm indication between `s` and `t` (R163, R174; what an evaluation
does to a line is a clause of ClearFaultsSetReportingAndResumeSite). -/
def LinesRealarmed (s t : State) : Prop :=
  t.lines = (evaluateAlarm { s with faults := { t.faults with alarm := s.faults.alarm } }).lines

/-- What the bond controller leaves of a cabinet whose link has left UP between `s` and `t` (R123). -/
structure LeftUp (cab : Nat) (s t : State) : Prop where
  bays    : ∀ b, validBay b = true → cabOf b = cab → (t.power b).commanded = 0 ∧ (t.power b).ramp = none
  modules : ∀ m, validModule m = true →
              t.module cab m = if (s.module cab m).state = .faulted then s.module cab m else ⟨.unknown, none, none⟩
  others  : ∀ c m, c ≠ cab → t.module c m = s.module c m
  bonds   : t.bondList cab = []
  waiting : ∀ c, c ≠ cab → t.bondList c = s.bondList c
  raises  : ∀ b ∈ t.bond.raiseList, cabOf b ≠ cab ∧ b ∈ s.bond.raiseList

/-- The raise waiting list, without the bays of a cabinet whose link leaves UP between `s` and `t`, is examined last
(R123, step 5). -/
def ExaminedWithout (cab : Nat) (s t : State) : Prop :=
  ∃ q : State, q.sessions = t.sessions ∧ q.env = s.env ∧ q.faults = t.faults ∧
    q.bond.modules = t.bond.modules ∧ q.bond.bondLists = t.bond.bondLists ∧
    q.bond.raiseList = s.bond.raiseList.filter (fun b => cabOf b ≠ cab) ∧
    (∀ b, validBay b = true → q.power b = if cabOf b = cab then t.power b else s.power b) ∧
    (∀ c, validCab c = true → q.link c = if c = cab then t.link c else s.link c) ∧
    t.bond = (examineRaises q).bond ∧ t.links = (examineRaises q).links

/-- What a fault, a loss of a link or the end of an isolation never changes. -/
structure Settled (s t : State) : Prop where
  clock   : t.clock = s.clock
  plans   : t.plans = s.plans
  env     : t.env = s.env
  ready   : t.ready = s.ready
  pending : t.pending = s.pending
  order   : OrderKept s.order t.order
  alloc   : AllocKept s.alloc t.alloc
  lines   : ∀ l, (t.line l).settings = (s.line l).settings ∧ (t.line l).pin = (s.line l).pin ∧
              (t.line l).level = (s.line l).level ∧ (t.line l).filter = (s.line l).filter

/-- An open session of cabinet `c` on which no FAULT hold stands takes one (R23). -/
def TakesFaultHold (c : Nat) (s : State) : Prop :=
  ∃ b, validBay b = true ∧ cabOf b = c ∧ (s.session b).state ≠ .vacant ∧ (s.session b).holds.fault = false

/-- The bytes that follow the status in every reply to an order of a kind, of any status but UNKNOWN and LENGTH
(R180). -/
def replyWidth (kind : Byte) : Nat :=
  match kind.toNat with
  | 0x01 => 2 | 0x02 => 2 | 0x03 => 2 | 0x04 => 0 | 0x05 => 2 | 0x06 => 0 | 0x07 => 2 | 0x08 => 2 | 0x09 => 2
  | 0x0A => 72
  | 0x10 => 2 | 0x11 => 1 | 0x12 => 2 | 0x13 => 1 | 0x14 => 33 | 0x15 => 3 | 0x16 => 0
  | 0x20 => 39 | 0x21 => 3 | 0x22 => 3 | 0x28 => 9 | 0x29 => 2 | 0x2C => 16 | 0x2D => 2
  | 0x30 => 124 | 0x31 => 0 | 0x34 => 143 | 0x35 => 19 | 0x36 => 7 | 0x37 => 5 | 0x38 => 10 | 0x39 => 81
  | 0x3C => 8 | 0x3D => 29 | 0x3E => 0
  | _ => 0

/-! ### Notices -/

/-- A flag or marker as it is sent (Table 10-5). -/
def mark (b : Bool) : Byte := if b then 1 else 0

/-- The order link after notices created in turn: each is placed where the enable of its kind is on (section 10.4,
R182). -/
def noticed (l : List (NoticeKind × List Byte)) (o : OrderLink) : OrderLink :=
  l.foldl (fun o n => if o.enables.on n.1 then o.placeNotice n.1.byte n.2 else o) o

/-- A field that may be absent, with its presence marker after it (log entry 12). -/
def markedByte (o : Option Nat) : List Byte := enc8 (o.getD 0) ++ [mark o.isSome]

/-- SESSION, reason OPENED (Table 7-3, R154); the fields of the other reasons are sent as 0. -/
def openedNotice (bay serial minute : Nat) : NoticeKind × List Byte :=
  (.session, enc8 0 ++ enc8 bay ++ enc16 serial ++ enc16 minute ++ enc16 minute ++ List.replicate 17 0)

/-- SESSION with every field of Table 7-3 (R155, R156): `reason` and `cause` are places in Tables 7-4 and 10-5. -/
def sessionNotice (reason cause bay minute : Nat) (x : Session) : NoticeKind × List Byte :=
  (.session, enc8 reason ++ enc8 bay ++ enc16 x.serial ++ enc16 minute ++ enc16 x.opened ++ enc8 cause ++
    be24 (x.identity.getD 0) ++ [mark x.identity.isSome] ++ markedByte x.planLink ++
    enc24 (if x.state = .identifying then 0 else x.plan.target) ++ enc24 x.battery ++ enc24 x.auxiliary ++
    [mark (x.state ≠ .identifying ∧ x.plan.target ≤ x.battery)])

/-- SESSION at a close, with the reason that the state at close gives (R156). -/
def leftNotice (cause bay minute : Nat) (x : Session) : NoticeKind × List Byte :=
  sessionNotice (match x.state with
    | .satisfied => 2 | .active => 3 | .overdue => 4 | .identifying => 5 | .vacant => 5) cause bay minute x

/-- READY for a record added to the list `l` (R149). -/
def readyNotice (r : ReadyRecord) (l : ReadyList) : NoticeKind × List Byte :=
  (.ready, enc8 r.bay ++ be24 (r.identity.getD 0) ++ [mark r.identity.isSome] ++ markedByte r.planEntry ++
    enc16 r.minute ++ enc24 r.battery ++ enc16 r.countdown ++ enc8 (l.add r).records.length ++
    [mark (l.add r).overflow, mark (decide (32 ≤ l.records.length))])

/-- The bytes of a FAULT notice that name the fault (R160). The cabinet byte of a subject that is no module is log
entry 43. -/
def faultHead (c : Nat) (code : FaultCode) (x : Subject) : List Byte :=
  enc8 code.code ++ enc8 code.cls.code ++ enc8 x.kind.code ++ enc8 x.number ++
    enc8 (if x.kind = .module then c else 0)

/-- The FAULT notice of a fault of cabinet `c` taken in `s`, with the record and the alarm as `r` has them (R160);
none where the class reports none. -/
def faultNotices (c : Nat) (code : FaultCode) (x : Subject) (s r : State) : List (NoticeKind × List Byte) :=
  if s.faults.notices.on code.cls then
    [(.fault, faultHead c code x ++ enc8 c ++ [mark ((s.cabFaults c).flag code.cls).isNone,
      mark (r.cabFaults c).correctable.isSome, mark (r.cabFaults c).nonfatal.isSome,
      mark (r.cabFaults c).fatal.isSome, mark (r.cabFaults c).isolated] ++ enc16 s.clock.minute ++
      [mark (alarmWanted r)])]
  else []

/-- LINK: the states before and after, and the cause by its place in Table 6-6 (R145). -/
def linkNotice (c : Nat) (before after : LinkState) (cause : Nat) : NoticeKind × List Byte :=
  (.link, enc8 c ++ enc8 before.code ++ enc8 after.code ++ enc8 cause)

/-- NARROW, for a module fault between `s` and `r` on a BONDED or RAMPING module (R122): the setpoint it carries is
that after the clip of R121. -/
def narrowNotices (c m : Nat) (s r : State) : List (NoticeKind × List Byte) :=
  let x := s.module c m
  let b := x.bay.getD 0
  let narrow (commanded : Nat) : NoticeKind × List Byte :=
    (.narrow, enc8 b ++ enc8 c ++ enc8 m ++ enc8 x.state.code ++ enc8 (bonded r b) ++ enc16 commanded)
  if x.state = .bonded then [narrow (min (s.power b).commanded (300 * bonded r b))]
  else if x.state = .ramping then [narrow (s.power b).commanded]
  else []

/-- The bays that a shed lowers between `s` and `r`. -/
def lowered (s r : State) : List Nat := allBays.filter fun b => (s.session b).grant ≠ (r.session b).grant

/-! ### Frames to a cabinet -/

/-- Frames handed to a link in turn (R186). -/
def Link.handAll (l : Link) (ms : List CabMsg) : Link := ms.foldl Link.hand l

/-- The discarding of the frames that wait and are sent only while UP (R186), then frames handed in turn; no frame of
an idle line waits. -/
def Link.refilled (l : Link) (ms : List CabMsg) : List CabMsg × Option CabMsg :=
  let r := ({ l with outbound := l.outbound.filter fun m => !m.onlyInUp } : Link).handAll ms
  (r.outbound, r.sending)

/-! ### Due events and reply fields -/

/-- What makes an event of the part's own due: its timer has run down, the restart stands at its moment, the held order
has a place, or the prescaler has counted 60 seconds. -/
def Due (s : State) : Instr → Prop
  | .restartTakesEffect => s.order.restart = .due
  | .heldOrderTaken => s.order.held.isSome = true ∧ s.order.restart = .none ∧
      (s.order.queue.filter (fun f => f.isReply)).length < 16
  | .minuteEvent => 60 ≤ s.clock.prescaler
  | .identityTimerExpiry b => validBay b = true ∧ (s.session b).idTimer = some 0
  | .settlingTimerExpiry => s.env.settling = some 0
  | .meterWindowExpiry => s.env.meterWindow = some 0
  | .overdrawTimerExpiry => s.env.overdraw = some 0
  | .periodTimerExpiry => s.alloc.periodTimer = some 0
  | .rampTimerExpiry b => validBay b = true ∧ (s.power b).ramp = some 0
  | .contactorTimerExpiry c m => validCab c = true ∧ validModule m = true ∧ (s.module c m).contactor = some 0
  | .probeTimerExpiry c => validCab c = true ∧ (s.link c).probe = some 0
  | .keepTimerExpiry c => validCab c = true ∧ (s.link c).keep = some 0
  | .silenceTimerExpiry c => validCab c = true ∧ (s.link c).silence = some 0
  | .lostHoldTimerExpiry c => validCab c = true ∧ (s.link c).lostTimer = some 0
  | .lineFilterExpiry l => validLine l = true ∧ (s.line l).filter = some 0
  | .alarmBlinkToggle l => validLine l = true ∧ (s.line l).blinkTimer = some 0
  | _ => False

/-- The place of an event among those that are due together (log entry 1): the lowest is taken first. -/
def duePlace : Instr → Nat
  | .restartTakesEffect => 0
  | .heldOrderTaken => 100
  | .minuteEvent => 200
  | .identityTimerExpiry b => 300 + b
  | .settlingTimerExpiry => 400
  | .meterWindowExpiry => 500
  | .overdrawTimerExpiry => 600
  | .periodTimerExpiry => 700
  | .rampTimerExpiry b => 800 + b
  | .contactorTimerExpiry c m => 900 + 4 * c + m
  | .probeTimerExpiry c => 1000 + c
  | .keepTimerExpiry c => 1100 + c
  | .silenceTimerExpiry c => 1200 + c
  | .lostHoldTimerExpiry c => 1300 + c
  | .lineFilterExpiry l => 1400 + l
  | .alarmBlinkToggle l => 1500 + l
  | _ => 1600

/-- Each of the listed fields stands in the body at its offset. -/
def Layout (body : List Byte) (fields : List (Nat × List Byte)) : Prop :=
  ∀ f ∈ fields, (body.drop f.1).take f.2.length = f.2

/-! ### Invariants -/

/-- A precondition power is 0, or 20 to 100 steps (Tables 1-1 and 2-1). -/
def PowerRange (p : Nat) : Prop := p = 0 ∨ (20 ≤ p ∧ p ≤ 100)

/-- The ranges of the plan fields (Tables 1-1 and 2-1). -/
structure Plan.InRange (p : Plan) : Prop where
  departure : p.departure < 1440
  target    : p.target ≤ 999999
  window    : p.window ≤ 60
  power     : PowerRange p.power

/-- An identity that is present is not 0 (Tables 1-1 and 7-1, R20). -/
def IdentityRange (o : Option U24) : Prop := ∀ v ∈ o, v ≠ 0

/-- A running timer holds no more than it starts with. -/
def TimerRange (limit : Nat) (t : Timer) : Prop := ∀ ms ∈ t, ms ≤ limit

/-- The ranges of Table 1-1. -/
structure Session.InRange (x : Session) : Prop where
  serial     : x.serial < 65536
  identity   : IdentityRange x.identity
  planLink   : ∀ e ∈ x.planLink, validEntry e = true
  plan       : x.plan.InRange
  countdown  : (x.state = .active ∨ x.state = .satisfied → ∃ c, x.countdown = some c ∧ 1 ≤ c ∧ c ≤ 1440) ∧
                 (x.state = .overdue → x.countdown = some 0) ∧ ∀ c ∈ x.countdown, c ≤ 1440
  battery    : x.battery ≤ 999999
  auxiliary  : x.auxiliary ≤ 999999
  acceptance : x.acceptance ≤ 3000
  grant      : x.grant = 0 ∨ (20 ≤ x.grant ∧ x.grant ≤ 1200)
  opened     : x.opened < 1440
  idTimer    : TimerRange 20000 x.idTimer ∧ (x.idTimer.isSome = true → x.state = .identifying)

/-- The ranges of Table 2-1 and of an outcome (R20). -/
structure PlanEntry.InRange (x : PlanEntry) : Prop where
  identity : x.state ≠ .free → x.kind = .exact → x.identity ≠ 0
  plan     : x.plan.InRange
  claimant : ∀ b ∈ x.claimant, validBay b = true ∧ x.state = .claimed
  outcome  : ∀ o ∈ x.outcome, x.state = .spent ∧ validBay o.bay = true ∧ IdentityRange o.identity ∧ o.battery ≤ 999999 ∧
               o.auxiliary ≤ 999999 ∧ o.closeMinute < 1440

/-- The ranges of sections 3.2 to 3.7. The measured excess has no upper end. -/
structure Envelope.InRange (e : Envelope) : Prop where
  siteCeiling : ∀ v ∈ e.siteCeiling, 1 ≤ v ∧ v ≤ 65535
  ceilings    : ∀ c, (get1 e.ceilings ⟨0, false⟩ c).steps ≤ 1200
  banks       : ∀ b k, (e.step b k).start < 1440 ∧ (e.step b k).limit ≤ 65535 ∧
                  ∀ n ∈ (e.step b k).nextStep, 1 ≤ n ∧ n ≤ 16
  bank        : e.activeBank ≤ 2
  walker      : e.walker ≤ 16
  stageLimits : ∀ k, get1 e.stageLimits 65535 k ≤ 65535
  stages      : e.lineStage ≤ 3 ∧ e.effStage ≤ 3
  settling    : TimerRange 2000 e.settling
  whPerPulse  : 1 ≤ e.whPerPulse ∧ e.whPerPulse ≤ 1000
  reserve     : e.reserve ≤ 65535
  window      : e.windowCount ≤ 65535 ∧ (∀ n ∈ e.lastWindow, n ≤ 65535) ∧ TimerRange 60000 e.meterWindow
  building    : e.building ≤ 65535
  margin      : e.margin ≤ 1000
  available   : e.available ≤ 65535
  overdraw    : TimerRange 10000 e.overdraw

/-- The ranges that the snapshot's copies keep (R79, Tables 1-1 and 5-3). -/
structure Snapshot.InRange (p : Snapshot) : Prop where
  available : p.available ≤ 65535
  ceilings  : ∀ c, p.ceiling c ≤ 1200
  healthy   : ∀ c, get1 p.healthy 0 c ≤ 4
  bays      : ∀ b, (p.bay b).serial < 65536 ∧ (p.bay b).target ≤ 999999 ∧ (p.bay b).battery ≤ 999999 ∧
                (p.bay b).acceptance ≤ 3000 ∧ PowerRange (p.bay b).power ∧ ∀ c ∈ (p.bay b).countdown, c ≤ 1440

/-- The ranges of Table 4-1. -/
structure Allocator.InRange (a : Allocator) : Prop where
  period      : 10 ≤ a.period ∧ a.period ≤ 600
  periodTimer : ∃ ms, a.periodTimer = some ms ∧ ms ≤ 600000
  order       : a.lastOrder.length ≤ 48 ∧ a.lastOrder.Nodup ∧ ∀ b ∈ a.lastOrder, validBay b = true
  snapshot    : ∀ p ∈ a.snapshot, p.InRange

/-- The ranges of Tables 5-1 and 5-3 and of the waiting lists (R108, R109). -/
structure BondInRange (s : State) : Prop where
  modules : ∀ c m, (∀ b ∈ (s.module c m).bay, validBay b = true ∧ cabOf b = c ∧
                ((s.module c m).state = .closing ∨ (s.module c m).state = .bonded ∨ (s.module c m).state = .ramping)) ∧
              ∀ ms ∈ (s.module c m).contactor, ms ≤ 2000 ∧
                ((s.module c m).state = .closing ∨ (s.module c m).state = .opening)
  bays    : ∀ b, (s.power b).commanded ≤ 1200 ∧ (s.power b).reported ≤ 65535 ∧ TimerRange 5000 (s.power b).ramp
  raises  : s.bond.raiseList.length ≤ 48 ∧ s.bond.raiseList.Nodup ∧ ∀ b ∈ s.bond.raiseList, validBay b = true
  bonds   : ∀ c, (s.bondList c).length ≤ 6 ∧ ((s.bondList c).map BondEntry.bay).Nodup ∧
              ∀ e ∈ s.bondList c, validBay e.bay = true ∧ cabOf e.bay = c ∧ 1 ≤ e.wanted ∧ e.wanted ≤ 4

/-- The ranges of Table 6-1. -/
structure Link.InRange (l : Link) : Prop where
  probes    : l.probeCount ≤ 10
  probe     : TimerRange 10000 l.probe ∧ (l.probe.isSome = true ↔ l.state = .training ∨ l.state = .absent)
  keep      : TimerRange 500 l.keep ∧ (l.keep.isSome = true ↔ l.state = .up)
  silence   : TimerRange 2000 l.silence ∧ (l.silence.isSome = true ↔ l.state = .up ∨ l.state = .isolated)
  lostHold  : TimerRange 1000 l.lostTimer ∧ (l.lostHold.isSome = l.lostTimer.isSome) ∧
                ∀ v ∈ l.lostHold, ∀ p, get1 v 0 p ≤ 65535
  installed : l.installed.length ≤ 4 ∧ l.installed.Nodup ∧ ∀ m ∈ l.installed, validModule m = true
  counts    : ∀ p, (l.bay p).lastBattery < 16777216 ∧ (l.bay p).lastAuxiliary < 16777216

/-- The ranges of Table 7-1. -/
structure ReadyRecord.InRange (r : ReadyRecord) : Prop where
  bay       : validBay r.bay = true
  identity  : IdentityRange r.identity
  planEntry : ∀ e ∈ r.planEntry, validEntry e = true
  minute    : r.minute < 1440
  battery   : r.battery ≤ 999999
  countdown : 1 ≤ r.countdown ∧ r.countdown ≤ 1440

/-- Every quantity stays within the range that its table gives. The prescaler stands at 60 only while the minute event
is due (log entry 1), and the milliseconds of the second are the model's (log entry 29). -/
structure BoundsInv (s : State) : Prop where
  clock    : s.clock.minute < 1440 ∧ s.clock.prescaler ≤ 60 ∧ s.clock.fraction < 1000
  sessions : ∀ b, (s.session b).InRange
  entries  : ∀ e, (s.entry e).InRange
  plans    : s.plans.defaultPlan.InRange ∧ 1 ≤ s.plans.cursor ∧ s.plans.cursor ≤ 97
  env      : s.env.InRange
  alloc    : s.alloc.InRange
  bond     : BondInRange s
  links    : ∀ c, (s.link c).InRange
  ready    : s.ready.records.length ≤ 32 ∧ ∀ r ∈ s.ready.records, r.InRange
  faults   : (∀ m ∈ s.faults.overdrawMinute, m < 1440) ∧ ∀ m ∈ s.faults.stopMinute, m < 1440
  lines    : ∀ l, TimerRange 20 (s.line l).filter ∧ TimerRange 500 (s.line l).blinkTimer
  queue    : s.order.queue.length ≤ 16

/-- The building estimate and the available power are at all times those that R64 and R66 compute. -/
structure EnvelopeInv (s : State) : Prop where
  available : s.env.available = availableOf s.env
  building  : s.env.building = buildingOf (meterAssigned s) s.env

/-- A session record is whole: its countdown, window, state and timer agree with one another (Table 1-1, R5, R9,
R12, R14). -/
structure Session.Whole (x : Session) : Prop where
  vacant      : x.state = .vacant → x = Session.vacant x.serial
  identifying : x.state = .identifying → x.identity = none ∧ x.planLink = none ∧ x.countdown = none ∧
                  x.idTimer.isSome = true
  bound       : x.state = .active ∨ x.state = .satisfied → ∃ c, x.countdown = some c ∧ 1 ≤ c ∧ c ≤ 1440
  overdue     : x.state = .overdue → x.countdown = some 0
  window      : x.windowOpen = x.opensWindow
  active      : x.state = .active → x.battery < x.plan.target
  satisfied   : x.state = .satisfied → x.plan.target ≤ x.battery
  anonymous   : x.identity = none → x.planLink = none

/-- Sessions are whole, and a plan entry is CLAIMED exactly when one open session names it as its plan link, whose
plan it holds (R33, R43). -/
structure SessionInv (s : State) : Prop where
  whole   : ∀ b, (s.session b).Whole
  claimed : ∀ e, (s.entry e).state = .claimed →
              ∃ b, (s.entry e).claimant = some b ∧ (s.session b).planLink = some e
  linked  : ∀ b e, (s.session b).planLink = some e →
              (s.entry e).state = .claimed ∧ (s.entry e).claimant = some b ∧ (s.entry e).plan = (s.session b).plan

/-- The module is in a state that it may have while its cabinet's link is not UP or not adopted (Table 5-2). -/
def ModuleState.outOfService (m : ModuleState) : Prop := m = .unknown ∨ m = .absent ∨ m = .faulted

/-- Grants and setpoints are bounded by what stands behind them: R24, R106, R98, R127 and the text of R67. A
cabinet's isolated marker is yes exactly while its link is ISOLATED (R162, R166). -/
structure PowerInv (s : State) : Prop where
  plans      : PowerRange s.plans.defaultPlan.power ∧ (∀ e, PowerRange (s.entry e).plan.power) ∧
                 (∀ b, PowerRange (s.session b).plan.power) ∧
                 ∀ p, s.alloc.snapshot = some p → ∀ b, PowerRange (p.bay b).power
  grant      : ∀ b, (s.session b).grant = 0 ∨ (20 ≤ (s.session b).grant ∧ (s.session b).grant ≤ 1200)
  served     : ∀ b, (s.session b).grant ≠ 0 → (s.session b).state ≠ .vacant ∧ (s.session b).state ≠ .identifying ∧
                 (s.session b).holds.any = false ∧ (s.link (cabOf b)).state = .up ∧ b ∈ s.alloc.lastOrder
  order      : s.alloc.lastOrder.Nodup ∧ ∀ b ∈ s.alloc.lastOrder, validBay b = true
  granted    : ∀ b, (s.power b).commanded ≤ (s.session b).grant
  carried    : ∀ b, (s.power b).commanded ≤ 300 * bonded s b
  modules    : ∀ c m, ((s.link c).state = .up ∧ (s.link c).adopted = true) ∨ (s.module c m).state.outOfService
  isolated   : ∀ c, (s.cabFaults c).isolated = true ↔ (s.link c).state = .isolated
  contactors : ∀ c m, (s.module c m).contactor.isSome = true →
                 (s.module c m).state = .closing ∨ (s.module c m).state = .opening
  available  : commandedSum s ≤ s.env.available
  stop       : s.faults.stopMinute.isSome = true → commandedSum s = 0

end Sys2Proof.Machine
end

