-- ==== Sys2Proof/WellFormed.lean ====
section
/-! DEFINITION. Which commands can reach a PD48: an order is any frame of its kind (its owner checks the values); a
message passes the checks of R135, since one that fails them reaches the part as a frame error; an event names a unit
of Table 0-2. -/

namespace Sys2Proof

open Sys2Proof.Machine

/-- The command is one that can happen to a PD48. -/
def Instr.wf : Instr → Bool
  | .orderUnknownKind _ kind => (bodyLength kind).isNone
  | .descriptor cab modules => validCab cab && validDescriptor modules
  | .status cab message => validCab cab && validStatus message
  | .plug cab position presence => validCab cab && validPlug position presence
  | .identity cab position _ _ => validCab cab && validPosition position.toNat
  | .moduleReport cab module result => validCab cab && validReport module result
  | .faultMessage cab faultClass code kind number => validCab cab && validFault faultClass code kind number
  | .cabinetFrameError cab => validCab cab
  | .cabinetByteGapTimeout cab => validCab cab
  | .cabinetFrameSent cab => validCab cab
  | .identityTimerExpiry bay => validBay bay
  | .rampTimerExpiry bay => validBay bay
  | .contactorTimerExpiry cab module => validCab cab && validModule module
  | .probeTimerExpiry cab => validCab cab
  | .keepTimerExpiry cab => validCab cab
  | .silenceTimerExpiry cab => validCab cab
  | .lostHoldTimerExpiry cab => validCab cab
  | .yardPinChange line _ => validLine line
  | .lineFilterExpiry line => validLine line
  | .alarmBlinkToggle line => validLine line
  | .cabinetByteReceived cab _ => validCab cab
  | .powerOnReset | .restartTakesEffect | .orderFrameDropped | .orderByteGapTimeout | .heldOrderTaken
  | .orderLinkFrameSent | .minuteEvent | .settlingTimerExpiry | .meterWindowExpiry | .overdrawTimerExpiry
  | .periodTimerExpiry | .passComplete | .orderByteReceived _ => true
  | .setClock _ _ | .setSiteCeiling _ _ | .setCabinetCeiling _ _ _ | .putLimitStep _ _ _ _ _ _
  | .selectLimitBank _ _ | .setCurtailStages _ _ _ _ | .setMeter _ _ | .setMargin _ _ | .setReserve _ _
  | .readEnvelope _ | .putPlan _ _ _ | .setPlanCursor _ _ | .putPlanNext _ _ | .releasePlan _ _ | .readPlan _ _
  | .setGroupMask _ _ _ | .setDefaultPlan _ _ | .readSession _ _ | .suspendBay _ _ | .resumeBay _ _ | .reallocate _
  | .setPeriod _ _ | .readReady _ | .clearReadyOverflow _ | .readCabinet _ _ | .retrain _ _ | .readFaults _
  | .clearFaults _ _ _ | .setReporting _ _ | .resumeSite _ | .setLine _ _ _ | .readLines _ | .setNotices _ _
  | .readStatus _ | .restart _ => true

end Sys2Proof
end

