-- ==== Sys2Proof/Certificates/Slice0/Obligations.lean ====
section
/-! DEFINITION. The statements about the model, one `Prop` each. The docstring of each names the rules of the
manual it rests on, and the log entry of any choice of the model that it states. -/

section

open Sys2Proof Sys2Proof.Machine

/-- One step carries out the command at the front of the queue (0.3, 0.8). The command queue is the model's (log
entry 25). -/
def Obligations.StepTakesFrontCommand : Prop :=
  ∀ (c : Instr) (rest : List Instr) (s : State),
    step { s with pending := c :: rest } = exec c { s with pending := rest }

/-- With no command waiting the part takes the event that is due, or lets 1 ms pass (model choice, log entry 1)
(0.8, 3.1). The model's choice, log entry 1: the manual gives the part a clock, and the command table has no row for
a tick. The milliseconds of the second are log entry 29. -/
def Obligations.EmptyQueueTakesDueEvent : Prop :=
  ∀ s : State, s.pending = [] →
    (∀ c, dueEvent s = some c → step s = exec c s) ∧
    (dueEvent s = none → step s = .next (tick s)) ∧
    (dueEvent s = none ↔ ∀ c, ¬ Due s c) ∧
    (∀ c, dueEvent s = some c → c.wf = true ∧ Due s c ∧ ∀ d, Due s d → duePlace c ≤ duePlace d) ∧
    (let less (t : Timer) : Timer := t.map fun ms => ms - 1;
      (tick s).clock = (if s.clock.fraction < 999 then { s.clock with fraction := s.clock.fraction + 1 }
        else { s.clock with fraction := 0, prescaler := s.clock.prescaler + 1 }) ∧
      (∀ b, validBay b = true →
        (tick s).session b = { s.session b with idTimer := less (s.session b).idTimer } ∧
        (tick s).power b = { s.power b with ramp := less (s.power b).ramp }) ∧
      (tick s).env = { s.env with
        settling := less s.env.settling, meterWindow := less s.env.meterWindow, overdraw := less s.env.overdraw } ∧
      (tick s).alloc = { s.alloc with periodTimer := less s.alloc.periodTimer } ∧
      (∀ c, validCab c = true →
        (tick s).link c = { s.link c with
          probe := less (s.link c).probe, keep := less (s.link c).keep, silence := less (s.link c).silence,
          lostTimer := less (s.link c).lostTimer } ∧
        ∀ m, validModule m = true →
          (tick s).module c m = { s.module c m with contactor := less (s.module c m).contactor }) ∧
      (∀ l, validLine l = true → (tick s).line l = { s.line l with
        filter := less (s.line l).filter, blinkTimer := less (s.line l).blinkTimer }) ∧
      (tick s).plans = s.plans ∧ (tick s).ready = s.ready ∧ (tick s).faults = s.faults ∧ (tick s).order = s.order ∧
      (tick s).pending = s.pending ∧ (tick s).bond.raiseList = s.bond.raiseList ∧
      (tick s).bond.bondLists = s.bond.bondLists)

/-- Power-on reset gives every block the values of its reset rule (R1, R29, R50, 3.9, R74, R104, R129, R131, R147,
R158, R171, R178). The pins and the waiting commands are the model's choice (log entry 14), as is the part of a
second (log entry 29); the assembler of a link and the standing of a RESTART are log entry 37. -/
def Obligations.PowerOnResetGivesResetValues : Prop :=
  (∀ s : State, exec .powerOnReset s =
      .next { State.reset with lines := tabulate 8 fun l => Line.reset (s.line l).pin, pending := s.pending }) ∧
    (∀ b, validBay b = true → State.reset.session b = Session.vacant 0 ∧ State.reset.power b = ⟨0, 0, none⟩) ∧
    (∀ e, validEntry e = true → State.reset.entry e = PlanEntry.free) ∧
    State.reset.plans.masks = Vector.replicate 4 0 ∧ State.reset.plans.defaultPlan = ⟨360, 40000, 0, 0, false⟩ ∧
    State.reset.plans.cursor = 1 ∧ State.reset.clock = ⟨0, false, 0, 0⟩ ∧
    State.reset.env.siteCeiling = none ∧ (∀ c, validCab c = true → State.reset.ceiling c = ⟨1200, false⟩) ∧
    (∀ k i, State.reset.env.step k i = ⟨0, 65535, none⟩) ∧ State.reset.env.activeBank = 0 ∧
    State.reset.env.walker = 0 ∧ State.reset.env.windowCount = 0 ∧
    State.reset.env.stageLimits = Vector.replicate 3 65535 ∧ State.reset.env.lineStage = 0 ∧
    State.reset.env.effStage = 0 ∧ State.reset.env.settling = none ∧ State.reset.env.whPerPulse = 10 ∧
    State.reset.env.reserve = 0 ∧ State.reset.env.meterWindow = none ∧ State.reset.env.lastWindow = none ∧
    State.reset.env.building = 0 ∧ State.reset.env.margin = 50 ∧ State.reset.env.available = 0 ∧
    State.reset.env.overdraw = none ∧ State.reset.env.excess = none ∧
    State.reset.alloc = ⟨none, false, false, 60, some 60000, []⟩ ∧
    (∀ c m, validCab c = true → validModule m = true → State.reset.module c m = ⟨.unknown, none, none⟩) ∧
    State.reset.bond.raiseList = [] ∧ (∀ c, State.reset.bondList c = []) ∧
    (∀ c, validCab c = true → (State.reset.link c).state = .training ∧ (State.reset.link c).sending = some .probe ∧
      (State.reset.link c).probeCount = 1 ∧ (State.reset.link c).probe = some 1000 ∧ (State.reset.link c).keep = none ∧
      (State.reset.link c).silence = none ∧ (State.reset.link c).adopted = false ∧ (State.reset.link c).outbound = [] ∧
      (State.reset.link c).installed = [] ∧ (State.reset.link c).lostHold = none ∧ (State.reset.link c).lostTimer = none ∧
      (State.reset.link c).assembler = .hunting ∧ ∀ p, (State.reset.link c).bay p = ⟨0, 0, false, 0, false, false⟩) ∧
    State.reset.ready = ⟨[], false⟩ ∧
    (∀ c, validCab c = true → State.reset.cabFaults c = ⟨none, none, none, false⟩) ∧
    State.reset.faults.overdrawMinute = none ∧ State.reset.faults.stopMinute = none ∧
    State.reset.faults.notices = ⟨false, false, false⟩ ∧ State.reset.faults.alarms = ⟨false, false, true⟩ ∧
    State.reset.faults.alarm = false ∧
    (∀ pin, (Line.reset pin).settings = ⟨.generalIn, false, true, .rising, .pushPull, false, false⟩ ∧
      (Line.reset pin).pin = pin ∧ (Line.reset pin).blinkTimer = none ∧
      (Line.reset pin).level = false ∧ (Line.reset pin).filter = if pin then some 20 else none) ∧
    State.reset.order = ⟨.hunting, none, [], none, false, ⟨false, false, false, false, false, false, false, false⟩, .none⟩

/-- Every well-formed command answers a next state, and no command is refused (0.5, 0.8). That an event at a unit
outside Table 0-2 faults is the model's choice (log entry 3). -/
def Obligations.WellFormedCommandsComplete : Prop :=
  (∀ (i : Instr) (s : State), i.wf = true → ∃ t, exec i s = .next t) ∧
    (∀ (i : Instr) (s : State) (r : Refusal), exec i s ≠ .refused r) ∧
    (∀ (c : Nat) (s : State), validCab c = false →
      exec (.cabinetFrameSent c) s = .fault (.noSuchCabinet c) ∧ exec (.keepTimerExpiry c) s = .fault (.noSuchCabinet c)) ∧
    (∀ (b : Nat) (s : State), validBay b = false → exec (.rampTimerExpiry b) s = .fault (.noSuchBay b)) ∧
    (∀ (c m : Nat) (s : State), validCab c = true → validModule m = false →
      exec (.contactorTimerExpiry c m) s = .fault (.noSuchModule m)) ∧
    (∀ (l : Nat) (s : State), validLine l = false → exec (.lineFilterExpiry l) s = .fault (.noSuchLine l))

/-- Order frames decode to the order they encode, and to no other (10.6, 10.7.1, 10.7.2, R180). -/
def Obligations.OrderFramesRoundTrip : Prop :=
  (∀ (i : Instr) (f : OrderFrame), encodeOrder i = some f → (∀ t k, i ≠ .orderUnknownKind t k) →
      decodeOrder f = .order i) ∧
    (∀ (i : Instr) (f : OrderFrame), decodeOrder f = .order i → encodeOrder i = some f) ∧
    (∀ (f : OrderFrame), decodeOrder f = .unknownKind ↔ bodyLength f.kind = none) ∧
    (∀ (f : OrderFrame) (n : Nat), bodyLength f.kind = some n → f.body.length ≠ n → decodeOrder f = .wrongLength)

/-- Cabinet messages decode to the message they encode, and to no other (6.2, 10.7.3, R135). -/
def Obligations.CabinetMessagesRoundTrip : Prop :=
  (∀ (i : Instr) (c : Nat) (kind : Byte) (body : List Byte), encodeMessage i = some (c, kind, body) → i.wf = true →
      messageOf c kind body = some i) ∧
    (∀ (i : Instr) (c : Nat) (kind : Byte) (body : List Byte), messageOf c kind body = some i →
      encodeMessage i = some (c, kind, body))

/-- The bytes of an order on ORD_RX do what the order does (R179, R180, 10.7.2). That the order is taken within the
step of its last byte is the model's reading (log entry 19). -/
def Obligations.OrderBytesCarryOrders : Prop :=
  ∀ (i : Instr) (f : OrderFrame) (s : State), encodeOrder i = some f → i.wf = true →
    s.order.assembler = .hunting →
    execAll ((orderWire f).map Instr.orderByteReceived) s = exec i s

/-- The bytes of a cabinet frame do what the message does (R186, R135, 10.7.3). That the message is taken within the
step of its last byte is the model's reading (log entry 19). -/
def Obligations.CabinetBytesCarryMessages : Prop :=
  ∀ (i : Instr) (c : Nat) (kind : Byte) (body : List Byte) (s : State),
    encodeMessage i = some (c, kind, body) → validCab c = true → body.length ≤ 100 →
    (s.link c).assembler = .hunting →
    execAll ((messageWire kind body).map (Instr.cabinetByteReceived c)) s = exec i s

/-- A broken order frame is discarded without a reply and changes nothing (R179). That ORDER_FRAME_DROPPED and
ORDER_BYTE_GAP_TIMEOUT leave the assembler HUNTING in every state is the model's choice (log entry 40). -/
def Obligations.BrokenOrderFramesChangeNothing : Prop :=
  (∀ s : State, s.order.assembler = .hunting →
      (∀ b : Byte, b ≠ 0xD5 → exec (.orderByteReceived b) s = .next s) ∧
      (∀ len : Byte, (len.toNat < 2 ∨ 252 < len.toNat) →
        execAll [.orderByteReceived 0xD5, .orderByteReceived len] s = .next s) ∧
      (∀ (len : Byte) (payload check : List Byte), 2 ≤ len.toNat → len.toNat ≤ 252 → payload.length = len.toNat →
        check.length = 2 → check ≠ be16 (crc16 (len :: payload)) →
        execAll (([0xD5, len] ++ payload ++ check).map Instr.orderByteReceived) s = .next s)) ∧
    (∀ s : State,
      exec .orderFrameDropped s = .next { s with order := { s.order with assembler := .hunting } } ∧
      exec .orderByteGapTimeout s = .next { s with order := { s.order with assembler := .hunting } })

/-- A cabinet frame that fails its checks is dropped and hands LINK_FRAME on (R135, R186, R159, R160, R161). That a
gap outside a frame changes nothing, and that CABINET_FRAME_ERROR acts whatever the assembler holds, is the model's
choice (log entry 40), as is the cabinet byte of a FAULT notice whose subject is no module (log entry 43). -/
def Obligations.BrokenCabinetFramesAreLinkFrameFaults : Prop :=
  ∀ (c : Nat) (s : State), validCab c = true → (s.link c).assembler = .hunting →
    exec (.cabinetFrameError c) s = .next (linkFrameFault c s) ∧
    exec (.cabinetByteGapTimeout c) s = .next s ∧
    (∀ bytes,
      exec (.cabinetFrameError c) (putLink c { s.link c with assembler := .collecting bytes } s) =
        .next (linkFrameFault c s) ∧
      exec (.cabinetByteGapTimeout c) (putLink c { s.link c with assembler := .collecting bytes } s) =
        .next (linkFrameFault c s)) ∧
    (∀ b : Byte, b ≠ 0xA9 → exec (.cabinetByteReceived c b) s = .next s) ∧
    (∀ len : Byte, (len.toNat < 1 ∨ 101 < len.toNat) →
      execAll [.cabinetByteReceived c 0xA9, .cabinetByteReceived c len] s = .next (linkFrameFault c s)) ∧
    (∀ (len : Byte) (payload check : List Byte), 1 ≤ len.toNat → len.toNat ≤ 101 → payload.length = len.toNat →
      check.length = 2 → check ≠ be16 (crc16 (len :: payload)) →
      execAll (([0xA9, len] ++ payload ++ check).map (Instr.cabinetByteReceived c)) s = .next (linkFrameFault c s)) ∧
    (∀ (kind : Byte) (body : List Byte), body.length ≤ 100 →
      (∀ n ∈ [0x41, 0x42, 0x43, 0x44, 0x45, 0x46], kind ≠ n) ∨
        (kind = 0x41 ∧ ∀ n ms, body = n :: ms → n.toNat ≠ ms.length) ∨ (kind = 0x42 ∧ body.length ≠ 100) ∨
        (kind = 0x43 ∧ body.length ≠ 2) ∨ (kind = 0x44 ∧ body.length ≠ 6) ∨ (kind = 0x45 ∧ body.length ≠ 2) ∨
        (kind = 0x46 ∧ body.length ≠ 4) →
      execAll ((messageWire kind body).map (Instr.cabinetByteReceived c)) s = .next (linkFrameFault c s)) ∧
    (∀ (i : Instr) (kind : Byte) (body : List Byte), encodeMessage i = some (c, kind, body) → i.wf = false →
      exec i s = .next (linkFrameFault c s)) ∧
    ((linkFrameFault c s).cabFaults c).correctable =
      some ((s.cabFaults c).correctable.getD ⟨.linkFrame, ⟨.cabinet, c⟩⟩) ∧
    (linkFrameFault c s).order =
      noticed (faultNotices c .linkFrame ⟨.cabinet, c⟩ s (linkFrameFault c s)) s.order ∧
    (linkFrameFault c s).links = s.links ∧ (linkFrameFault c s).sessions = s.sessions ∧
    (linkFrameFault c s).plans = s.plans ∧ (linkFrameFault c s).bond = s.bond ∧
    (linkFrameFault c s).env = s.env ∧ (linkFrameFault c s).alloc = s.alloc ∧
    (linkFrameFault c s).clock = s.clock ∧ (linkFrameFault c s).ready = s.ready

/-- An order with no place for its reply is held, a second is discarded, and the held order is taken later (R182,
R185). That the taking of a held order is a step of its own is log entry 18, and that it changes nothing where there
is nothing to take is the model's choice (log entry 40). -/
def Obligations.OrdersHeldDiscardedAndTakenLater : Prop :=
  (∀ (i : Instr) (f : OrderFrame) (s : State), encodeOrder i = some f → i.wf = true → canTake s = false →
      exec i s = .next (if s.order.restart = .none ∧ s.order.held = none
        then { s with order := { s.order with held := some f } } else s)) ∧
    (∀ s : State, canTake s = true ↔
      (s.order.restart = .none ∧ s.order.held = none ∧ (s.order.queue.filter (fun f => f.isReply)).length < 16)) ∧
    (∀ (i : Instr) (f : OrderFrame) (s : State), encodeOrder i = some f → i.wf = true → s.order.held = some f →
      s.order.restart = .none → (s.order.queue.filter (fun f => f.isReply)).length < 16 →
      exec .heldOrderTaken s = exec i { s with order := { s.order with held := none } }) ∧
    (∀ (f : OrderFrame) (s : State), canTake s = false → takeCompleted f s =
      if s.order.restart = .none ∧ s.order.held = none then { s with order := { s.order with held := some f } } else s) ∧
    (∀ (f : OrderFrame) (s : State), s.order.held = some f → s.order.restart = .none →
      (s.order.queue.filter (fun f => f.isReply)).length < 16 →
      exec .heldOrderTaken s = .next (takeCompleted f { s with order := { s.order with held := none } })) ∧
    (∀ s : State, (s.order.held = none ∨ s.order.restart ≠ .none ∨
        16 ≤ (s.order.queue.filter (fun f => f.isReply)).length) →
      exec .heldOrderTaken s = .next s)

/-- A kind that names no order is answered UNKNOWN, and a wrong body length LENGTH (R180). The last clause is the
model's choice (log entry 34). -/
def Obligations.UnknownKindAndWrongLengthAreAnswered : Prop :=
  ∀ (f : OrderFrame) (s : State), canTake s = true →
    (bodyLength f.kind = none →
      takeCompleted f s = s.replied f.tag 0xFF [0x04] ∧
      exec (.orderUnknownKind f.tag f.kind) s = .next (s.replied f.tag 0xFF [0x04])) ∧
    (∀ n, bodyLength f.kind = some n → f.body.length ≠ n →
      takeCompleted f s = s.replied f.tag (f.kind + 0x80) [0x05]) ∧
    ((bodyLength f.kind).isSome = true → exec (.orderUnknownKind f.tag f.kind) s = .next s)

/-- The outbound queue places, discards and drops entries as R182 states (R181, R182, 10.4). -/
def Obligations.OutboundQueuePlacesEntries : Prop :=
  (∀ (o : OrderLink) (x : OutFrame) (tag k : Byte) (body : List Byte), o.sending = some x →
      (o.queue.length < 16 →
        o.placeReply tag k body = { o with queue := o.queue ++ [⟨true, tag, k, body⟩] } ∧
        o.placeNotice k body = { o with queue := o.queue ++ [⟨false, 0, k, body⟩] }) ∧
      (o.queue.length = 16 → o.placeNotice k body = { o with noticeLost := true }) ∧
      (∀ (pre post : List OutFrame) (n : OutFrame), o.queue.length = 16 → o.queue = pre ++ n :: post →
        (∀ y ∈ pre, y.isReply = true) → n.isReply = false →
        o.placeReply tag k body = { o with queue := pre ++ post ++ [⟨true, tag, k, body⟩], noticeLost := true })) ∧
    (∀ (o : OrderLink) (tag k : Byte) (body : List Byte), o.sending = none → o.queue = [] → o.restart ≠ .due →
      o.placeReply tag k body = { o with sending := some ⟨true, tag, k, body⟩ } ∧
      o.placeNotice k body =
        { o with sending := some ⟨false, 0, k, (if o.noticeLost then 1 else 0) :: body⟩, noticeLost := false }) ∧
    (∀ (s : State) (tag k : Byte) (body : List Byte), canTake s = true → Answered tag k body (s.replied tag k body)) ∧
    (∀ (k : NoticeKind) (body : List Byte) (l : List (NoticeKind × List Byte)) (o : OrderLink), noticed [] o = o ∧
      noticed ((k, body) :: l) o = noticed l (if o.enables.on k then o.placeNotice k.byte body else o)) ∧
    [NoticeKind.session, .ready, .fault, .shed, .pass, .link, .line, .narrow].map NoticeKind.byte =
      [0xE1, 0xE2, 0xE3, 0xE4, 0xE5, 0xE6, 0xE7, 0xE8]

/-- When a frame has been sent the oldest reply begins, and otherwise the oldest notice (R181, R185). That nothing
begins after the RESTART reply is the model's reading (log entry 38), and that the command with no frame in
transmission changes nothing its choice (log entry 40). -/
def Obligations.FrameSentBeginsOldestReplyThenNotice : Prop :=
  ∀ s : State,
    (s.order.sending = none → exec .orderLinkFrameSent s = .next s) ∧
    (∀ f, s.order.sending = some f →
      ((s.order.restart = .none ∨ (s.order.restart = .replying ∧ f.isRestartReply = false)) →
        (∀ (pre post : List OutFrame) (r : OutFrame), s.order.queue = pre ++ r :: post →
          (∀ y ∈ pre, y.isReply = false) → r.isReply = true →
          exec .orderLinkFrameSent s =
            .next { s with order := { s.order with queue := pre ++ post, sending := some r } }) ∧
        (∀ (n : OutFrame) (post : List OutFrame), s.order.queue = n :: post → (∀ y ∈ n :: post, y.isReply = false) →
          exec .orderLinkFrameSent s = .next { s with order := { s.order with
            queue := post
            sending := some { n with body := (if s.order.noticeLost then 1 else 0) :: n.body }
            noticeLost := false } }) ∧
        (s.order.queue = [] → exec .orderLinkFrameSent s = .next { s with order := { s.order with sending := none } })) ∧
      (s.order.restart = .replying → f.isRestartReply = true →
        exec .orderLinkFrameSent s =
          .next { s with order := { s.order with sending := none, restart := .due } }))

/-- SET NOTICES replaces all eight enables, which a restart keeps (R183). -/
def Obligations.SetNoticesReplacesTheEightEnables : Prop :=
  (∀ (tag : Byte) (e : NoticeOrder) (s : State), canTake s = true →
      exec (.setNotices tag e) s = .next (({ s with order := { s.order with
          enables := ⟨e.session ≠ 0, e.ready ≠ 0, e.fault ≠ 0, e.shed ≠ 0, e.pass ≠ 0, e.link ≠ 0, e.line ≠ 0,
            e.narrow ≠ 0⟩ } } : State).replied tag 0xBC
        [0x00, if e.session ≠ 0 then 1 else 0, if e.ready ≠ 0 then 1 else 0, if e.fault ≠ 0 then 1 else 0,
          if e.shed ≠ 0 then 1 else 0, if e.pass ≠ 0 then 1 else 0, if e.link ≠ 0 then 1 else 0,
          if e.line ≠ 0 then 1 else 0, if e.narrow ≠ 0 then 1 else 0])) ∧
    (∀ (k : NoticeKind) (body : List Byte) (s : State),
      (s.order.enables.on k = false → notify k body s = s) ∧
      (s.order.enables.on k = true → notify k body s = { s with order := s.order.placeNotice k.byte body })) ∧
    (∀ (s : State), restartReady s.order = true →
      ∃ t, exec .restartTakesEffect s = .next t ∧ t.order.enables = s.order.enables)

/-- The read orders answer the fields of their rules and change nothing else (R27, R43, R71, R144, R169, R176, R184,
R185, 10.7.1). The places of the markers, the open values, the raw level of an output line and the bytes of a level
are the model's (log entries 12, 13, 26, 28, 45, 46 and 47). -/
def Obligations.ReadOrdersAnswerAndChangeNothing : Prop :=
  (∀ (tag : Byte) (s : State), canTake s = true →
      exec (.readEnvelope tag) s = .next (s.replied tag 0x8A (0x00 :: envelopeBytes s)) ∧
      (∀ e : Byte, validEntry e.toNat = true →
        exec (.readPlan tag e) s = .next (s.replied tag 0x94 (0x00 :: entryBytes (s.entry e.toNat) s.plans.cursor))) ∧
      (∀ b : Byte, validBay b.toNat = true →
        exec (.readSession tag b) s = .next (s.replied tag 0xA0 (0x00 :: sessionBytes (s.session b.toNat)))) ∧
      (∀ c : Byte, validCab c.toNat = true →
        exec (.readCabinet tag c) s = .next (s.replied tag 0xB0 (0x00 :: cabinetBytes c.toNat s))) ∧
      exec (.readFaults tag) s = .next (s.replied tag 0xB4 (0x00 :: faultsBytes s)) ∧
      exec (.readLines tag) s = .next (s.replied tag 0xB9 (0x00 :: linesBytes s)) ∧
      exec (.readStatus tag) s =
        .next (({ s with order := { s.order with noticeLost := false } } : State).replied tag 0xBD
          (0x00 :: statusBytes s)) ∧
      exec (.restart tag) s =
        .next (({ s with order := { s.order with restart := .replying } } : State).replied tag 0xBE [0x00])) ∧
    (∀ n : Nat, (n < 256 → enc8 n = [BitVec.ofNat 8 n]) ∧
      (n < 65536 → enc16 n = [BitVec.ofNat 8 (n / 256), BitVec.ofNat 8 n]) ∧
      (n < 16777216 → enc24 n = [BitVec.ofNat 8 (n / 65536), BitVec.ofNat 8 (n / 256), BitVec.ofNat 8 n])) ∧
    (tenths none = 0 ∧ remaining 1000 none = 0 ∧ secondsUp none = 0 ∧ ∀ ms : Nat,
      secondsUp (some ms) = (ms + 999) / 1000 ∧
      (ms % 100 = 0 → tenths (some ms) = ms / 100) ∧ (ms % 1000 = 0 → remaining 1000 (some ms) = ms / 1000) ∧
      ms / 100 ≤ tenths (some ms) ∧ tenths (some ms) ≤ ms / 100 + 1 ∧
      ms / 1000 ≤ remaining 1000 (some ms) ∧ remaining 1000 (some ms) ≤ ms / 1000 + 1) ∧
    (∀ x : Session,
      Layout (sessionBytes x) [(0, enc8 x.state.code), (1, enc16 x.serial), (3, enc16 x.opened),
        (5, be24 (x.identity.getD 0)), (8, [mark x.identity.isSome]), (9, enc8 (x.planLink.getD 0)),
        (10, [mark x.planLink.isSome]), (11, enc16 x.plan.departure), (13, enc16 (x.countdown.getD 0)),
        (15, [mark x.countdown.isSome]), (16, enc24 x.plan.target), (19, enc24 x.battery), (22, enc24 x.auxiliary),
        (25, enc8 x.plan.window), (26, enc16 x.plan.power), (28, [mark x.windowOpen]), (29, [mark x.plan.priority]),
        (30, enc16 x.acceptance), (32, enc8 x.holds.code), (33, enc16 x.grant), (35, [mark x.short]),
        (36, [mark x.preShort]), (37, enc16 (secondsUp x.idTimer))]) ∧
    (∀ (x : PlanEntry) (cursor : Nat),
      Layout (entryBytes x cursor) [(0, enc8 x.state.code), (1, enc8 x.kind.code), (2, be24 x.identity),
        (5, [mark x.reuse]), (6, enc16 x.plan.departure), (8, enc24 x.plan.target), (11, enc8 x.plan.window),
        (12, enc16 x.plan.power), (14, [mark x.plan.priority]), (15, enc8 (x.claimant.getD 0)),
        (16, [mark x.claimant.isSome]), (17, [mark x.outcome.isSome]), (32, enc8 cursor)] ∧
      (x.outcome = none → Layout (entryBytes x cursor) [(18, List.replicate 14 0)]) ∧
      (∀ o, x.outcome = some o → Layout (entryBytes x cursor) [(18, enc8 o.bay), (19, be24 (o.identity.getD 0)),
        (22, [mark o.identity.isSome]), (23, enc24 o.battery), (26, enc24 o.auxiliary), (29, enc16 o.closeMinute),
        (31, [mark o.targetMet])])) ∧
    (∀ s : State,
      let e := s.env
      let schedule := if e.activeBank = 0 then 65535 else (e.step e.activeBank e.walker).limit
      let curtail := if e.effStage = 0 then 65535 else get1 e.stageLimits 65535 e.effStage
      Layout (envelopeBytes s) [(0, enc16 s.clock.minute), (2, [mark s.clock.setMarker]),
        (3, enc16 (e.siteCeiling.getD 0)), (5, [mark e.siteCeiling.isSome]), (6, [mark e.siteCeiling.isSome]),
        (31, enc8 e.activeBank), (32, enc8 e.walker), (33, enc16 schedule), (35, enc8 e.lineStage),
        (36, enc8 e.effStage), (37, enc16 (tenths e.settling)), (39, enc16 (get1 e.stageLimits 0 1)),
        (41, enc16 (get1 e.stageLimits 0 2)), (43, enc16 (get1 e.stageLimits 0 3)), (45, [mark (meterAssigned s)]),
        (46, enc16 e.whPerPulse), (48, enc16 e.windowCount), (50, enc16 (e.lastWindow.getD 0)),
        (52, [mark e.lastWindow.isSome]), (53, enc16 (remaining 1000 e.meterWindow)), (55, enc16 e.reserve),
        (57, enc16 e.building), (59, enc16 e.margin), (63, enc16 e.available), (65, enc16 (commandedSum s)),
        (67, enc16 (tenths e.overdraw)), (69, enc16 (e.excess.getD 0)), (71, [mark e.excess.isSome])] ∧
      (∀ v, e.siteCeiling = some v → Layout (envelopeBytes s) [(61, enc16 (min v (min schedule curtail)))]) ∧
      (∀ c, validCab c = true → Layout (envelopeBytes s)
        [(4 + 3 * c, enc16 (s.ceiling c).steps), (6 + 3 * c, [mark (s.ceiling c).locked])]) ∧
      (∀ c, validCab c = true →
        Layout (cabinetBytes c s) [(0, enc8 (s.link c).state.code), (1, [mark (s.link c).adopted]),
          (2, enc8 (s.link c).probeCount), (3, enc16 (secondsUp (s.link c).probe)),
          (5, enc16 (tenths (s.link c).silence)), (7, enc16 (tenths (s.link c).lostTimer)),
          (9, enc24 (s.link c).lostSum), (12, enc8 (moduleSet (s.link c).installed)),
          (121, enc16 (s.ceiling c).steps), (123, [mark (s.ceiling c).locked])] ∧
        (∀ m, validModule m = true → Layout (cabinetBytes c s) [(10 + 3 * m, enc8 (s.module c m).state.code),
          (11 + 3 * m, enc8 ((s.module c m).bay.getD 0)), (12 + 3 * m, [mark (s.module c m).bay.isSome])]) ∧
        (∀ p, validPosition p = true →
          let x := (s.link c).bay p
          let y := s.power (bayAt c p)
          Layout (cabinetBytes c s) [(9 + 16 * p, [mark x.present]), (10 + 16 * p, be24 x.identitySeen),
            (13 + 16 * p, enc24 x.lastBattery), (16 + 16 * p, enc24 x.lastAuxiliary),
            (19 + 16 * p, [mark x.insulation]), (20 + 16 * p, [mark x.derate]), (21 + 16 * p, enc16 y.reported),
            (23 + 16 * p, enc16 y.commanded)])) ∧
      (let first (o : Option FirstCode) : List Byte := match o with
          | some f => enc8 f.code.code ++ enc8 f.subject.kind.code ++ enc8 f.subject.number ++ [1]
          | none => [0, 0, 0, 0];
        (∀ c, validCab c = true →
          let f := s.cabFaults c
          Layout (faultsBytes s) [(16 * c - 16, [mark f.correctable.isSome]), (16 * c - 15, [mark f.nonfatal.isSome]),
            (16 * c - 14, [mark f.fatal.isSome]), (16 * c - 13, first f.correctable), (16 * c - 9, first f.nonfatal),
            (16 * c - 5, first f.fatal), (16 * c - 1, [mark f.isolated])]) ∧
        Layout (faultsBytes s) [(128, [mark s.faults.overdrawMinute.isSome]),
          (129, enc16 (s.faults.overdrawMinute.getD 0)), (131, [mark s.faults.overdrawMinute.isSome]),
          (132, [mark s.faults.stopMinute.isSome]), (133, enc16 (s.faults.stopMinute.getD 0)),
          (135, [mark s.faults.stopMinute.isSome]), (136, [mark s.faults.notices.correctable]),
          (137, [mark s.faults.alarms.correctable]), (138, [mark s.faults.notices.nonfatal]),
          (139, [mark s.faults.alarms.nonfatal]), (140, [mark s.faults.notices.fatal]),
          (141, [mark s.faults.alarms.fatal]), (142, [mark s.faults.alarm])]) ∧
      (∀ l, validLine l = true →
        let x := s.line l
        let driven := match x.settings.function with
          | .generalOut => x.settings.outputLevel
          | .readyOut => decide (s.ready.records ≠ [])
          | .alarmOut => s.faults.alarm && (!x.settings.blink || x.blinkHalf)
          | _ => false
        let high := driven != x.settings.invert
        let raw := if x.settings.function.isInput then x.pin
          else if x.settings.drive = .openDrain then high && x.pin else high
        Layout (linesBytes s) [(10 * l - 10, enc8 x.settings.function.code), (10 * l - 9, [mark x.settings.invert]),
          (10 * l - 8, [mark x.settings.pullUp]), (10 * l - 7, enc8 x.settings.edge.code),
          (10 * l - 6, enc8 x.settings.drive.code), (10 * l - 5, [mark x.settings.blink]),
          (10 * l - 4, [mark x.settings.outputLevel]), (10 * l - 3, [mark raw]),
          (10 * l - 2, [mark (x.settings.function.isInput && x.level)]), (10 * l - 1, [mark driven])]) ∧
      Layout (linesBytes s) [(80, enc8 (stopLinesAsserted s))] ∧
      Layout (statusBytes s) [(0, [0x48, 0x01]), (2, [mark s.order.noticeLost]), (3, [mark s.order.enables.session]),
        (4, [mark s.order.enables.ready]), (5, [mark s.order.enables.fault]), (6, [mark s.order.enables.shed]),
        (7, [mark s.order.enables.pass]), (8, [mark s.order.enables.link]), (9, [mark s.order.enables.line]),
        (10, [mark s.order.enables.narrow]), (11, enc8 (s.order.queue.filter (fun f => f.isReply)).length),
        (12, enc8 (s.order.queue.filter (fun f => !f.isReply)).length), (13, [mark s.clock.setMarker]),
        (14, [mark s.env.siteCeiling.isSome]), (15, [mark s.faults.stopMinute.isSome]),
        (16, [mark (s.clock.setMarker && s.env.siteCeiling.isSome && s.faults.stopMinute.isNone)]),
        (17, [mark s.alloc.snapshot.isSome]), (26, enc8 s.ready.records.length), (27, [mark s.ready.overflow]),
        (28, [mark s.faults.alarm])] ∧
      (∀ c, validCab c = true → Layout (statusBytes s) [(17 + c, enc8 (s.link c).state.code)])) ∧
    (([.vacant, .identifying, .active, .satisfied, .overdue] : List SessionState).map SessionState.code =
        [0, 1, 2, 3, 4] ∧
      ([.free, .opened, .claimed, .spent] : List PlanState).map PlanState.code = [0, 1, 2, 3] ∧
      ([.exact, .group1, .group2, .group3, .group4] : List PlanKind).map PlanKind.code = [0, 1, 2, 3, 4] ∧
      ([.absent, .unknown, .free, .closing, .bonded, .ramping, .opening, .faulted] : List ModuleState).map
        ModuleState.code = [0, 1, 2, 3, 4, 5, 6, 7] ∧
      ([.absent, .training, .up, .lost, .isolated] : List LinkState).map LinkState.code = [0, 1, 2, 3, 4] ∧
      ([.linkFrame, .bayDerate, .moduleFail, .contactorTimeout, .bayInsulation, .linkLost, .siteOverdraw,
        .cabinetInternal, .rampTimeout] : List FaultCode).map FaultCode.code = [0, 1, 2, 3, 4, 5, 6, 7, 8] ∧
      ([.correctable, .nonfatal, .fatal] : List FaultClass).map FaultClass.code = [0, 1, 2] ∧
      ([.linkFrame, .bayDerate, .moduleFail, .contactorTimeout, .bayInsulation, .linkLost, .siteOverdraw,
        .cabinetInternal, .rampTimeout] : List FaultCode).map FaultCode.cls = [.correctable, .correctable, .nonfatal,
          .nonfatal, .nonfatal, .nonfatal, .nonfatal, .fatal, .fatal] ∧
      ([.cabinet, .bay, .module, .site] : List SubjectKind).map SubjectKind.code = [0, 1, 2, 3] ∧
      ([.generalIn, .generalOut, .curtailA, .curtailB, .meterPulse, .stopIn, .alarmOut, .readyOut] :
        List LineFunction).map LineFunction.code = [0, 1, 2, 3, 4, 5, 6, 7] ∧
      ([.rising, .falling, .both] : List LineEdge).map LineEdge.code = [0, 1, 2] ∧
      ([.pushPull, .openDrain] : List LineDrive).map LineDrive.code = [0, 1] ∧
      (∀ h : Holds, enc8 h.code = [(if h.host then 1 else 0) ||| (if h.fault then 2 else 0) |||
        (if h.link then 4 else 0) ||| (if h.stop then 8 else 0)]) ∧
      (∀ ms : List Nat, moduleSet ms < 16 ∧
        ∀ m, validModule m = true → (moduleSet ms).testBit (m - 1) = ms.contains m) ∧
      (∀ l : Link, l.lostSum = match l.lostHold with
        | some held => held.toList.sum
        | none => 0) ∧
      (∀ f : LineFunction, f.isInput = false ↔ f = .generalOut ∨ f = .alarmOut ∨ f = .readyOut) ∧
      ∀ s : State, commandedSum s = (allBays.map fun b => (s.power b).commanded).sum ∧
        (meterAssigned s = true ↔ ∃ k, validLine k = true ∧ (s.line k).settings.function = .meterPulse))

/-- Every reply to an order of a kind has the one body length of that kind (R180, 10.7.1). One length for each kind
is R180; the widths of markers, of the CLEAR FAULTS reply, of the REALLOCATE reply and of the level bytes rest on
the model's readings (log entries 11, 12, 27 and 28). -/
def Obligations.ReplyBodiesHaveOneLengthPerKind : Prop :=
  ∀ (i : Instr) (f : OrderFrame) (e : State → State × List Byte) (s : State), encodeOrder i = some f →
    orderEffect i = some e → (e s).2.length = 1 + replyWidth f.kind

/-- A restart takes every block to its restart state and keeps what the manual keeps (R28, R47, R61, R72, R102,
R128, R146, R157, R170, R177, R185, R186). When the command may come is the model's reading (log entry 38), as are
the window count of 0 (log entry 21) and the order of the blocks (log entry 22); that KEEP and CEILING are among the
frames discarded is log entry 17. -/
def Obligations.RestartTakesEffect : Prop :=
  (∀ s : State, restartReady s.order = false → exec .restartTakesEffect s = .next s) ∧
    (∀ s : State, restartReady s.order = true → ∃ t, exec .restartTakesEffect s = .next t ∧
      t.clock = s.clock ∧ t.pending = s.pending ∧
      (∀ b, validBay b = true → t.session b = Session.vacant (s.session b).serial) ∧
      (∀ e, t.entry e = if (s.entry e).state = .claimed
        then { s.entry e with state := .opened, claimant := none } else s.entry e) ∧
      t.plans.masks = s.plans.masks ∧ t.plans.defaultPlan = s.plans.defaultPlan ∧ t.plans.cursor = s.plans.cursor ∧
      (let level (f : LineFunction) : Nat :=
          if allLines.any (fun k => (s.line k).settings.function = f && (s.line k).level) then 1 else 0;
        let e : Envelope := { s.env with
          walker := if s.env.activeBank = 0 then 0 else 1
          lineStage := level .curtailA + 2 * level .curtailB
          settling := some 2000
          meterWindow := if meterAssigned s then some 60000 else none
          windowCount := 0
          lastWindow := none
          building := s.env.reserve
          overdraw := none
          excess := none };
        t.env = { e with available := availableOf e }) ∧
      t.alloc = { s.alloc with
        snapshot := t.alloc.snapshot, again := false, stale := false, lastOrder := [],
        periodTimer := some (s.alloc.period * 1000) } ∧
      (t.alloc.snapshot.isSome = true ↔ t.env.available ≠ s.env.available ∧ allocationEnabled s = true) ∧
      t.bond = BondController.reset ∧
      (∀ c, validCab c = true →
        (t.link c).adopted = false ∧ (t.link c).lostHold = none ∧ (t.link c).lostTimer = none ∧
        (∀ p, (t.link c).bay p = ⟨0, 0, false, 0, false, false⟩) ∧ (t.link c).installed = (s.link c).installed ∧
        (t.link c).assembler = .hunting ∧
        (if (s.link c).state = .isolated then
            (t.link c).state = .isolated ∧ (t.link c).silence = some 2000 ∧ (t.link c).probe = (s.link c).probe
          else (t.link c).state = .training ∧ (t.link c).probeCount = 1 ∧ (t.link c).probe = some 1000 ∧
            (t.link c).keep = none ∧ (t.link c).silence = none) ∧
        ((t.link c).outbound, (t.link c).sending) = (s.link c).refilled
          (if (s.link c).state = .isolated then []
            else if (s.link c).state = .up then [.zero, .probe] else [.probe])) ∧
      t.ready = ⟨[], false⟩ ∧
      t.faults = { s.faults with alarm := alarmWanted s } ∧
      (∀ l, (t.line l).settings = (s.line l).settings ∧ (t.line l).level = (s.line l).level ∧
        (t.line l).filter = (s.line l).filter ∧ (t.line l).pin = (s.line l).pin) ∧
      t.order = ⟨.hunting, none, [], none, s.order.noticeLost || s.order.queue.any (fun f => !f.isReply),
        s.order.enables, .none⟩)

/-- SET CLOCK sets the clock, recomputes countdowns and windows, and returns the walker to step 1 (R51, R9, R11,
R12, R58). The part of a second is the model's (log entry 29). -/
def Obligations.SetClockSetsMinuteAndRecomputes : Prop :=
  (∀ (tag : Byte) (minute : U16) (s : State), canTake s = true → minute.toNat < 1440 →
      ∃ r, Ripple { s with
          clock := ⟨minute.toNat, true, 0, 0⟩
          sessions := tabulate 48 fun b => (s.session b).reclocked minute.toNat
          env := ({ s.env with walker := if s.env.activeBank = 0 then 0 else 1 } : Envelope).fresh } r ∧
        exec (.setClock tag minute) s = .next (r.replied tag 0x81 (0x00 :: be16 minute)) ∧
        PowerAs (recompute { s with
          clock := ⟨minute.toNat, true, 0, 0⟩
          sessions := tabulate 48 fun b => (s.session b).reclocked minute.toNat
          env := { s.env with walker := if s.env.activeBank = 0 then 0 else 1 } }) r ∧
        ((s.clock.setMarker = false ∨ r.env.available ≠ s.env.available ∨
          ∃ b, (s.session b).windowOpen = false ∧ (r.session b).windowOpen = true) → Requested s r)) ∧
    (∀ (x : Session) (m : Nat),
      (x.state = .active ∨ x.state = .satisfied → x.reclocked m = { x with
        countdown := some (countdownFrom x.plan.departure m)
        windowOpen := 0 < x.plan.power && 0 < x.plan.window &&
          decide (countdownFrom x.plan.departure m ≤ x.plan.window) }) ∧
      (x.state ≠ .active → x.state ≠ .satisfied → x.reclocked m = x)) ∧
    (∀ d m : Nat, d < 1440 → m < 1440 →
      1 ≤ countdownFrom d m ∧ countdownFrom d m ≤ 1440 ∧ (m + countdownFrom d m) % 1440 = d)

/-- SET SITE CEILING and SET CABINET CEILING write and lock a ceiling (R53, R54, R126). -/
def Obligations.CeilingOrdersWriteOnce : Prop :=
  ∀ (tag : Byte) (s : State), canTake s = true →
    (∀ steps : U16, s.env.siteCeiling = none → steps ≠ 0 →
      ∃ r, Ripple { s with env := ({ s.env with siteCeiling := some steps.toNat } : Envelope).fresh } r ∧
        exec (.setSiteCeiling tag steps) s = .next (r.replied tag 0x82 (0x00 :: be16 steps)) ∧ Requested s r ∧
        PowerAs (recompute { s with env := { s.env with siteCeiling := some steps.toNat } }) r) ∧
    (∀ (cab : Byte) (steps : U16), validCab cab.toNat = true → (s.ceiling cab.toNat).locked = false →
      ∃ r, Ripple { s with env := { s.env with
          ceilings := set1 s.env.ceilings cab.toNat ⟨min 1200 steps.toNat, true⟩ } } r ∧
        exec (.setCabinetCeiling tag cab steps) s =
          .next (r.replied tag 0x83 (0x00 :: enc16 (min 1200 steps.toNat))) ∧
        Requested s r ∧ r.sessions = s.sessions ∧ r.bond = s.bond ∧
        (∀ k, r.ceiling k = if k = cab.toNat then ⟨min 1200 steps.toNat, true⟩ else s.ceiling k) ∧
        (if (s.link cab.toNat).state = .up then
          (r.link cab.toNat).sending = some (.ceiling (min 1200 steps.toNat)) ∨
            (r.link cab.toNat).outbound.getLast? = some (.ceiling (min 1200 steps.toNat))
        else r.links = s.links))

/-- PUT LIMIT STEP writes one step of an inactive bank, and SELECT LIMIT BANK places the walker (R55, R56). -/
def Obligations.LimitScheduleOrders : Prop :=
  ∀ (tag : Byte) (s : State), canTake s = true →
    (∀ (bank step : Byte) (start limit : U16) (next : Byte),
      (bank = 1 ∨ bank = 2) → 1 ≤ step.toNat → step.toNat ≤ 16 → start.toNat < 1440 → next.toNat ≤ 16 →
      bank.toNat ≠ s.env.activeBank →
      ∃ t : State, exec (.putLimitStep tag bank step start limit next) s = .next (t.replied tag 0x84 [0x00]) ∧
        t = { s with env := { s.env with banks := t.env.banks } } ∧
        t.env.step bank.toNat step.toNat =
          ⟨start.toNat, limit.toNat, if next = 0 then none else some next.toNat⟩ ∧
        (∀ b k, (b ≠ bank.toNat ∨ k ≠ step.toNat) → t.env.step b k = s.env.step b k)) ∧
    (∀ bank : Byte, bank.toNat ≤ 2 →
      ∃ r, Ripple { s with env := ({ s.env with
          activeBank := bank.toNat, walker := if bank = 0 then 0 else 1 } : Envelope).fresh } r ∧
        exec (.selectLimitBank tag bank) s =
          .next (r.replied tag 0x85 [0x00, bank, if bank = 0 then 0 else 1]) ∧
        (r.env.available ≠ s.env.available → Requested s r) ∧
        PowerAs (recompute { s with env := { s.env with
          activeBank := bank.toNat, walker := if bank = 0 then 0 else 1 } }) r)

/-- SET CURTAIL STAGES, SET METER and SET RESERVE store their values and compute B and A (R60, R64). -/
def Obligations.CurtailMeterAndReserveOrders : Prop :=
  ∀ (tag : Byte) (s : State), canTake s = true →
    (∀ a b c : U16,
      ∃ r, Ripple { s with env := ({ s.env with stageLimits := #v[a.toNat, b.toNat, c.toNat] } : Envelope).fresh } r ∧
        exec (.setCurtailStages tag a b c) s = .next (r.replied tag 0x86 [0x00]) ∧
        r = recompute { s with env := { s.env with stageLimits := #v[a.toNat, b.toNat, c.toNat] } } ∧
        (r.env.available ≠ s.env.available → Requested s r)) ∧
    (∀ w : U16,
      let e := { s.env with whPerPulse := min 1000 (max 1 w.toNat) }
      ∃ r, Ripple { s with env := ({ e with building := buildingOf (meterAssigned s) e } : Envelope).fresh } r ∧
        exec (.setMeter tag w) s = .next (r.replied tag 0x87 (0x00 :: enc16 (min 1000 (max 1 w.toNat)))) ∧
        r = recompute { s with env := { e with building := buildingOf (meterAssigned s) e } } ∧
        (r.env.available ≠ s.env.available → Requested s r)) ∧
    (∀ v : U16,
      let e := { s.env with reserve := v.toNat }
      ∃ r, Ripple { s with env := ({ e with building := buildingOf (meterAssigned s) e } : Envelope).fresh } r ∧
        exec (.setReserve tag v) s = .next (r.replied tag 0x89 (0x00 :: be16 v)) ∧
        r = recompute { s with env := { e with building := buildingOf (meterAssigned s) e } } ∧
        (r.env.available ≠ s.env.available → Requested s r)) ∧
    (∀ e : Envelope, buildingOf false e = e.reserve ∧ (e.lastWindow = none → buildingOf true e = e.reserve) ∧
      (∀ p, e.lastWindow = some p →
        buildingOf true e = min 65535 (max e.reserve ((p * e.whPerPulse * 3 + 4) / 5)))) ∧
    (∀ s : State, meterAssigned s = true ↔ ∃ l, validLine l = true ∧ (s.line l).settings.function = .meterPulse)

/-- SET MARGIN stores the margin, at most 1000, which is 50 at reset and kept at a restart (R65). -/
def Obligations.SetMarginStoresMarginAndRecomputes : Prop :=
  (∀ (tag : Byte) (steps : U16) (s : State), canTake s = true →
      ∃ r, Ripple { s with env := ({ s.env with margin := min 1000 steps.toNat } : Envelope).fresh } r ∧
        exec (.setMargin tag steps) s = .next (r.replied tag 0x88 (0x00 :: enc16 (min 1000 steps.toNat))) ∧
        r = recompute { s with env := { s.env with margin := min 1000 steps.toNat } } ∧
        (r.env.available ≠ s.env.available → Requested s r)) ∧
    (∀ s : State, ∃ t, exec .powerOnReset s = .next t ∧ t.env.margin = 50) ∧
    (∀ s : State, restartReady s.order = true →
      ∃ t, exec .restartTakesEffect s = .next t ∧ t.env.margin = s.env.margin)

/-- SET PERIOD stores the period, 10 to 600 s, and starts the period timer again (R78). -/
def Obligations.SetPeriodRestartsThePeriodTimer : Prop :=
  (∀ (tag : Byte) (seconds : U16) (s : State), canTake s = true →
      exec (.setPeriod tag seconds) s = .next (({ s with alloc := { s.alloc with
          period := min 600 (max 10 seconds.toNat)
          periodTimer := some (min 600 (max 10 seconds.toNat) * 1000) } } : State).replied tag 0xA9
        (0x00 :: enc16 (min 600 (max 10 seconds.toNat))))) ∧
    (∀ s : State, (startPass s).alloc.periodTimer = some (s.alloc.period * 1000) ∧
      (startPass s).alloc.period = s.alloc.period) ∧
    (∀ s : State, restartReady s.order = true →
      ∃ t, exec .restartTakesEffect s = .next t ∧ t.alloc.period = s.alloc.period)

/-- Orders with an index or value out of range are answered RANGE and change nothing (R51, R53, R54, R55, R56, R37,
R41, R42, R45, R165, R175, R180). The bytes of a refusal after its status, and their number for CLEAR FAULTS and SET
LINE, are the model's readings (log entries 11, 12 and 28). -/
def Obligations.OrdersRefusedRange : Prop :=
  ∀ (tag : Byte) (s : State), canTake s = true →
    (∀ m : U16, 1440 ≤ m.toNat → exec (.setClock tag m) s = .next (s.replied tag 0x81 [0x01, 0, 0])) ∧
    (s.env.siteCeiling = none → exec (.setSiteCeiling tag 0) s = .next (s.replied tag 0x82 [0x01, 0, 0])) ∧
    (∀ (c : Byte) (v : U16), validCab c.toNat = false →
      exec (.setCabinetCeiling tag c v) s = .next (s.replied tag 0x83 [0x01, 0, 0]) ∧
      exec (.readCabinet tag c) s = .next (s.replied tag 0xB0 (0x01 :: List.replicate 124 0)) ∧
      exec (.retrain tag c) s = .next (s.replied tag 0xB1 [0x01])) ∧
    (∀ (b k : Byte) (a l : U16) (n : Byte),
      (b.toNat < 1 ∨ 2 < b.toNat ∨ k.toNat < 1 ∨ 16 < k.toNat ∨ 1440 ≤ a.toNat ∨ 16 < n.toNat) →
      exec (.putLimitStep tag b k a l n) s = .next (s.replied tag 0x84 [0x01])) ∧
    (∀ b : Byte, 2 < b.toNat → exec (.selectLimitBank tag b) s = .next (s.replied tag 0x85 [0x01, 0, 0])) ∧
    (∀ (e : Byte) (f : PlanOrder), (validEntry e.toNat = false ∨ 4 < f.kind.toNat ∨ (f.kind = 0 ∧ f.identity = 0) ∨
        1440 ≤ f.departure.toNat ∨ 999999 < f.target.toNat) →
      exec (.putPlan tag e f) s = .next (s.replied tag 0x90 [0x01, 0, 0])) ∧
    (∀ e : Byte, validEntry e.toNat = false →
      exec (.setPlanCursor tag e) s = .next (s.replied tag 0x91 [0x01, 0]) ∧
      exec (.releasePlan tag e) s = .next (s.replied tag 0x93 [0x01, 0]) ∧
      exec (.readPlan tag e) s = .next (s.replied tag 0x94 (0x01 :: List.replicate 33 0))) ∧
    (∀ (g : Byte) (m : U24), (g.toNat < 1 ∨ 4 < g.toNat) →
      exec (.setGroupMask tag g m) s = .next (s.replied tag 0x95 [0x01, 0, 0, 0])) ∧
    (∀ f : DefaultOrder, (1440 ≤ f.departure.toNat ∨ 999999 < f.target.toNat) →
      exec (.setDefaultPlan tag f) s = .next (s.replied tag 0x96 [0x01])) ∧
    (∀ b : Byte, validBay b.toNat = false →
      exec (.readSession tag b) s = .next (s.replied tag 0xA0 (0x01 :: List.replicate 39 0)) ∧
      exec (.suspendBay tag b) s = .next (s.replied tag 0xA1 [0x01, 0, 0, 0]) ∧
      exec (.resumeBay tag b) s = .next (s.replied tag 0xA2 [0x01, 0, 0, 0])) ∧
    (∀ x k : Byte, 8 < x.toNat →
      exec (.clearFaults tag x k) s = .next (s.replied tag 0xB5 (0x01 :: List.replicate 19 0))) ∧
    (∀ (l : Byte) (o : LineOrder), (validLine l.toNat = false ∨ 7 < o.function.toNat ∨ 1 < o.invert.toNat ∨
        1 < o.pullUp.toNat ∨ 2 < o.edge.toNat ∨ 1 < o.drive.toNat ∨ 1 < o.blink.toNat ∨ 1 < o.outputLevel.toNat) →
      exec (.setLine tag l o) s = .next (s.replied tag 0xB8 (0x01 :: List.replicate 10 0)))

/-- Orders that the state does not allow are answered LOCKED or STATE and change nothing (R53, R54, R55, R40, R25,
R26, R101, R143, R168, R175). The bytes of a refusal after its status, and their number for REALLOCATE and SET LINE,
are the model's readings (log entries 11, 27 and 28), as is the place of the presence marker of the stop minute in
RESUME SITE (log entry 12). -/
def Obligations.OrdersRefusedLockedOrState : Prop :=
  ∀ (tag : Byte) (s : State), canTake s = true →
    (∀ v : U16, s.env.siteCeiling ≠ none → exec (.setSiteCeiling tag v) s = .next (s.replied tag 0x82 [0x03, 0, 0])) ∧
    (∀ (c : Byte) (v : U16), validCab c.toNat = true → (s.ceiling c.toNat).locked = true →
      exec (.setCabinetCeiling tag c v) s = .next (s.replied tag 0x83 [0x03, 0, 0])) ∧
    (∀ (b k : Byte) (a l : U16) (n : Byte), (b = 1 ∨ b = 2) → 1 ≤ k.toNat → k.toNat ≤ 16 → a.toNat < 1440 →
      n.toNat ≤ 16 → b.toNat = s.env.activeBank →
      exec (.putLimitStep tag b k a l n) s = .next (s.replied tag 0x84 [0x02])) ∧
    (∀ (e : Byte) (f : PlanOrder) (k : PlanKind), validEntry e.toNat = true → acceptedKind f = some k →
      (s.entry e.toNat).state = .claimed → ((s.entry e.toNat).kind ≠ k ∨ (s.entry e.toNat).identity ≠ f.identity) →
      exec (.putPlan tag e f) s = .next (s.replied tag 0x90 [0x02, 0, 0])) ∧
    (∀ b : Byte, validBay b.toNat = true → (s.session b.toNat).state = .vacant →
      exec (.suspendBay tag b) s = .next (s.replied tag 0xA1 [0x02, 0, 0, 0]) ∧
      exec (.resumeBay tag b) s = .next (s.replied tag 0xA2 [0x02, 0, 0, 0])) ∧
    (allocationEnabled s = false →
      exec (.reallocate tag) s = .next (s.replied tag 0xA8 (0x02 :: List.replicate 9 0))) ∧
    (∀ c : Byte, validCab c.toNat = true → (s.link c.toNat).state = .isolated →
      exec (.retrain tag c) s = .next (s.replied tag 0xB1 [0x02])) ∧
    ((s.faults.stopMinute = none ∨ 0 < stopLinesAsserted s) →
      exec (.resumeSite tag) s = .next (s.replied tag 0xB7
        ([0x02, if s.faults.stopMinute.isSome then 1 else 0] ++ enc16 (s.faults.stopMinute.getD 0) ++
          [if s.faults.stopMinute.isSome then 1 else 0, BitVec.ofNat 8 (stopLinesAsserted s)]))) ∧
    (∀ (l : Byte) (o : LineOrder) (n : LineSettings) (k : Nat), validLine l.toNat = true →
      lineSettingsOf o = some n → (n.function = .curtailA ∨ n.function = .curtailB ∨ n.function = .meterPulse) →
      validLine k = true → k ≠ l.toNat → (s.line k).settings.function = n.function →
      exec (.setLine tag l o) s = .next (s.replied tag 0xB8 (0x02 :: List.replicate 10 0)))

/-- A computation of A stores R66's value and hands on the stale mark, the shed, the pass request and the change of
A (R66, R67). That the comparison with the commanded sum is made also where A has not changed is the model's reading
(log entry 8). -/
def Obligations.AvailablePowerIsHandedOn : Prop :=
  (∀ s : State,
      Ripple { s with env := s.env.fresh } (recompute s) ∧
      (availableOf s.env ≠ s.env.available → Requested s (recompute s)) ∧
      (availableOf s.env < s.env.available → inFlight s = true → (recompute s).alloc.stale = true) ∧
      (commandedSum s ≤ availableOf s.env → ∀ b, (recompute s).session b = s.session b) ∧
      (availableOf s.env = s.env.available → commandedSum s ≤ availableOf s.env → recompute s = s) ∧
      (let fresh : State := { s with env := s.env.fresh };
        let told := if availableOf s.env < s.env.available then markStale fresh else fresh;
        (availableOf s.env < commandedSum s →
          let r := shed .envelope (availableOf s.env) told
          recompute s = if availableOf s.env = s.env.available then r else examineRaises (requestPass r)) ∧
        (commandedSum s ≤ availableOf s.env → availableOf s.env ≠ s.env.available →
          recompute s = examineRaises (requestPass told))) ∧
      (s.alloc.lastOrder.Nodup → (∀ b ∈ s.alloc.lastOrder, validBay b = true) →
        (∀ b, (s.power b).commanded ≠ 0 → b ∈ s.alloc.lastOrder ∧ (s.link (cabOf b)).state = .up) →
        (∀ b, (s.power b).commanded ≤ (s.session b).grant) →
        commandedSum (recompute s) ≤ availableOf s.env)) ∧
    (∀ e : Envelope, (e.siteCeiling = none → availableOf e = 0) ∧
      (∀ v, e.siteCeiling = some v → availableOf e =
        min v (min (if e.activeBank = 0 then 65535 else (e.step e.activeBank e.walker).limit)
          (if e.effStage = 0 then 65535 else get1 e.stageLimits 65535 e.effStage)) - e.building - e.margin))

/-- A shed to the available power brings the commanded sum within it, a STOP shed every grant to 0, and each lowered
grant acts at once (R97, R98, R99, R110). That a shed of cause STOP walks the whole list whatever its deficit is the
model's reading of R97 and R98 (log entry 9), and that the lowered grants are handed over in the order of the walk
is its choice (log entry 42), as is that a head bay may then be raised within A also in an OVERDRAW shed, whose
target lies below A (log entry 48). -/
def Obligations.ShedBringsCommandedSumWithinTarget : Prop :=
  (∀ s : State, s.alloc.lastOrder.Nodup → (∀ b ∈ s.alloc.lastOrder, validBay b = true) →
      (∀ b, (s.power b).commanded ≠ 0 → b ∈ s.alloc.lastOrder ∧ (s.link (cabOf b)).state = .up) →
      (∀ b, (s.power b).commanded ≤ (s.session b).grant) →
      commandedSum (shed .envelope s.env.available s) ≤ s.env.available) ∧
    (∀ s : State, s.alloc.lastOrder.Nodup → (∀ b ∈ s.alloc.lastOrder, validBay b = true) →
      ∀ b ∈ s.alloc.lastOrder, ((shed .stop 0 s).session b).grant = 0) ∧
    (∀ (cause : ShedCause) (target : Int) (s : State),
      Ripple s (shed cause target s) ∧ Requested s (shed cause target s) ∧
      (inFlight s = true → (shed cause target s).alloc.stale = true)) ∧
    (∀ (cause : ShedCause) (target : Int) (s : State), s.alloc.lastOrder.Nodup →
      (∀ b ∈ s.alloc.lastOrder, validBay b = true) →
      let r := shed cause target s
      let fall (l : List Nat) : Nat := (l.map fun b => (s.power b).commanded - (r.session b).grant).sum
      let deficit (l : List Nat) : Int := (commandedSum s : Int) - target -
        (l.map fun b => ((s.power b).commanded : Int) - (r.session b).grant).sum
      ∃ rest visited, s.alloc.lastOrder = rest ++ visited ∧
        (∀ b, b ∉ visited → r.session b = s.session b) ∧
        (cause = .stop → rest = []) ∧ (rest ≠ [] → deficit visited ≤ 0) ∧
        (∀ pre b post, visited = pre ++ b :: post →
          (cause ≠ .stop → 0 < deficit post) ∧
          let base := min (s.session b).grant (s.power b).commanded
          let n := base - min base (deficit post).toNat
          (r.session b).grant = if n < 20 then 0 else n) ∧
        r.order = noticed [(.shed, enc8 (match cause with | .envelope => 0 | .overdraw => 1 | .stop => 2) ++
          enc16 (fall visited) ++ enc16 (commandedSum r) ++ enc8 (lowered s r).length)] s.order ∧
        (let told := ((visited.reverse.filter fun b => (s.session b).grant ≠ (r.session b).grant).foldl
            (fun u b => lowerGrant b u) { s with sessions := r.sessions } : State);
          r.bond = told.bond ∧ r.links = told.links)) ∧
    (∀ s : State, commandedSum s = (allBays.map fun b => (s.power b).commanded).sum) ∧
    (∀ (b : Nat) (s : State), validBay b = true →
      let c := cabOf b
      let g := (s.session b).grant
      let count (st : ModuleState) : Nat := (allModules.filter fun m =>
        (s.module c m).state = st ∧ (s.module c m).bay = some b).length
      let wanted := (g + 299) / 300 - count .bonded - count .closing
      let told : State := if g < (s.power b).commanded
        then putLink c ((s.link c).hand (.setpoint (posOf b) g)) (putPower b ⟨g, (s.power b).reported, some 5000⟩ s)
        else s
      ((s.link c).state ≠ .up → lowerGrant b s = s) ∧
      ((s.link c).state = .up → lowerGrant b s = examineRaises (putBondList c
        ((s.bondList c).filterMap fun e =>
          if e.bay ≠ b then some e else if wanted = 0 then none else some ⟨b, wanted⟩)
        { told with bond := { told.bond with raiseList := s.bond.raiseList.filter fun h => h ≠ b } })))

/-- The settling timer and the meter window act when they expire (R59, R62, R64). That the command for a stopped
timer changes nothing is the model's choice (log entry 2). -/
def Obligations.SettlingAndMeterWindowExpiries : Prop :=
  ∀ s : State,
    (s.env.settling.isSome = true →
      ∃ r, Ripple { s with env := ({ s.env with effStage := s.env.lineStage, settling := none } : Envelope).fresh } r ∧
        exec .settlingTimerExpiry s = .next r ∧
        r = recompute { s with env := { s.env with effStage := s.env.lineStage, settling := none } } ∧
        (r.env.available ≠ s.env.available → Requested s r)) ∧
    (s.env.settling = none → exec .settlingTimerExpiry s = .next s) ∧
    (s.env.meterWindow.isSome = true →
      let e := { s.env with
        lastWindow := some s.env.windowCount, windowCount := 0, meterWindow := some 60000 }
      ∃ r, Ripple { s with env := ({ e with building := buildingOf (meterAssigned s) e } : Envelope).fresh } r ∧
        exec .meterWindowExpiry s = .next r ∧
        r = recompute { s with env := { e with building := buildingOf (meterAssigned s) e } } ∧
        (r.env.available ≠ s.env.available → Requested s r)) ∧
    (s.env.meterWindow = none → exec .meterWindowExpiry s = .next s)

/-- The minute event advances the clock, every countdown and the schedule walker (R50, R10, R12, R16, R57, R67,
R155). The part of a second is the model's (log entry 29); that the sessions act before the walker, and the bays in
ascending order, is its reading (log entry 6), and the places of the presence markers in a SESSION notice (log entry
12). That a value absent in a state the part never reaches is read as 0 is the model's choice (log entry 32): here a
countdown. -/
def Obligations.MinuteEventAdvancesClockSessionsAndWalker : Prop :=
  ∀ s : State,
    ∃ r, Ripple { s with
        clock := ⟨(s.clock.minute + 1) % 1440, s.clock.setMarker, 0, 0⟩
        sessions := tabulate 48 fun b => (s.session b).afterMinute
        env := s.env.walked ((s.clock.minute + 1) % 1440) } r ∧
      exec .minuteEvent s = .next r ∧
      (let minute := (s.clock.minute + 1) % 1440;
        let counted : State := { s with
          clock := ⟨minute, s.clock.setMarker, 0, 0⟩, sessions := tabulate 48 fun b => (s.session b).afterMinute };
        PowerAs (match (s.env.step s.env.activeBank s.env.walker).nextStep with
          | some n => if s.env.activeBank ≠ 0 ∧ (s.env.step s.env.activeBank n).start = minute
            then recompute { counted with env := { s.env with walker := n } } else counted
          | none => counted) r) ∧
      (∃ sheds, sheds.length ≤ 1 ∧ (∀ n ∈ sheds, n.1 = .shed) ∧
        r.order = noticed (((allBays.filter fun b => (s.session b).state ≠ .overdue ∧
          (r.session b).state = .overdue).map fun b => sessionNotice 1 0 b ((s.clock.minute + 1) % 1440)
            (s.session b).afterMinute) ++ sheds) s.order) ∧
      ((∃ b, ((s.session b).state ≠ .overdue ∧ (r.session b).state = .overdue) ∨
        ((s.session b).windowOpen = false ∧ (r.session b).windowOpen = true)) → Requested s r) ∧
      (r.env.available ≠ s.env.available → Requested s r) ∧
      (r.env.available < s.env.available → (inFlight s = true ∨ (allocationEnabled s = true ∧
        ∃ b, ((s.session b).state ≠ .overdue ∧ (r.session b).state = .overdue) ∨
          ((s.session b).windowOpen = false ∧ (r.session b).windowOpen = true))) → r.alloc.stale = true)

/-- The overdraw timer's expiry records SITE_OVERDRAW, sheds and stops the timer (R69, R159, R160, R163). That the
command for a stopped timer changes nothing is the model's choice (log entry 2), as are the bytes of the FAULT
notice for a cabinet of the subject and for the isolated marker (log entries 43 and 44), and that the raise waiting
list is examined up to A, not to the target, within the shed (log entry 48). That a value absent in a state the part
never reaches is read as 0 is the model's choice (log entry 32): here a measured excess. -/
def Obligations.OverdrawExpiryRecordsAndSheds : Prop :=
  ∀ s : State,
    (s.env.overdraw.isSome = true →
      ∃ r, Ripple (evaluateAlarm { s with
          faults := { s.faults with overdrawMinute := some (s.faults.overdrawMinute.getD s.clock.minute) }
          env := { s.env with overdraw := none, excess := none } }) r ∧
        exec .overdrawTimerExpiry s = .next r ∧ Requested s r ∧
        (inFlight s = true → r.alloc.stale = true) ∧
        r.faults.alarm = alarmWanted r ∧
        (let p : State := evaluateAlarm { s with
            faults := { s.faults with overdrawMinute := some (s.faults.overdrawMinute.getD s.clock.minute) } };
          let q : State := { p with order := noticed (if s.faults.notices.nonfatal then
            [(.fault, [6, 1, 3, 0, 0, 0, mark s.faults.overdrawMinute.isNone, 0, 1, 0, 0] ++ enc16 s.clock.minute ++
              [mark (alarmWanted p)])] else []) s.order };
          let t := shed .overdraw ((s.env.available : Int) - s.env.excess.getD 0) q;
          r = { t with env := { t.env with overdraw := none, excess := none } })) ∧
    (s.env.overdraw = none → exec .overdrawTimerExpiry s = .next s)

/-- PUT PLAN writes an entry that is not CLAIMED, and amends one that is, with its session (R37, R38, R39, R40, R17,
R149). The places of the presence markers in a READY notice are the model's reading (log entry 12). That a value
absent in a state the part never reaches is read as 0 is the model's choice (log entry 32): here a claimant. -/
def Obligations.PutPlanWritesOrAmendsTheEntry : Prop :=
  (∀ (tag e : Byte) (f : PlanOrder) (k : PlanKind) (s : State), canTake s = true → validEntry e.toNat = true →
      acceptedKind f = some k →
      ((s.entry e.toNat).state ≠ .claimed →
        exec (.putPlan tag e f) s = .next ((putEntry e.toNat
          ⟨.opened, k, f.identity, planOf f, f.reuse ≠ 0, none, none⟩ s).replied tag 0x90 [0x00, e, 0x01])) ∧
      ((s.entry e.toNat).state = .claimed → (s.entry e.toNat).kind = k → (s.entry e.toNat).identity = f.identity →
        let b := (s.entry e.toNat).claimant.getD 0
        let x := s.session b
        let y := x.amended (planOf f) s.clock.minute
        let s1 := putSession b y (putEntry e.toNat { s.entry e.toNat with plan := planOf f, reuse := f.reuse ≠ 0 } s)
        ∃ r, Quiet (if y.state = .satisfied ∧ (x.state = .active ∨ x.state = .overdue)
            then { s1 with ready := s1.ready.add (readyRecordOf s1 b) } else s1) r ∧
          exec (.putPlan tag e f) s = .next (r.replied tag 0x90 [0x00, e, 0x02]) ∧
          r.order = noticed (if y.state = .satisfied ∧ (x.state = .active ∨ x.state = .overdue)
            then [readyNotice (readyRecordOf s1 b) s.ready] else []) s.order ∧
          (y.state ≠ x.state ∨ (x.windowOpen = false ∧ y.windowOpen = true) → Requested s r))) ∧
    (∀ f : PlanOrder, planOf f = ⟨f.departure.toNat, f.target.toNat, min 60 f.window.toNat,
      if f.power = 0 then 0 else min 100 (max 20 f.power.toNat), f.priority ≠ 0⟩) ∧
    (∀ (f : PlanOrder) (k : PlanKind), acceptedKind f = some k ↔
      planKindOf f.kind = some k ∧ ¬(k = .exact ∧ f.identity = 0) ∧ f.departure.toNat < 1440 ∧
        f.target.toNat ≤ 999999) ∧
    (∀ (x : Session) (p : Plan) (m : Nat),
      let y := x.amended p m
      y = { x with plan := p, countdown := y.countdown, state := y.state, windowOpen := y.windowOpen } ∧
      y.countdown = (if p.departure = x.plan.departure then x.countdown
        else some (countdownFrom p.departure m)) ∧
      y.state = (if x.state = .vacant ∨ x.state = .identifying ∨
          (x.state = .overdue ∧ p.departure = x.plan.departure) then x.state
        else if p.target ≤ x.battery then .satisfied else .active) ∧
      y.windowOpen = y.opensWindow)

/-- PUT PLAN NEXT writes as PUT PLAN would at the cursor, and advances the cursor when answered OK (R41, R38, R180).
PUT PLAN's reply is R38's; the bytes 0, 0 of its refusal after the status are the model's reading of R180 (log entry
11). -/
def Obligations.PutPlanNextWritesAtTheCursor : Prop :=
  ∀ (tag : Byte) (f : PlanOrder) (s : State), canTake s = true →
    (validEntry s.plans.cursor = true →
      let c : Byte := BitVec.ofNat 8 s.plans.cursor
      (∃ t : State, exec (.putPlan tag c f) s = .next (t.replied tag 0x90 [0x00, c, if (s.entry s.plans.cursor).state = .claimed then 0x02 else 0x01]) ∧
        exec (.putPlanNext tag f) s =
          .next (({ t with plans := { t.plans with cursor := s.plans.cursor + 1 } } : State).replied tag 0x92
            [0x00, c, c + 1])) ∨
      (∃ st : Byte, (st = 0x01 ∨ st = 0x02) ∧ exec (.putPlan tag c f) s = .next (s.replied tag 0x90 [st, 0, 0]) ∧
        exec (.putPlanNext tag f) s = .next (s.replied tag 0x92 [st, c, c]))) ∧
    (s.plans.cursor = 97 → exec (.putPlanNext tag f) s = .next (s.replied tag 0x92 [0x01, 97, 97])) ∧
    (∀ e : Byte, validEntry e.toNat = true → exec (.setPlanCursor tag e) s =
      .next (({ s with plans := { s.plans with cursor := e.toNat } } : State).replied tag 0x91 [0x00, e]))

/-- RELEASE PLAN, SET GROUP MASK and SET DEFAULT PLAN change what they name and nothing else (R42, R18, R44, R45,
R19). -/
def Obligations.ReleaseMaskAndDefaultPlanOrders : Prop :=
  ∀ (tag : Byte) (s : State), canTake s = true →
    (∀ e : Byte, validEntry e.toNat = true →
      ∃ t : State, exec (.releasePlan tag e) s =
          .next (t.replied tag 0x93 [0x00, BitVec.ofNat 8 (s.entry e.toNat).state.code]) ∧
        t = { s with plans := { s.plans with entries := t.plans.entries }, sessions := t.sessions } ∧
        t.entry e.toNat = PlanEntry.free ∧ (∀ k, k ≠ e.toNat → t.entry k = s.entry k) ∧
        (∀ b, validBay b = true → t.session b =
          if (s.entry e.toNat).state = .claimed ∧ (s.entry e.toNat).claimant = some b
          then { s.session b with planLink := none } else s.session b)) ∧
    (∀ (g : Byte) (m : U24), 1 ≤ g.toNat → g.toNat ≤ 4 →
      ∃ t : State, exec (.setGroupMask tag g m) s = .next (t.replied tag 0x95 (0x00 :: be24 m)) ∧
        t = { s with plans := { s.plans with masks := t.plans.masks } } ∧
        ∀ k, get1 t.plans.masks 0 k = if k = g.toNat then m else get1 s.plans.masks 0 k) ∧
    (∀ f : DefaultOrder, f.departure.toNat < 1440 → f.target.toNat ≤ 999999 →
      exec (.setDefaultPlan tag f) s = .next (({ s with plans := { s.plans with
        defaultPlan := ⟨f.departure.toNat, f.target.toNat, min 60 f.window.toNat,
          if f.power = 0 then 0 else min 100 (max 20 f.power.toNat), f.priority ≠ 0⟩ } } : State).replied
        tag 0x96 [0x00]))

/-- A match chooses the lowest-numbered OPEN entry of the top kind, or the default plan (R30, R32). -/
def Obligations.MatchChoosesLowestOpenEntryOfTopKind : Prop :=
  (∀ (s : State) (v : U24) (e : Nat), matchEntry s v = some e →
      validEntry e = true ∧ (s.entry e).state = .opened ∧ entryMatches s (s.entry e) v = true ∧
      (∀ k, validEntry k = true → (s.entry k).state ≠ .free → entryMatches s (s.entry k) v = true →
        (s.entry e).kind.code ≤ (s.entry k).kind.code) ∧
      (∀ k, validEntry k = true → k < e → (s.entry k).state = .opened → (s.entry k).kind = (s.entry e).kind →
        entryMatches s (s.entry k) v = false)) ∧
    (∀ (s : State) (v : U24), matchEntry s v = none →
      ∀ e, validEntry e = true → (s.entry e).state = .opened → entryMatches s (s.entry e) v = true →
        ∃ k, validEntry k = true ∧ (s.entry k).state ≠ .free ∧ entryMatches s (s.entry k) v = true ∧
          (s.entry k).kind.code < (s.entry e).kind.code) ∧
    (∀ (s : State) (x : PlanEntry) (v : U24), entryMatches s x v = true ↔
      ∀ i, i < 24 → (maskOf s x.kind).getLsbD i = false → x.identity.getLsbD i = v.getLsbD i) ∧
    (∀ s : State, maskOf s .exact = 0 ∧ maskOf s .group1 = get1 s.plans.masks 0 1 ∧
      maskOf s .group2 = get1 s.plans.masks 0 2 ∧ maskOf s .group3 = get1 s.plans.masks 0 3 ∧
      maskOf s .group4 = get1 s.plans.masks 0 4) ∧
    (∀ g : Byte, planKindOf g = match g.toNat with
      | 0 => some .exact | 1 => some .group1 | 2 => some .group2 | 3 => some .group3 | 4 => some .group4 | _ => none)

/-- SUSPEND BAY adds the HOST hold and withdraws the grant, and RESUME BAY removes the hold (R23, R25, R26, R110).
-/
def Obligations.SuspendAndResumeBay : Prop :=
  ∀ (tag b : Byte) (s : State), canTake s = true → validBay b.toNat = true →
    (s.session b.toNat).state ≠ .vacant →
    let x := s.session b.toNat
    (x.holds.host = true →
      exec (.suspendBay tag b) s = .next (s.replied tag 0xA1 (0x00 :: (enc16 x.serial ++ enc8 x.holds.code))) ∧
      ∃ r, Quiet (putSession b.toNat { x with holds := { x.holds with host := false } } s) r ∧ Requested s r ∧
        exec (.resumeBay tag b) s = .next (r.replied tag 0xA2
          (0x00 :: (enc16 x.serial ++ enc8 ({ x.holds with host := false } : Holds).code))) ∧
        (r.session b.toNat).grant = x.grant) ∧
    (x.holds.host = false →
      exec (.resumeBay tag b) s = .next (s.replied tag 0xA2 (0x00 :: (enc16 x.serial ++ enc8 x.holds.code))) ∧
      let y := if x.holds.any then { x with holds := { x.holds with host := true } }
        else { x with holds := { x.holds with host := true }, grant := 0, short := false, preShort := false }
      ∃ r, Ripple (putSession b.toNat y s) r ∧ Requested s r ∧ r.session b.toNat = y ∧
        (let told := if x.holds.any then s else lowerGrant b.toNat (putSession b.toNat y s);
          r.bond = told.bond ∧ r.links = told.links) ∧
        exec (.suspendBay tag b) s = .next (r.replied tag 0xA1
          (0x00 :: (enc16 x.serial ++ enc8 ({ x.holds with host := true } : Holds).code))))

/-- A PLUG present opens a session on a VACANT bay, and a PLUG absent closes an open one (R2, R20, R21, R36, R139,
R134, R154, R156, R110). The places of the presence markers in a SESSION notice are the model's reading (log entry
12). -/
def Obligations.PlugReportsOpenAndCloseSessions : Prop :=
  ∀ (c : Nat) (p : Byte) (s : State), validCab c = true → validPosition p.toNat = true →
    let b := bayAt c p.toNat
    let x := s.session b
    let heard := goodFrame c s
    let seen (v : Bool) := putLinkBay b { s.linkBay b with present := v } heard
    ((s.link c).serves = false →
      exec (.plug c p 1) s = .next heard ∧ exec (.plug c p 0) s = .next heard) ∧
    ((s.link c).serves = true →
      (x.state = .vacant →
        exec (.plug c p 0) s = .next (seen false) ∧
        ∃ r, Quiet (putSession b { Session.vacant ((x.serial + 1) % 65536) with
              state := .identifying
              opened := s.clock.minute
              idTimer := some 20000
              holds := ⟨false, (s.link c).state = .isolated, false, s.faults.stopMinute.isSome⟩ }
            (putLinkBay b { s.linkBay b with present := true, lastBattery := 0, lastAuxiliary := 0 } heard)) r ∧
          exec (.plug c p 1) s = .next r ∧ r.alloc = s.alloc ∧
          r.order = noticed [openedNotice b ((x.serial + 1) % 65536) s.clock.minute] s.order) ∧
      (x.state ≠ .vacant →
        exec (.plug c p 1) s = .next (seen true) ∧
        ∃ r, Ripple (putSession b (Session.vacant x.serial) (match x.planLink with
              | none => seen false
              | some e => putEntry e (if (s.entry e).reuse
                  then { s.entry e with state := .opened, claimant := none }
                  else { s.entry e with
                    state := .spent
                    claimant := none
                    outcome := some ⟨b, x.identity, x.battery, x.auxiliary, s.clock.minute,
                      x.state ≠ .identifying && decide (x.plan.target ≤ x.battery)⟩ }) (seen false))) r ∧
          exec (.plug c p 0) s = .next r ∧ Requested s r ∧ r.session b = Session.vacant x.serial ∧
          (let told := lowerGrant b (putSession b (Session.vacant x.serial) (seen false));
            r.bond = told.bond ∧ r.links = told.links) ∧
          r.order = noticed [leftNotice 0 b s.clock.minute x] s.order))

/-- An identity or the identity timer binds an IDENTIFYING session (R3, R4, R5, R8, R12, R33, R149). That the expiry
for a stopped identity timer changes nothing is the model's choice (log entry 2); the places of the presence markers
in a READY notice are its reading (log entry 12). -/
def Obligations.IdentityAndTimerBindASession : Prop :=
  (∀ (c : Nat) (p : Byte) (v : U24) (a : U16) (s : State), validCab c = true → validPosition p.toNat = true →
      let b := bayAt c p.toNat
      let x := s.session b
      ((s.link c).serves = false ∨ x.state = .vacant → exec (.identity c p v a) s = .next (goodFrame c s)) ∧
      ((s.link c).serves = true → x.state = .identifying →
        (v = 0 → exec (.identity c p v a) s =
          .next (putSession b { x with acceptance := min a.toNat 3000 } (goodFrame c s))) ∧
        (v ≠ 0 →
          let plan := match matchEntry s v with
            | some e => (s.entry e).plan
            | none => s.plans.defaultPlan
          let y := ({ x with acceptance := min a.toNat 3000, identity := some v } : Session).rebound plan
            (matchEntry s v) s.clock.minute
          let s1 := putSession b y (match matchEntry s v with
            | some e => putEntry e { s.entry e with state := .claimed, claimant := some b } (goodFrame c s)
            | none => goodFrame c s)
          ∃ r, Quiet (if y.state = .satisfied
              then { s1 with ready := s1.ready.add (readyRecordOf s1 b) } else s1) r ∧
            exec (.identity c p v a) s = .next r ∧ Requested s r ∧
            r.order = noticed (if y.state = .satisfied then [readyNotice (readyRecordOf s1 b) s.ready] else [])
              s.order))) ∧
    (∀ (b : Nat) (s : State), validBay b = true →
      ((s.session b).state = .identifying → (s.session b).idTimer.isSome = true →
        let y := (s.session b).rebound s.plans.defaultPlan none s.clock.minute
        let s1 := putSession b y s
        ∃ r, Quiet (if y.state = .satisfied
            then { s1 with ready := s1.ready.add (readyRecordOf s1 b) } else s1) r ∧
          exec (.identityTimerExpiry b) s = .next r ∧ Requested s r ∧
          r.order = noticed (if y.state = .satisfied then [readyNotice (readyRecordOf s1 b) s.ready] else [])
            s.order) ∧
      ((s.session b).state ≠ .identifying ∨ (s.session b).idTimer = none →
        exec (.identityTimerExpiry b) s = .next s)) ∧
    (∀ (x : Session) (plan : Plan) (link : Option Nat) (m : Nat), x.rebound plan link m = { x with
      plan := plan
      planLink := link
      countdown := some (countdownFrom plan.departure m)
      state := if plan.target ≤ x.battery then .satisfied else .active
      idTimer := none
      windowOpen := 0 < plan.power && 0 < plan.window && decide (countdownFrom plan.departure m ≤ plan.window) })

/-- A late identity of an anonymous session is recorded and matched, and a repeated one updates the acceptance alone
(R6, R7, R8, R33, R149). The places of the presence markers in a READY notice are the model's reading (log entry
12). -/
def Obligations.LateAndRepeatedIdentities : Prop :=
  ∀ (c : Nat) (p : Byte) (v : U24) (a : U16) (s : State), validCab c = true → validPosition p.toNat = true →
    (s.link c).serves = true →
    let b := bayAt c p.toNat
    let x := s.session b
    let acceptance := min a.toNat 3000
    (x.state = .active ∨ x.state = .satisfied ∨ x.state = .overdue) →
    (x.identity ≠ none ∨ v = 0 →
      ∃ r, Quiet (putSession b { x with acceptance := acceptance } (goodFrame c s)) r ∧
        exec (.identity c p v a) s = .next r ∧ (r.session b).grant = x.grant ∧
        (acceptance + 20 < x.acceptance ∨ x.acceptance + 20 < acceptance → Requested s r) ∧
        (acceptance ≤ x.acceptance + 20 → x.acceptance ≤ acceptance + 20 → r.alloc = s.alloc)) ∧
    (x.identity = none → v ≠ 0 →
      (x.state = .overdue ∨ matchEntry s v = none →
        ∃ r, Quiet (putSession b { x with acceptance := acceptance, identity := some v } (goodFrame c s)) r ∧
          exec (.identity c p v a) s = .next r ∧ (r.session b).grant = x.grant ∧
          (acceptance + 20 < x.acceptance ∨ x.acceptance + 20 < acceptance → Requested s r) ∧
          (acceptance ≤ x.acceptance + 20 → x.acceptance ≤ acceptance + 20 → r.alloc = s.alloc)) ∧
      (∀ e, x.state ≠ .overdue → matchEntry s v = some e →
        let y := ({ x with acceptance := acceptance, identity := some v } : Session).rebound (s.entry e).plan
          (some e) s.clock.minute
        let s1 := putSession b y
          (putEntry e { s.entry e with state := .claimed, claimant := some b } (goodFrame c s))
        ∃ r, Quiet (if y.state = .satisfied ∧ x.state = .active
            then { s1 with ready := s1.ready.add (readyRecordOf s1 b) } else s1) r ∧
          exec (.identity c p v a) s = .next r ∧ Requested s r ∧
          r.order = noticed (if y.state = .satisfied ∧ x.state = .active
            then [readyNotice (readyRecordOf s1 b) s.ready] else []) s.order))

/-- A STATUS in service updates values, energies and powers, tests ramps and releases, raises, records faults and
supervises overdraw (R138, R8, R13, R14, R20, R23, R36, R68, R105, R110, R148, R159). The places of the presence
markers in the notices are the model's reading (log entry 12), as is the ascending order of the bays whose modules
are released (log entry 10); the cabinet byte of a FAULT notice is its choice (log entry 43). That a value absent in
a state the part never reaches is read as 0 is the model's choice (log entry 32): here a countdown in a ready
record. -/
def Obligations.StatusInServiceIsTaken : Prop :=
  (∀ (c : Nat) (m : StatusMsg) (s : State), validCab c = true → validStatus m = true → (s.link c).serves = true →
    let gain (count last : Nat) : Nat := if last ≤ count then count - last else count
    let closes (b : Nat) : Bool := (s.session b).state ≠ .vacant && (s.linkBay b).present &&
      (blockOf m (posOf b)).presence = 0
    let opens (b : Nat) : Bool := (s.session b).state = .vacant && !(s.linkBay b).present &&
      (blockOf m (posOf b)).presence ≠ 0
    let now (b : Nat) : Session := if closes b then Session.vacant (s.session b).serial
      else if opens b then (s.session b).reopened b s else s.session b
    let shows (b : Nat) : Bool := (blockOf m (posOf b)).insulation ≠ 0 && !(s.linkBay b).insulation
    let held (b : Nat) : Session := if shows b then (now b).held .fault else now b
    ∃ t, exec (.status c m) s = .next t ∧ (t.link c).silence = some 2000 ∧
      (∀ b, validBay b = true → cabOf b = c → t.session b = (held b).counted (blockOf m (posOf b))
        (if opens b then 0 else (s.linkBay b).lastBattery) (if opens b then 0 else (s.linkBay b).lastAuxiliary)) ∧
      t.plans = ((baysOf c).foldl (fun u b => if closes b then endedClaim b s.clock.minute (s.session b) u else u)
        s).plans ∧
      t.ready = readied c s t s.ready ∧
      AllocKept s.alloc t.alloc ∧
      (let asks (b : Nat) : Prop := closes b = true ∨
          ((now b).state ≠ .vacant ∧ shows b = true ∧ (now b).holds.fault = false) ∨
          ((s.session b).state = .active ∧ (t.session b).state = .satisfied) ∨
          (closes b = false ∧ (s.session b).newAcceptance (blockOf m (posOf b)));
        ((∃ b ∈ baysOf c, asks b) → Requested s t) ∧ ((∀ b ∈ baysOf c, ¬ asks b) → t.alloc = s.alloc)) ∧
      (∀ l, (t.line l).settings = (s.line l).settings ∧ (t.line l).pin = (s.line l).pin ∧
        (t.line l).level = (s.line l).level ∧ (t.line l).filter = (s.line l).filter) ∧
      (s.faults.alarm = alarmWanted s → LinesRealarmed s t) ∧
      (∀ p, validPosition p = true →
        let b := bayAt c p
        let k := blockOf m p
        let x := s.session b
        let battery := min 999999 (x.battery + gain k.battery.toNat (s.linkBay b).lastBattery)
        t.linkBay b = ⟨k.battery.toNat, k.auxiliary.toNat, k.presence ≠ 0, k.identity, k.insulation ≠ 0,
          k.derate ≠ 0⟩ ∧
        (t.power b).reported = k.power.toNat ∧
        (x.state ≠ .vacant → ((s.linkBay b).present = true → k.presence ≠ 0) →
          (t.session b).battery = battery ∧
          (t.session b).auxiliary =
            min 999999 (x.auxiliary + gain k.auxiliary.toNat (s.linkBay b).lastAuxiliary) ∧
          (t.session b).acceptance = min k.acceptance.toNat 3000 ∧
          (t.session b).state = (if x.state = .active ∧ x.plan.target ≤ battery then .satisfied else x.state) ∧
          (t.session b).serial = x.serial ∧ (t.session b).identity = x.identity ∧ (t.session b).plan = x.plan ∧
          (t.session b).planLink = x.planLink ∧ (t.session b).countdown = x.countdown ∧
          (t.session b).windowOpen = x.windowOpen ∧ (t.session b).idTimer = x.idTimer ∧
          (t.session b).holds = { x.holds with
            fault := x.holds.fault || (k.insulation ≠ 0 && !(s.linkBay b).insulation) }) ∧
        (x.state ≠ .vacant → (s.linkBay b).present = true → k.presence = 0 →
          t.session b = Session.vacant x.serial) ∧
        (x.state = .vacant → ((s.linkBay b).present = false → k.presence = 0) → t.session b = x) ∧
        (x.state = .vacant → (s.linkBay b).present = false → k.presence ≠ 0 →
          (t.session b).state = .identifying ∧ (t.session b).serial = (x.serial + 1) % 65536 ∧
          (t.session b).battery = min 999999 k.battery.toNat)) ∧
      (∀ b, cabOf b ≠ c → SessionKept (s.session b) (t.session b) ∧ (t.power b).reported = (s.power b).reported) ∧
      t.clock = s.clock ∧ t.pending = s.pending ∧ OverdrawEvaluated s t ∧
      (∀ n, validModule n = true → t.module c n =
        match (s.module c n).state, (s.module c n).bay with
        | .ramping, some b => if (s.link c).state = .up ∧ cabOf b = c ∧ validBay b = true ∧
            (blockOf m (posOf b)).power.toNat ≤ 300 * bonded s b then ⟨.opening, none, some 2000⟩ else s.module c n
        | _, _ => s.module c n) ∧
      (let told (u : State) (b : Nat) : State :=
          let u1 := if closes b then lowerGrant b (putSession b (now b) u) else putSession b (now b) u
          if (now b).state ≠ .vacant ∧ (now b).holds.any = false ∧ shows b = true
          then lowerGrant b (putSession b (held b) u1) else u1;
        let u := takeReported c (fun p => (blockOf m p).power.toNat)
          ((baysOf c).foldl told (putLink c { s.link c with bays := (t.link c).bays, silence := some 2000 } s));
        t.bond = u.bond ∧ t.links = u.links) ∧
      (let fault (old : Option FirstCode) (code : FaultCode) (seen : Nat → Bool) : Option FirstCode :=
          match old with
          | some f => some f
          | none => ((baysOf c).find? seen).map fun b => ⟨code, ⟨.bay, b⟩⟩;
        let derate (b : Nat) : Bool := (blockOf m (posOf b)).derate ≠ 0 && !(s.linkBay b).derate;
        t.faults = { s.faults with
          cabinets := t.faults.cabinets
          alarm := if (baysOf c).any (fun b => shows b || derate b) then alarmWanted t else s.faults.alarm } ∧
        t.cabFaults c = { s.cabFaults c with
          nonfatal := fault (s.cabFaults c).nonfatal .bayInsulation shows
          correctable := fault (s.cabFaults c).correctable .bayDerate derate } ∧
        ∀ k, k ≠ c → t.cabFaults k = s.cabFaults k) ∧
      (∃ l, t.order = noticed l s.order ∧ (∀ n ∈ l, n.1 = .session ∨ n.1 = .ready ∨ n.1 = .fault) ∧
        ∀ p, validPosition p = true →
          let b := bayAt c p
          let k := blockOf m p
          let x := s.session b
          let battery := min 999999 (x.battery + gain k.battery.toNat (s.linkBay b).lastBattery)
          (x.state = .vacant → (s.linkBay b).present = false → k.presence ≠ 0 →
            openedNotice b ((x.serial + 1) % 65536) s.clock.minute ∈ l) ∧
          (x.state ≠ .vacant → (s.linkBay b).present = true → k.presence = 0 →
            leftNotice 0 b s.clock.minute x ∈ l) ∧
          (x.state = .active → ((s.linkBay b).present = true → k.presence ≠ 0) → x.plan.target ≤ battery →
            ∃ list, readyNotice ⟨b, x.identity, x.planLink, s.clock.minute, battery, x.countdown.getD 0⟩ list ∈ l) ∧
          (k.insulation ≠ 0 → (s.linkBay b).insulation = false → s.faults.notices.nonfatal = true →
            ∃ tail, (.fault, faultHead c .bayInsulation ⟨.bay, b⟩ ++ tail) ∈ l) ∧
          (k.derate ≠ 0 → (s.linkBay b).derate = false → s.faults.notices.correctable = true →
            ∃ tail, (.fault, faultHead c .bayDerate ⟨.bay, b⟩ ++ tail) ∈ l))) ∧
    (∀ (c : Nat) (drawn : Nat → Nat) (s : State), validCab c = true →
      let count (b : Nat) : Nat := (allModules.filter fun n =>
        (s.module c n).state = .bonded ∧ (s.module c n).bay = some b).length
      let opens (n b : Nat) : Bool := (s.link c).state = .up && (s.module c n).state = .ramping &&
        (s.module c n).bay = some b && decide (drawn (posOf b) ≤ 300 * count b)
      let releases := (baysOf c).flatMap fun b => (allModules.filter fun n => opens n b).map CabMsg.release
      ∃ q : State, takeReported c drawn s = examineRaises q ∧
        q = { putLink c ((s.link c).handAll releases) s with
          bond := { s.bond with modules := q.bond.modules, bays := q.bond.bays } } ∧
        (∀ b, validBay b = true → q.power b = if cabOf b ≠ c then s.power b else ⟨(s.power b).commanded,
          drawn (posOf b), if (s.link c).state = .up ∧ drawn (posOf b) ≤ (s.power b).commanded + 10 then none
            else (s.power b).ramp⟩) ∧
        ∀ k n, validCab k = true → validModule n = true → q.module k n =
          if k = c ∧ (baysOf c).any (fun b => opens n b) = true then ⟨.opening, none, some 2000⟩
          else s.module k n)

/-- The adoption arrival takes modules, bays and sessions back as the cabinet reports them (R137, R125, R103, R22,
R136, R13, R23, R33, R36, R68, R105, R159). The clause over the bond controller has the raise waiting list examined
for the ended lost hold at once, before the modules are adopted and the reported powers taken: the model's reading
(log entry 15), as are the ascending order in which the modules are adopted, and in which the bays' faults, energies
and records are taken in steps 3 and 4 of R137 (log entry 10) and the places of the presence markers in the notices
(log entry 12). That a value absent in a state the part never reaches is read as 0 is the model's choice (log entry
32): here a countdown in a ready record. -/
def Obligations.AdoptionTakesTheCabinetBack : Prop :=
  ∀ (c : Nat) (m : StatusMsg) (s : State), validCab c = true → validStatus m = true →
    (s.link c).state = .up → (s.link c).adopted = false →
    let gain (count last : Nat) : Nat := if last ≤ count then count - last else count
    let here (b : Nat) : Bool := (blockOf m (posOf b)).presence ≠ 0
    let other (b : Nat) : Bool := let x := s.session b
      decide (x.state ≠ .vacant ∧ x.state ≠ .identifying ∧ x.identity.getD 0 ≠ (blockOf m (posOf b)).identity)
    let closes (b : Nat) : Bool := (s.session b).state ≠ .vacant && (!here b || other b)
    let opens (b : Nat) : Bool := here b && ((s.session b).state = .vacant || other b)
    let now (b : Nat) : Session :=
      let x := s.session b
      if opens b then x.reopened b s
      else if closes b then Session.vacant x.serial
      else if x.state = .vacant then x
      else { x with holds := { x.holds with link := false } }
    let named (b : Nat) : Bool := (now b).state = .identifying && (blockOf m (posOf b)).identity ≠ 0
    let shows (b : Nat) : Bool := (blockOf m (posOf b)).insulation ≠ 0 && !(s.linkBay b).insulation
    let took (u : State) (b : Nat) : State :=
      let u1 := if closes b then endedClaim b s.clock.minute (s.session b) u else u
      let hit := matchEntry u1 (blockOf m (posOf b)).identity
      let plan := match hit with
        | some e => (u1.entry e).plan
        | none => u1.plans.defaultPlan
      let y := ({ now b with identity := some (blockOf m (posOf b)).identity } : Session).rebound plan hit
        s.clock.minute
      let u2 := putSession b y (match hit with
        | some e => putEntry e { u1.entry e with state := .claimed, claimant := some b } u1
        | none => u1)
      if named b then (if y.state = .satisfied then { u2 with ready := u2.ready.add (readyRecordOf u2 b) } else u2)
      else putSession b (now b) u1
    let w := (baysOf c).foldl took s
    let held (b : Nat) : Session := if shows b then (w.session b).held .fault else w.session b
    ∃ t, exec (.status c m) s = .next t ∧
      (∀ b, validBay b = true → cabOf b = c → t.session b = (held b).counted (blockOf m (posOf b))
        (if opens b then 0 else (s.linkBay b).lastBattery) (if opens b then 0 else (s.linkBay b).lastAuxiliary)) ∧
      t.plans = w.plans ∧ t.ready = readied c w t w.ready ∧
      t.clock = s.clock ∧ t.pending = s.pending ∧ OverdrawEvaluated s t ∧
      AllocKept s.alloc t.alloc ∧
      (let well (x : ModuleState) : Bool :=
          x = .free || x = .closing || x = .bonded || x = .ramping || x = .opening;
        let asks (b : Nat) : Prop := closes b = true ∨ named b = true ∨
          (here b = true ∧ opens b = false ∧ (s.session b).holds.link = true) ∨
          ((w.session b).state ≠ .vacant ∧ shows b = true ∧ (w.session b).holds.fault = false) ∨
          ((w.session b).state = .active ∧ (t.session b).state = .satisfied) ∨
          (closes b = false ∧ (s.session b).newAcceptance (blockOf m (posOf b)));
        let moved : Prop := ∃ k, validModule k = true ∧ k ∈ (s.link c).installed ∧
          well (s.module c k).state ≠ well (t.module c k).state;
        ((moved ∨ ∃ b ∈ baysOf c, asks b) → Requested s t) ∧
        (¬ moved → (∀ b ∈ baysOf c, ¬ asks b) → t.alloc = s.alloc)) ∧
      (∀ l, (t.line l).settings = (s.line l).settings ∧ (t.line l).pin = (s.line l).pin ∧
        (t.line l).level = (s.line l).level ∧ (t.line l).filter = (s.line l).filter) ∧
      (s.faults.alarm = alarmWanted s → LinesRealarmed s t) ∧
      (t.link c).state = .up ∧ (t.link c).adopted = true ∧ (t.link c).lostHold = none ∧
      (t.link c).lostTimer = none ∧ (t.link c).silence = some 2000 ∧
      (∀ k, validModule k = true → k ∈ (s.link c).installed →
        t.module c k = (let e := get1 m.modules 0 k
          if e = 0 then ⟨.free, none, none⟩
          else if e = 0xFF then ⟨.faulted, none, none⟩
          else ⟨.bonded, some (bayAt c e.toNat), none⟩)) ∧
      (∀ p, validPosition p = true →
        let b := bayAt c p
        let k := blockOf m p
        let x := s.session b
        t.linkBay b = ⟨k.battery.toNat, k.auxiliary.toNat, k.presence ≠ 0, k.identity, k.insulation ≠ 0,
          k.derate ≠ 0⟩ ∧
        (t.power b).reported = k.power.toNat ∧
        (k.presence = 0 → (t.session b) = Session.vacant x.serial ∨ (x.state = .vacant ∧ t.session b = x)) ∧
        (k.presence ≠ 0 → (t.session b).state ≠ .vacant) ∧
        (k.presence ≠ 0 → x.state = .vacant → (t.session b).serial = (x.serial + 1) % 65536) ∧
        (k.presence ≠ 0 → x.state = .identifying →
          (t.session b).serial = x.serial ∧ (t.session b).holds.link = false ∧
          (k.identity ≠ 0 → (t.session b).identity = some k.identity ∧ (t.session b).state ≠ .identifying)) ∧
        (k.presence ≠ 0 → x.state ≠ .vacant → x.state ≠ .identifying → x.identity.getD 0 = k.identity →
          (t.session b).serial = x.serial ∧ (t.session b).plan = x.plan ∧ (t.session b).planLink = x.planLink ∧
          (t.session b).countdown = x.countdown ∧ (t.session b).holds.link = false ∧
          (t.session b).battery =
            min 999999 (x.battery + gain k.battery.toNat (s.linkBay b).lastBattery)) ∧
        (k.presence ≠ 0 → x.state ≠ .vacant → x.state ≠ .identifying → x.identity.getD 0 ≠ k.identity →
          (t.session b).serial = (x.serial + 1) % 65536 ∧
          (t.session b).battery = min 999999 k.battery.toNat ∧
          (t.session b).identity = (if k.identity = 0 then none else some k.identity))) ∧
      (∀ b, cabOf b ≠ c → SessionKept (s.session b) (t.session b) ∧ (t.power b).reported = (s.power b).reported) ∧
      (let found (u : State) (k : Nat) : State :=
          if k ∈ (s.link c).installed then putModule c k (t.module c k) u else u;
        let seen (u : State) (b : Nat) : State :=
          putSession b (now b) (if closes b then lowerGrant b (putSession b (Session.vacant (s.session b).serial) u) else u);
        let insulated (u : State) (b : Nat) : State :=
          if (now b).state ≠ .vacant ∧ (now b).holds.any = false ∧ shows b = true
          then lowerGrant b (putSession b ((now b).held .fault) u) else u;
        let back := putLink c { s.link c with
          bays := (t.link c).bays, silence := some 2000, adopted := true, lostHold := none, lostTimer := none } s;
        let u := takeReported c (fun p => (blockOf m p).power.toNat) ((baysOf c).foldl insulated ((baysOf c).foldl seen
          (allModules.foldl found (if (s.link c).lostHold.isSome then examineRaises back else back))));
        t.bond = u.bond ∧ t.links = u.links) ∧
      (let fault (old : Option FirstCode) (code : FaultCode) (seen : Nat → Bool) : Option FirstCode :=
          match old with
          | some f => some f
          | none => ((baysOf c).find? seen).map fun b => ⟨code, ⟨.bay, b⟩⟩;
        let derate (b : Nat) : Bool := (blockOf m (posOf b)).derate ≠ 0 && !(s.linkBay b).derate;
        t.faults = { s.faults with
          cabinets := t.faults.cabinets
          alarm := if (baysOf c).any (fun b => shows b || derate b) then alarmWanted t else s.faults.alarm } ∧
        t.cabFaults c = { s.cabFaults c with
          nonfatal := fault (s.cabFaults c).nonfatal .bayInsulation shows
          correctable := fault (s.cabFaults c).correctable .bayDerate derate } ∧
        ∀ k, k ≠ c → t.cabFaults k = s.cabFaults k) ∧
      (∃ l, t.order = noticed l s.order ∧ (∀ n ∈ l, n.1 = .session ∨ n.1 = .ready ∨ n.1 = .fault) ∧
        ∀ p, validPosition p = true →
          let b := bayAt c p
          let k := blockOf m p
          let x := s.session b
          let other := x.state ≠ .vacant ∧ x.state ≠ .identifying ∧ x.identity.getD 0 ≠ k.identity
          (k.presence = 0 → x.state ≠ .vacant → leftNotice 1 b s.clock.minute x ∈ l) ∧
          (k.presence ≠ 0 → other → leftNotice 1 b s.clock.minute x ∈ l) ∧
          (k.presence ≠ 0 → x.state = .vacant ∨ other →
            openedNotice b ((x.serial + 1) % 65536) s.clock.minute ∈ l))

/-- REALLOCATE and the period timer request a pass, which starts with a snapshot of the state (R101, R75, R76, R77,
R79). The byte that says whether a pass was started is the model's reading (log entry 27), and that the command for
a stopped timer changes nothing is the model's choice (log entry 2). -/
def Obligations.ReallocateAndPeriodExpiryRequestAPass : Prop :=
  (∀ (tag : Byte) (s : State), canTake s = true → allocationEnabled s = true →
      let r : State := if inFlight s then { s with alloc := { s.alloc with again := true } }
        else { s with alloc := { s.alloc with
          snapshot := some (takeSnapshot s), again := false, stale := false,
          periodTimer := some (s.alloc.period * 1000) } }
      exec (.reallocate tag) s = .next (r.replied tag 0xA8
        ([0x00, if inFlight s then 0 else 1, 1, if r.alloc.again then 1 else 0, if r.alloc.stale then 1 else 0] ++
          enc16 s.alloc.period ++ enc16 ((r.alloc.periodTimer.getD 0 + 999) / 1000) ++
          enc8 s.alloc.lastOrder.length))) ∧
    (∀ s : State, s.alloc.periodTimer.isSome = true →
      ∃ r, exec .periodTimerExpiry s = .next r ∧
        r = { s with alloc := { s.alloc with
          snapshot := r.alloc.snapshot, again := r.alloc.again, stale := r.alloc.stale,
          periodTimer := some (s.alloc.period * 1000) } } ∧
        Requested s r ∧
        (inFlight s = true → r.alloc.snapshot = s.alloc.snapshot ∧ r.alloc.stale = s.alloc.stale) ∧
        (inFlight s = false → allocationEnabled s = true → r.alloc.snapshot = some (takeSnapshot s)) ∧
        (allocationEnabled s = false → r.alloc.snapshot = s.alloc.snapshot ∧ r.alloc.again = s.alloc.again)) ∧
    (∀ s : State, s.alloc.periodTimer = none → exec .periodTimerExpiry s = .next s) ∧
    (∀ s : State,
      let p := takeSnapshot s
      p.available = s.env.available ∧
      (∀ c, validCab c = true → p.ceiling c = (s.ceiling c).steps ∧
        (get1 p.linkUp false c = true ↔ (s.link c).state = .up) ∧
        get1 p.healthy 0 c = (allModules.filter fun m => (s.module c m).state = .free ∨
          (s.module c m).state = .closing ∨ (s.module c m).state = .bonded ∨ (s.module c m).state = .ramping ∨
          (s.module c m).state = .opening).length) ∧
      ∀ b, validBay b = true →
        let x := s.session b
        p.bay b = {
          state := x.state, serial := x.serial
          unheld := !(x.holds.host || x.holds.fault || x.holds.link || x.holds.stop)
          countdown := x.countdown, target := x.plan.target, battery := x.battery, acceptance := x.acceptance
          windowOpen := x.windowOpen, power := x.plan.power, priority := x.plan.priority }) ∧
    (∀ s : State, allocationEnabled s = true ↔
      s.clock.setMarker = true ∧ s.env.siteCeiling.isSome = true ∧ s.faults.stopMinute = none)

/-- A completed pass is discarded when disabled, stale or over the limits, and published otherwise (R93, R94, R95,
R96, R107, R108, R109, R118, R113). That the command with no pass in flight changes nothing is the model's choice
(log entry 40); that the reductions of one cabinet are sent in ascending order of the bays is its reading (log entry
10). -/
def Obligations.PassCompletionPublishesOrDiscards : Prop :=
  ∀ s : State,
    let restarted : State := { s with alloc := { s.alloc with
      snapshot := some (takeSnapshot s), again := false, stale := false,
      periodTimer := some (s.alloc.period * 1000) } }
    (s.alloc.snapshot = none → exec .passComplete s = .next s) ∧
    (∀ p, s.alloc.snapshot = some p →
      (allocationEnabled s = false →
        exec .passComplete s =
          .next { s with alloc := { s.alloc with snapshot := none, again := false, stale := false } }) ∧
      (allocationEnabled s = true → s.alloc.stale = true → exec .passComplete s = .next restarted) ∧
      (allocationEnabled s = true → (s.env.available < (passResult p).total ∨
          ∃ c, validCab c = true ∧ (s.ceiling c).steps < ((baysOf c).map (passResult p).grant).sum) →
        exec .passComplete s = .next restarted) ∧
      (allocationEnabled s = true → s.alloc.stale = false → (passResult p).total ≤ s.env.available →
        (∀ c, validCab c = true → ((baysOf c).map (passResult p).grant).sum ≤ (s.ceiling c).steps) →
        ∃ t, exec .passComplete s = .next t ∧
          (∀ b, validBay b = true →
            t.session b = (if (s.session b).serial ≠ (p.bay b).serial ∨ (s.session b).state = .vacant ∨
                (s.session b).state = .identifying ∨ (s.session b).holds.any = true ∨
                (s.link (cabOf b)).state ≠ .up
              then { s.session b with grant := 0, short := false, preShort := false }
              else { s.session b with
                grant := (passResult p).grant b
                short := get1 (passResult p).short false b
                preShort := get1 (passResult p).preShort false b })) ∧
          t.alloc.lastOrder = (passResult p).order ∧ t.alloc.snapshot.isSome = s.alloc.again ∧
          t.alloc.again = false ∧ t.alloc.stale = false ∧
          (∀ b, validBay b = true → (s.link (cabOf b)).state = .up →
            (t.power b).commanded ≤ (t.session b).grant ∧ 300 * bonded t b < (t.session b).grant + 300 ∧
            (t.power b).reported = (s.power b).reported) ∧
          (∀ b, (s.link (cabOf b)).state ≠ .up → t.power b = s.power b ∧ bonded t b = bonded s b) ∧
          t.clock = s.clock ∧ t.plans = s.plans ∧ t.env = s.env ∧ t.ready = s.ready ∧ t.faults = s.faults ∧
          t.lines = s.lines ∧ t.pending = s.pending ∧ OrderKept s.order t.order ∧
          (∀ c, LinkKept (s.link c) (t.link c)) ∧
          t.order = noticed [(.pass, enc16 p.available ++
            enc16 ((allBays.map fun b => (t.session b).grant).sum) ++
            enc8 (allBays.filter fun b => (t.session b).short).length ++
            enc8 (allBays.filter fun b => (t.session b).preShort).length)] s.order ∧
          (∀ c, validCab c = true → (s.link c).state = .up →
            let order := t.alloc.lastOrder.filter fun b => cabOf b = c
            let aim (b : Nat) : Nat := ((t.session b).grant + 299) / 300
            let below (st : ModuleState) (b k : Nat) : Nat := (allModules.filter fun j =>
              j < k ∧ (s.module c j).state = st ∧ (s.module c j).bay = some b).length
            let held (b : Nat) : Nat := max (bonded s b) (min (aim b) (bonded s b + ramping s b))
            let wanted := order.flatMap fun b => List.replicate (aim b - (min (held b) (aim b) + closing s b)) b
            let free := allModules.filter fun k => (s.module c k).state = .free
            (∀ b k, cabOf b = c → validBay b = true → validModule k = true → (s.module c k).bay = some b →
              ((s.module c k).state = .bonded → t.module c k = { s.module c k with
                state := if below .bonded b k < aim b then .bonded else .ramping }) ∧
              ((s.module c k).state = .ramping → t.module c k = { s.module c k with
                state := if bonded s b + below .ramping b k < aim b then .bonded else .ramping })) ∧
            (∀ k, validModule k = true → (s.module c k).state ≠ .bonded → (s.module c k).state ≠ .ramping →
              t.module c k = match (free.zip wanted).find? (fun x => x.1 = k) with
                | some x => ⟨.closing, some x.2, some 2000⟩
                | none => s.module c k) ∧
            (t.bondList c).flatMap (fun e => List.replicate e.wanted e.bay) = wanted.drop free.length ∧
            ((t.bondList c).map BondEntry.bay).Nodup ∧ (∀ e ∈ t.bondList c, 1 ≤ e.wanted) ∧
            t.link c = (s.link c).handAll (
              (((baysOf c).filter fun b => (t.session b).grant < (s.power b).commanded).map fun b =>
                .setpoint (posOf b) (t.session b).grant) ++
              ((free.zip wanted).map fun x => .bond x.1 (posOf x.2)) ++
              ((order.filter fun b => (s.power b).commanded < (t.power b).commanded).map fun b =>
                .setpoint (posOf b) (t.power b).commanded))) ∧
          (∃ q : State, q.sessions = t.sessions ∧ q.env = s.env ∧ q.faults = s.faults ∧
            q.bond.modules = t.bond.modules ∧
            q.bond.raiseList = t.alloc.lastOrder.filter (fun b =>
              (s.link (cabOf b)).state = .up && (s.power b).commanded < (t.session b).grant) ∧
            (∀ b, validBay b = true → q.power b =
              if (s.link (cabOf b)).state = .up ∧ (t.session b).grant < (s.power b).commanded
              then ⟨(t.session b).grant, (s.power b).reported, some 5000⟩ else s.power b) ∧
            t.bond = (examineRaises q).bond ∧ t.links = (examineRaises q).links)))

/-- A pass gives what its stages ask and the resources allow, never more than site, cabinet or modules can carry
(R81, R82, R83, R84, R85, R86, R87, R88, R89, R90, R91, R92). The minutes of a bay are its countdown; that an absent
countdown, which no bay that takes part has, is read as 0 is the model's choice (log entry 32), not R82. -/
def Obligations.PassResultStaysWithinItsResources : Prop :=
  ∀ p : Snapshot, (∀ b, PowerRange (p.bay b).power) →
    (passResult p).total = (allBays.map (passResult p).grant).sum ∧
    (passResult p).total ≤ p.available ∧
    (∀ c, validCab c = true →
      ((baysOf c).map (passResult p).grant).sum ≤ p.ceiling c ∧
      ((baysOf c).map fun b => targetCount ((passResult p).grant b)).sum ≤ get1 p.healthy 0 c) ∧
    (∀ b, (passResult p).grant b = 0 ∨ (20 ≤ (passResult p).grant b ∧ (passResult p).grant b ≤ 1200)) ∧
    (∀ b, (passResult p).grant b ≠ 0 → b ∈ (passResult p).order) ∧
    (passResult p).order.Nodup ∧
    (∀ b, b ∈ (passResult p).order ↔ validBay b = true ∧ (p.inKeyOrder b = true ∨ p.inStageC b = true)) ∧
    p.keyOrder.Pairwise (fun a b => p.before a b = true) ∧ p.stageC.Pairwise (· < ·) ∧
    (∀ b, let x := p.bay b
      let up := get1 p.linkUp false (cabOf b) = true
      (p.inKeyOrder b = true ↔ (x.state = .active ∨ x.state = .satisfied) ∧ x.unheld = true ∧ up) ∧
      (p.inStageC b = true ↔ x.state = .overdue ∧ x.unheld = true ∧ up ∧ x.battery < x.target) ∧
      x.energy = x.target - x.battery ∧ x.minutes = x.countdown.getD 0 ∧
      x.pre = (if x.windowOpen then x.power else 0) ∧
      (∀ q, p.bayCap b q = min (x.acceptance + q) (min 1200 (p.ceiling (cabOf b))) ∧
        p.chargeCap b q = p.bayCap b q - q) ∧
      (0 < x.minutes → 3 * x.energy ≤ 5 * x.minutes * x.need ∧
        ∀ n, 3 * x.energy ≤ 5 * x.minutes * n → x.need ≤ n) ∧
      p.slackOf b = (let c := p.chargeCap b x.pre
        if x.energy = 0 then (x.minutes : Int) else if c = 0 then -1440
        else max (-1440) ((x.minutes : Int) - ((3 * x.energy + 5 * c - 1) / (5 * c) : Nat)))) ∧
    (∀ a b, p.before a b = true ↔
      ((p.bay a).priority = true ∧ (p.bay b).priority = false) ∨ ((p.bay a).priority = (p.bay b).priority ∧
        (p.slackOf a < p.slackOf b ∨ (p.slackOf a = p.slackOf b ∧
          ((p.bay a).minutes < (p.bay b).minutes ∨ ((p.bay a).minutes = (p.bay b).minutes ∧ a < b)))))) ∧
    (∀ (w : Work) (b : Nat), validBay b = true →
      let x := p.bay b
      let g := w.grant b
      let room := get1 w.cabinet 0 (cabOf b)
      let free := get1 w.free 0 (cabOf b)
      let head := (free + (g + 299) / 300) * 300 - g
      let fits (n : Nat) : Nat := min n (min w.site (min room head))
      let adjusted (cap n : Nat) : Nat := if g = 0 ∧ 1 ≤ fits n ∧ fits n < 20 then
        (if 20 ≤ w.site ∧ 20 ≤ room ∧ 20 ≤ head ∧ 20 ≤ cap then 20 else 0) else fits n
      (∀ n, w.give b n = { w with
        site := w.site - n
        cabinet := set1 w.cabinet (cabOf b) (room - n)
        free := set1 w.free (cabOf b) (free - ((g + n + 299) / 300 - (g + 299) / 300))
        grants := set1 w.grants b (g + n) }) ∧
      stage0 p w b = (if x.pre = 0 then w
        else if fits x.pre = x.pre then { w.give b x.pre with received := set1 w.received b x.pre }
        else { w with preShort := set1 w.preShort b true }) ∧
      stageA p w b = (if x.energy = 0 then w
        else w.give b (adjusted (p.bayCap b x.pre) (min x.need (p.chargeCap b x.pre)))) ∧
      stageB p w b = (if x.energy = 0 then w
        else w.give b (adjusted (p.bayCap b x.pre) (p.chargeCap b x.pre - (g - get1 w.received 0 b)))) ∧
      stageCStep p w b = w.give b (adjusted (p.bayCap b 0) (p.chargeCap b 0))) ∧
    (let start : Work :=
        { site := p.available
          cabinet := tabulate 8 fun c => if get1 p.linkUp false c then p.ceiling c else 0
          free := tabulate 8 fun c => if get1 p.linkUp false c then get1 p.healthy 0 c else 0
          grants := Vector.replicate 48 0
          received := Vector.replicate 48 0
          preShort := Vector.replicate 48 false };
      let w := p.stageC.foldl (stageCStep p) (p.keyOrder.foldl (stageB p) (p.keyOrder.foldl (stageA p)
        (p.keyOrder.foldl (stage0 p) start)));
      (passResult p).order = p.keyOrder ++ p.stageC ∧
      ∀ b, validBay b = true → (passResult p).grant b = w.grant b ∧
        get1 (passResult p).preShort false b = get1 w.preShort false b ∧
        (get1 (passResult p).short false b = true ↔ (p.bay b).state = .active ∧ p.inKeyOrder b = true ∧
          w.grant b - get1 w.received 0 b < (p.bay b).need))

/-- The head bay is raised as far as its limit and the room allow, and never beyond the available power (R111, R127,
R109, R106). -/
def Obligations.RaisesStayWithinTheAvailablePower : Prop :=
  ∀ s : State,
    Ripple s (examineRaises s) ∧ (examineRaises s).sessions = s.sessions ∧
    (s.faults.stopMinute.isSome = true → examineRaises s = s) ∧
    (∀ b, (s.power b).commanded ≤ ((examineRaises s).power b).commanded) ∧
    ((∃ b, (s.power b).commanded < ((examineRaises s).power b).commanded) →
      siteExposure (examineRaises s) ≤ s.env.available) ∧
    (∀ b, (s.power b).commanded < ((examineRaises s).power b).commanded →
      ((examineRaises s).power b).commanded ≤ (s.session b).grant ∧
      ((examineRaises s).power b).commanded ≤ 300 * bonded s b ∧
      ((s.power b).commanded = 0 → 20 ≤ ((examineRaises s).power b).commanded) ∧
      ∃ pre post, s.bond.raiseList = pre ++ b :: post ∧
        ∀ a ∈ pre, ((examineRaises s).power a).commanded = (s.session a).grant) ∧
    (s.faults.stopMinute = none →
      (s.bond.raiseList = [] → examineRaises s = s) ∧
      (∀ h rest, s.bond.raiseList = h :: rest → validBay h = true →
        let g := (s.session h).grant
        let c := (s.power h).commanded
        let limit := min g (300 * bonded s h)
        let room : Int := (s.env.available : Int) - siteExposure s
        let least : Int := min ((limit : Int) - c) room
        let y : Int := if c = 0 ∧ least < 20 then 0 else least
        let next : State := { s with bond := { s.bond with raiseList := rest } }
        let raised (u : State) : State :=
          let u1 := putPower h { u.power h with commanded := c + y.toNat } u
          if (u.link (cabOf h)).state = .up
          then putLink (cabOf h) ((u.link (cabOf h)).hand (.setpoint (posOf h) (c + y.toNat))) u1 else u1
        (c = g → examineRaises s = examineRaises next) ∧
        (c < g → limit ≤ c → examineRaises s = s) ∧
        (c ≠ g → (limit ≤ c ∨ y ≤ 0) → examineRaises s = s) ∧
        (c < limit → 0 < y → examineRaises s =
          if c + y.toNat = g then examineRaises (raised next) else raised s))) ∧
    siteExposure s = (allBays.map fun b => max (s.power b).commanded (s.power b).reported).sum +
      (allCabs.map fun k => match (s.link k).lostHold with
        | some held => held.toList.sum
        | none => 0).sum

/-- MODULE REPORT opened, closed and failed act on the module as its state requires (R115, R116, R117, R121, R122,
R140, R108, R160, R103, R112, R127). That the bond controller acts on a report of failed before the fault unit, so
that NARROW comes before FAULT, is the model's reading (log entry 31). That a value absent in a state the part never
reaches is read as 0 is the model's choice (log entry 32): here the bay of a BONDED or RAMPING module. -/
def Obligations.ModuleReportsMoveModules : Prop :=
  (∀ (c : Nat) (m : Byte) (s : State), validCab c = true → validModule m.toNat = true →
    let x := s.module c m.toNat
    let freed := putModule c m.toNat ⟨.free, none, none⟩ (goodFrame c s)
    (((s.link c).state ≠ .up ∨ (s.link c).adopted = false) → ∀ res : Byte, res.toNat ≤ 2 →
      exec (.moduleReport c m res) s = .next (goodFrame c s)) ∧
    ((s.link c).state = .up → (s.link c).adopted = true →
      (x.state ≠ .opening → x.state ≠ .closing → exec (.moduleReport c m 0) s = .next (goodFrame c s)) ∧
      (x.state ≠ .closing → exec (.moduleReport c m 1) s = .next (goodFrame c s)) ∧
      (x.state = .opening → (s.bondList c = [] ∨ s.faults.stopMinute.isSome = true) →
        exec (.moduleReport c m 0) s = .next freed) ∧
      (∀ e rest, x.state = .opening → s.bondList c = e :: rest → s.faults.stopMinute = none →
        (∀ k, validModule k = true → (s.module c k).state ≠ .free) →
        exec (.moduleReport c m 0) s = .next
          (putBondList c (if e.wanted ≤ 1 then rest else { e with wanted := e.wanted - 1 } :: rest)
            (putModule c m.toNat ⟨.closing, some e.bay, some 2000⟩
              (sendCab c (.bond m.toNat (posOf e.bay)) freed)))) ∧
      (x.state = .closing →
        ∃ r, exec (.moduleReport c m 0) s = .next r ∧ Requested s r ∧ r.order = s.order ∧
          ((r.module c m.toNat).state = .free ∨ (r.module c m.toNat).state = .closing) ∧
          (s.bondList c = [] → r.module c m.toNat = ⟨.free, none, none⟩) ∧
          Quiet (serveBonds c freed) r) ∧
      (∀ b, x.state = .closing → x.bay = some b → cabOf b = c →
        ∃ r, Ripple (releaseExcess b (putModule c m.toNat ⟨.bonded, some b, none⟩ (goodFrame c s))) r ∧
          exec (.moduleReport c m 1) s = .next r ∧ Requested s r ∧ r.order = s.order ∧
          300 * bonded r b < (s.session b).grant + 300 ∧
          ((r.module c m.toNat).state = .bonded ∨ (r.module c m.toNat).state = .ramping) ∧
          (r.module c m.toNat).bay = some b ∧
          (let p := putModule c m.toNat ⟨.bonded, some b, none⟩ (goodFrame c s);
            let below (k : Nat) : Nat := (allModules.filter fun j =>
              j < k ∧ (p.module c j).state = .bonded ∧ (p.module c j).bay = some b).length;
            PowerAs (examineRaises (releaseExcess b p)) r ∧
            ∀ k, validModule k = true → r.module c k =
              if (p.module c k).state = .bonded ∧ (p.module c k).bay = some b ∧ (s.session b).grant ≤ 300 * below k
              then { p.module c k with state := .ramping } else p.module c k)) ∧
      (∃ r, exec (.moduleReport c m 2) s = .next r ∧ (r.module c m.toNat).state = .faulted ∧
        (r.cabFaults c).nonfatal =
          some ((s.cabFaults c).nonfatal.getD ⟨.moduleFail, ⟨.module, m.toNat⟩⟩) ∧
        r.order = noticed (narrowNotices c m.toNat s r ++
          faultNotices c .moduleFail ⟨.module, m.toNat⟩ s r) s.order ∧
        (∀ b, x.state = .bonded → x.bay = some b → cabOf b = c →
          bonded r b + 1 = bonded s b ∧ (r.power b).commanded ≤ 300 * bonded r b) ∧
        (x.state = .free ∨ x.state = .closing ∨ x.state = .bonded ∨ x.state = .ramping ∨ x.state = .opening →
          Requested s r) ∧
        PowerAs (moduleFault c m.toNat (goodFrame c s)) r))) ∧
    (∀ (c n : Nat) (s : State), validCab c = true → validModule n = true →
      let x := s.module c n
      let p := putModule c n ⟨.faulted, none, none⟩ s
      let r := moduleFault c n s
      (x.state = .faulted → r = s) ∧ (x.state ≠ .faulted → Ripple p r ∧ r.sessions = s.sessions) ∧
      (x.state = .absent ∨ x.state = .unknown → r = p) ∧
      (x.state = .free ∨ x.state = .closing ∨ x.state = .bonded ∨ x.state = .ramping ∨ x.state = .opening →
        Requested s r) ∧
      (x.state ≠ .faulted → x.state ≠ .bonded → r.bond = p.bond ∧ r.links = s.links) ∧
      (∀ b, x.state = .bonded → x.bay = some b → cabOf b = c → validBay b = true →
        let most := 300 * bonded p b
        PowerAs (examineRaises (if most < (s.power b).commanded then
            let u := putPower b ⟨most, (s.power b).reported, some 5000⟩ p
            if (s.link c).state = .up then putLink c ((s.link c).hand (.setpoint (posOf b) most)) u else u
          else p)) r)) ∧
    (∀ (c : Nat) (s : State), validCab c = true →
      let free := allModules.filter fun k => (s.module c k).state = .free
      let bays (l : List BondEntry) : List Nat := l.flatMap fun e => List.replicate (max 1 e.wanted) e.bay
      let served := free.zip (bays (s.bondList c))
      let t := serveBonds c s
      (s.faults.stopMinute.isSome = true → t = s) ∧
      (s.faults.stopMinute = none →
        t = { s with
          links := set1 s.links c (if (s.link c).state = .up
            then (s.link c).handAll (served.map fun x => .bond x.1 (posOf x.2)) else s.link c)
          bond := { s.bond with
            modules := t.bond.modules
            bondLists := set1 s.bond.bondLists c (t.bondList c) } } ∧
        bays (t.bondList c) = (bays (s.bondList c)).drop free.length ∧
        (∀ k n, validCab k = true → validModule n = true → t.module k n =
          match (if k = c then served.find? (fun x => x.1 = n) else none) with
          | some x => ⟨.closing, some x.2, some 2000⟩
          | none => s.module k n)))

/-- A ramp timer's expiry isolates the cabinet, and a contactor timer's faults the module (R119, R120, R162, R141,
R123, R145, R160, R186, R23). That the command for a stopped timer changes nothing is the model's choice (log entry
2), as is the cabinet byte of a FAULT notice whose subject is no module (log entry 43); that KEEP and CEILING are
among the frames discarded is its reading (log entry 17). -/
def Obligations.RampAndContactorExpiries : Prop :=
  (∀ (b : Nat) (s : State), validBay b = true →
      let c := cabOf b
      ((s.power b).ramp = none → exec (.rampTimerExpiry b) s = .next s) ∧
      (((s.cabFaults c).isolated = true ↔ (s.link c).state = .isolated) →
        (s.power b).ramp.isSome = true → ∃ r, exec (.rampTimerExpiry b) s = .next r ∧ Settled s r ∧
        r.cabFaults c = { s.cabFaults c with
          fatal := some ((s.cabFaults c).fatal.getD ⟨.rampTimeout, ⟨.cabinet, c⟩⟩), isolated := true } ∧
        (∀ k, k ≠ c → r.cabFaults k = s.cabFaults k) ∧ r.faults.alarm = alarmWanted r ∧ LinesRealarmed s r ∧
        (r.power b).ramp = none ∧
        r.order = noticed ((if (s.cabFaults c).isolated then [] else [linkNotice c (s.link c).state .isolated 5]) ++
          faultNotices c .rampTimeout ⟨.cabinet, c⟩ s r) s.order ∧
        (∀ k, r.session k = if cabOf k = c then (s.session k).held .fault else s.session k) ∧
        (∀ k, (r.power k).reported = (s.power k).reported) ∧
        ((s.cabFaults c).isolated = true → (r.link c).state = (s.link c).state ∧ r.links = s.links) ∧
        ((s.link c).state ≠ .up → r.bond = (putPower b { s.power b with ramp := none } s).bond ∧
          ∀ k, k ≠ c → r.link k = s.link k) ∧
        (TakesFaultHold c s → Requested s r) ∧
        ((s.cabFaults c).isolated = false → (r.link c).state = .isolated ∧ Requested s r ∧
          ((s.link c).state ≠ .up → r.link c =
            { (s.link c).hand .isolate with state := .isolated, probe := none, silence := some 2000 }) ∧
          ((s.link c).state = .up →
            LeftUp c s r ∧ ExaminedWithout c s r ∧ (r.link c).handed .isolate ∧ (r.link c).keep = none ∧
            ((r.link c).outbound, (r.link c).sending) = (s.link c).refilled [.isolate] ∧
            (r.link c).silence = (s.link c).silence)))) ∧
    (∀ (c m : Nat) (s : State), validCab c = true → validModule m = true →
      ((s.module c m).contactor = none → exec (.contactorTimerExpiry c m) s = .next s) ∧
      ((s.module c m).contactor.isSome = true →
        ∃ r, Quiet (putModule c m ⟨.faulted, none, none⟩ (evaluateAlarm (putCabFaults c { s.cabFaults c with
            nonfatal := some ((s.cabFaults c).nonfatal.getD ⟨.contactorTimeout, ⟨.module, m⟩⟩) } s))) r ∧
          exec (.contactorTimerExpiry c m) s = .next r ∧ Requested s r ∧ r.sessions = s.sessions ∧
          r.order = noticed (faultNotices c .contactorTimeout ⟨.module, m⟩ s r) s.order ∧
          r.bond = { s.bond with modules := r.bond.modules }))

/-- A DESCRIPTOR brings a TRAINING or ABSENT link to UP, and is not acted on elsewhere (R132, R124, R126, R145). -/
def Obligations.DescriptorBringsLinkUp : Prop :=
  ∀ (c : Nat) (ms : List Byte) (s : State), validCab c = true → validDescriptor ms = true →
    ((s.link c).state = .up ∨ (s.link c).state = .lost ∨ (s.link c).state = .isolated →
      exec (.descriptor c ms) s = .next (goodFrame c s)) ∧
    ((s.link c).state = .training ∨ (s.link c).state = .absent →
      ∃ r, exec (.descriptor c ms) s = .next r ∧ Settled s r ∧ Requested s r ∧
        r.sessions = s.sessions ∧ r.faults = s.faults ∧ r.bond = { s.bond with modules := r.bond.modules } ∧
        (r.link c).state = .up ∧ (r.link c).adopted = false ∧ (r.link c).probe = none ∧
        (r.link c).silence = some 2000 ∧ (r.link c).keep = some 500 ∧
        (∀ k, k ∈ (r.link c).installed ↔ validModule k = true ∧ ∃ b ∈ ms, b.toNat = k) ∧
        (∀ p, (r.link c).bay p = { (s.link c).bay p with insulation := false, derate := false }) ∧
        (r.link c).lostHold = (s.link c).lostHold ∧ (r.link c).lostTimer = (s.link c).lostTimer ∧
        (r.link c).handed (.ceiling (s.ceiling c).steps) ∧
        r.order = noticed [linkNotice c (s.link c).state .up 0] s.order ∧
        (∀ k, k ≠ c → r.link k = s.link k) ∧
        (∀ k, validModule k = true → r.module c k =
          if ∃ b ∈ ms, b.toNat = k then s.module c k else ⟨.absent, none, none⟩) ∧
        (∀ k m, k ≠ c → r.module k m = s.module k m))

/-- The probe timer probes a TRAINING link ten times and an ABSENT one every 10 s, and RETRAIN trains afresh (R131,
R143, R123, R136, R145, R186). The frames after a RETRAIN in UP are the model's reading (log entries 36 and 17), as
is the ascending order in which the bays' lowered grants are handed over (log entry 10); that the command for a
stopped timer changes nothing is the model's choice (log entry 2). -/
def Obligations.TrainingTimersAndRetrain : Prop :=
  (∀ (c : Nat) (s : State), validCab c = true →
      let l := s.link c
      (l.probe = none ∨ (l.state ≠ .training ∧ l.state ≠ .absent) → exec (.probeTimerExpiry c) s = .next s) ∧
      (l.probe.isSome = true → l.state = .training → l.probeCount < 10 → exec (.probeTimerExpiry c) s =
        .next (putLink c { l.hand .probe with probeCount := l.probeCount + 1, probe := some 1000 } s)) ∧
      (l.probe.isSome = true → l.state = .training → 10 ≤ l.probeCount →
        ∃ r, Quiet (putLink c { l with state := .absent, probe := some 10000 } s) r ∧
          exec (.probeTimerExpiry c) s = .next r ∧ Requested s r ∧ r.sessions = s.sessions ∧ r.bond = s.bond ∧
          r.order = noticed [linkNotice c .training .absent 1] s.order) ∧
      (l.probe.isSome = true → l.state = .absent →
        exec (.probeTimerExpiry c) s = .next (putLink c { l.hand .probe with probe := some 10000 } s))) ∧
    (∀ (tag c : Byte) (s : State), canTake s = true → validCab c.toNat = true →
      let l := s.link c.toNat
      (l.state = .training →
        exec (.retrain tag c) s = .next ((putLink c.toNat l.training s).replied tag 0xB1 [0x00])) ∧
      (l.state = .absent ∨ l.state = .lost →
        ∃ r, Quiet (putLink c.toNat l.training s) r ∧
          exec (.retrain tag c) s = .next (r.replied tag 0xB1 [0x00]) ∧ Requested s r ∧
          r.sessions = s.sessions ∧ r.bond = s.bond ∧
          r.order = noticed [linkNotice c.toNat l.state .training 4] s.order) ∧
      (l.state = .up →
        ∃ r, exec (.retrain tag c) s = .next (r.replied tag 0xB1 [0x00]) ∧ Settled s r ∧ r.faults = s.faults ∧
          LeftUp c.toNat s r ∧ Requested s r ∧
          ExaminedWithout c.toNat ((baysOf c.toNat).foldl (fun u b =>
              if (s.session b).state ≠ .vacant ∧ (s.session b).holds.any = false
              then lowerGrant b (putSession b ((s.session b).held .link) u) else u)
            (putLink c.toNat (l.hand .zero) s)) r ∧
          (r.link c.toNat).lostHold = some (tabulate 6 fun p =>
            max (get1 (l.lostHold.getD (Vector.replicate 6 0)) 0 p) (s.power (bayAt c.toNat p)).reported) ∧
          (r.link c.toNat).state = .training ∧ (r.link c.toNat).probeCount = 1 ∧
          (r.link c.toNat).probe = some 1000 ∧ (r.link c.toNat).keep = none ∧ (r.link c.toNat).silence = none ∧
          (r.link c.toNat).sending = some (l.sending.getD .zero) ∧
          (r.link c.toNat).outbound = l.outbound.filter (fun m => !m.onlyInUp) ++
            (if l.sending.isSome then [.zero, .probe] else [.probe]) ∧
          (r.link c.toNat).lostTimer = some 1000 ∧
          r.order = noticed [linkNotice c.toNat .up .training 4] s.order ∧
          (∀ b, r.session b = if cabOf b = c.toNat then (s.session b).held .link else s.session b) ∧
          (∀ b, (r.power b).reported = if cabOf b = c.toNat then 0 else (s.power b).reported))) ∧
    (∀ m : CabMsg, m.onlyInUp = match m with
      | .probe => false
      | .zero => false
      | .isolate => false
      | .keep => true
      | .setpoint _ _ => true
      | .release _ => true
      | .bond _ _ => true
      | .ceiling _ => true)

/-- The silence, lost-hold and keep timers and the end of a frame act on a cabinet link as R133 to R141 state (R133,
R134, R136, R141, R123, R145, R160, R186). When the keep timer starts again is the model's reading (log entry 16),
as is that KEEP and CEILING are among the frames discarded (log entry 17); that the command for a stopped timer, and
CABINET_FRAME_SENT with no frame being sent, change nothing is its choice (log entries 2 and 40), as is the cabinet
byte of a FAULT notice whose subject is no module (log entry 43). -/
def Obligations.SilenceLostHoldKeepAndFrameSent : Prop :=
  (∀ (c : Nat) (s : State), validCab c = true →
      let l := s.link c
      (l.silence = none ∨ (l.state ≠ .up ∧ l.state ≠ .isolated) → exec (.silenceTimerExpiry c) s = .next s) ∧
      (l.silence.isSome = true → l.state = .up →
        ∃ r, exec (.silenceTimerExpiry c) s = .next r ∧ Settled s r ∧ LeftUp c s r ∧ ExaminedWithout c s r ∧
          Requested s r ∧ (r.link c).state = .lost ∧ (r.link c).silence = none ∧ (r.link c).keep = none ∧
          (r.link c).lostTimer = some 1000 ∧
          (r.link c).outbound = l.outbound.filter (fun m => !m.onlyInUp) ∧ (r.link c).sending = l.sending ∧
          LinesRealarmed s r ∧
          (r.link c).lostHold = some (tabulate 6 fun p =>
            max (get1 (l.lostHold.getD (Vector.replicate 6 0)) 0 p) (s.power (bayAt c p)).reported) ∧
          r.cabFaults c = { s.cabFaults c with
            nonfatal := some ((s.cabFaults c).nonfatal.getD ⟨.linkLost, ⟨.cabinet, c⟩⟩) } ∧
          r.faults.alarm = alarmWanted r ∧
          r.order = noticed (faultNotices c .linkLost ⟨.cabinet, c⟩ s r ++ [linkNotice c .up .lost 2]) s.order ∧
          (∀ b, r.session b = if cabOf b = c then (s.session b).held .link else s.session b) ∧
          (∀ b, (r.power b).reported = if cabOf b = c then 0 else (s.power b).reported)) ∧
      (l.silence.isSome = true → l.state = .isolated →
        ∃ r, exec (.silenceTimerExpiry c) s = .next r ∧
          r = { putLink c { l with silence := some 2000 } s with bond := { s.bond with bays := r.bond.bays } } ∧
          ∀ b, r.power b = if cabOf b = c then { s.power b with reported := 0 } else s.power b) ∧
      (l.lostTimer = none → exec (.lostHoldTimerExpiry c) s = .next s) ∧
      (l.lostTimer.isSome = true → l.state ≠ .lost → exec (.lostHoldTimerExpiry c) s =
        .next (examineRaises (putLink c { l with lostHold := none, lostTimer := none } s))) ∧
      (l.lostTimer.isSome = true → l.state = .lost →
        ∃ r, Ripple (putLink c ({ l with lostHold := none, lostTimer := none } : Link).training s) r ∧
          exec (.lostHoldTimerExpiry c) s = .next r ∧ Requested s r ∧ r.sessions = s.sessions ∧
          PowerAs (examineRaises (putLink c
            ({ l with lostHold := none, lostTimer := none } : Link).training s)) r ∧
          r.order = noticed [linkNotice c .lost .training 3] s.order) ∧
      (l.keep = none ∨ l.state ≠ .up → exec (.keepTimerExpiry c) s = .next s) ∧
      (l.keep.isSome = true → l.state = .up →
        exec (.keepTimerExpiry c) s = .next (putLink c { l.hand .keep with keep := some 500 } s)) ∧
      (l.sending = none → exec (.cabinetFrameSent c) s = .next s) ∧
      (l.sending.isSome = true → l.outbound = [] →
        exec (.cabinetFrameSent c) s = .next (putLink c { l with sending := none } s)) ∧
      (∀ m rest, l.sending.isSome = true → l.outbound = m :: rest → exec (.cabinetFrameSent c) s =
        .next (putLink c { l with
          outbound := rest, sending := some m, keep := if l.state = .up then some 500 else l.keep } s))) ∧
    (∀ (l : Link) (m : CabMsg), l.hand m = if l.sending.isSome then { l with outbound := l.outbound ++ [m] }
      else { l with sending := some m, keep := if l.state = .up then some 500 else l.keep })

/-- The ready list adds, gives out and clears as R148, R151 and R152 state (R148, R149, R151, R152, R15). The places
of the presence markers in the reply and in the notice are the model's reading (log entry 12). That a value absent
in a state the part never reaches is read as 0 is the model's choice (log entry 32): here a countdown in a ready
record. -/
def Obligations.ReadyListAddsReadsAndClears : Prop :=
  (∀ (l : ReadyList) (r : ReadyRecord),
      (l.records.length < 32 → l.add r = ⟨l.records ++ [r], l.overflow⟩) ∧
      (∀ pre last, l.records.length = 32 → l.records = pre ++ [last] → l.add r = ⟨pre ++ [r], true⟩)) ∧
    (∀ (b : Nat) (s : State), let x := s.session b
      readyRecordOf s b = ⟨b, x.identity, x.planLink, s.clock.minute, x.battery, x.countdown.getD 0⟩ ∧
      addReady b s = { s with
        ready := s.ready.add (readyRecordOf s b)
        order := noticed [readyNotice (readyRecordOf s b) s.ready] s.order }) ∧
    (∀ (tag : Byte) (s : State), canTake s = true →
      (∀ r rest, s.ready.records = r :: rest → exec (.readReady tag) s =
        .next (({ s with ready := ⟨rest, s.ready.overflow⟩ } : State).replied tag 0xAC
          (0x00 :: (r.bytes ++ enc8 rest.length ++ [if s.ready.overflow then 1 else 0])))) ∧
      (s.ready.records = [] → exec (.readReady tag) s = .next (s.replied tag 0xAC
        (0x06 :: (List.replicate 14 0 ++ [0, if s.ready.overflow then 1 else 0])))) ∧
      exec (.clearReadyOverflow tag) s =
        .next (({ s with ready := ⟨s.ready.records, false⟩ } : State).replied tag 0xAD
          (0x00 :: (enc8 s.ready.records.length ++ [if s.ready.overflow then 1 else 0]))))

/-- A FAULT message is recorded, has the effect of its code, and sets the alarm (R140, R159, R160, R161, R162, R122,
R145, R121, R110, R123, R186, R23). That a FAULT message whose subject is the cabinet is taken whatever its subject
number is the model's reading (log entry 20), as are the ascending order in which the six bays' lowered grants, and
so their SETPOINT frames, are handed over for BAY_INSULATION of the cabinet, which R161 does not give (log entry
10), and that KEEP and CEILING are among the frames discarded (log entry 17); the cabinet byte of a FAULT notice
whose subject is no module is its choice (log entry 43). That a value absent in a state the part never reaches is
read as 0 is the model's choice (log entry 32): here the bay of a BONDED or RAMPING module. -/
def Obligations.FaultMessageIsTaken : Prop :=
  ∀ (c : Nat) (k n x y : Byte) (s : State) (code : FaultCode) (sub : Subject), validCab c = true →
    validFault k n x y = true → cabinetFaultCode n = some code → cabinetSubject c x y = some sub →
    ((s.link c).state ≠ .up → (s.link c).state ≠ .isolated →
      exec (.faultMessage c k n x y) s = .next (goodFrame c s)) ∧
    ((s.link c).state = .up ∨ (s.link c).state = .isolated →
      let f := (s.cabFaults c).setFlag code.cls (some (((s.cabFaults c).flag code.cls).getD ⟨code, sub⟩))
      ∃ r, exec (.faultMessage c k n x y) s = .next r ∧ Settled s r ∧ r.faults.alarm = alarmWanted r ∧
        r.cabFaults c = { f with isolated := f.isolated || code = .cabinetInternal } ∧
        (∀ j, j ≠ c → r.cabFaults j = s.cabFaults j) ∧ (r.link c).silence = some 2000 ∧ LinesRealarmed s r ∧
        r.order = noticed (
          (if code = .moduleFail ∧ sub.kind = .module then narrowNotices c sub.number s r
            else if code = .cabinetInternal ∧ (s.cabFaults c).isolated = false ∧ (s.link c).state = .up
            then [linkNotice c .up .isolated 5] else []) ++ faultNotices c code sub s r) s.order ∧
        (code = .bayDerate ∨ (code = .moduleFail ∧ sub.kind ≠ .module) ∨
            (code = .bayInsulation ∧ sub.kind = .module) →
          Quiet (evaluateAlarm (putCabFaults c f (goodFrame c s))) r ∧ r.alloc = s.alloc) ∧
        (code = .moduleFail → sub.kind = .module →
          (r.module c sub.number).state = .faulted ∧ r.sessions = s.sessions ∧
          (∀ m, m ≠ sub.number → r.module c m = s.module c m) ∧
          PowerAs (moduleFault c sub.number (goodFrame c s)) r ∧
          ((s.module c sub.number).state = .free ∨ (s.module c sub.number).state = .closing ∨
              (s.module c sub.number).state = .bonded ∨ (s.module c sub.number).state = .ramping ∨
              (s.module c sub.number).state = .opening → Requested s r)) ∧
        (code = .bayInsulation → sub.kind ≠ .module →
          (sub.kind = .bay → (s.session sub.number).state ≠ .vacant →
            (s.session sub.number).holds.fault = false → Requested s r) ∧
          (sub.kind = .cabinet → TakesFaultHold c s → Requested s r) ∧
          (∀ b, r.session b = if b = sub.number ∧ sub.kind = .bay ∨ cabOf b = c ∧ sub.kind = .cabinet
            then (s.session b).held .fault else s.session b) ∧
          PowerAs ((if sub.kind = .bay then [sub.number] else baysOf c).foldl (fun u b =>
            let v := putSession b ((s.session b).held .fault) u
            if (s.session b).state ≠ .vacant ∧ (s.session b).holds.any = false then lowerGrant b v else v)
              (goodFrame c s)) r) ∧
        (code = .cabinetInternal → (TakesFaultHold c s → Requested s r) ∧
          (∀ b, r.session b = if cabOf b = c then (s.session b).held .fault else s.session b) ∧
          ((s.cabFaults c).isolated = false → (r.link c).state = .isolated ∧
            ((s.link c).state = .up → LeftUp c s r ∧ ExaminedWithout c s r ∧ Requested s r ∧
              (r.link c).handed .isolate ∧ (r.link c).keep = none ∧
              ((r.link c).outbound, (r.link c).sending) = (s.link c).refilled [.isolate]) ∧
            ((s.link c).state = .isolated → r.bond = s.bond ∧ r.links = (goodFrame c s).links)) ∧
          ((s.cabFaults c).isolated = true → (s.link c).state = .isolated →
            r.bond = s.bond ∧ r.links = (goodFrame c s).links)))

/-- CLEAR FAULTS, SET REPORTING and RESUME SITE change the fault unit and release what the faults stood for (R163,
R164, R165, R166, R142, R145, R168, R174, R131, R23). That the CLEAR FAULTS reply holds both the cabinet's and the
site's part is the model's reading (log entry 12). -/
def Obligations.ClearFaultsSetReportingAndResumeSite : Prop :=
  ∀ (tag : Byte) (s : State), canTake s = true →
    (∀ k : Byte,
      let r := evaluateAlarm { s with faults := { s.faults with
        overdrawMinute := if k.getLsbD 1 then none else s.faults.overdrawMinute } }
      exec (.clearFaults tag 0 k) s = .next (r.replied tag 0xB5 (0x00 :: (List.replicate 16 0 ++
        [mark r.faults.overdrawMinute.isSome] ++ enc16 (r.faults.overdrawMinute.getD 0))))) ∧
    (∀ x k : Byte, validCab x.toNat = true →
      let c := x.toNat
      let f := s.cabFaults c
      let first (o : Option FirstCode) : List Byte := match o with
        | some f => enc8 f.code.code ++ enc8 f.subject.kind.code ++ enc8 f.subject.number ++ [1]
        | none => [0, 0, 0, 0]
      ∃ r, exec (.clearFaults tag x k) s = .next (r.replied tag 0xB5 (0x00 :: (
          [mark (r.cabFaults c).correctable.isSome, mark (r.cabFaults c).nonfatal.isSome,
            mark (r.cabFaults c).fatal.isSome] ++
          first (r.cabFaults c).correctable ++ first (r.cabFaults c).nonfatal ++ first (r.cabFaults c).fatal ++
          [mark (r.cabFaults c).isolated, 0, 0, 0]))) ∧ Settled s r ∧ LinesRealarmed s r ∧
        r.cabFaults c = ⟨if k.getLsbD 0 then none else f.correctable, if k.getLsbD 1 then none else f.nonfatal,
          if k.getLsbD 2 then none else f.fatal, f.isolated && !k.getLsbD 2⟩ ∧
        (∀ j, j ≠ c → r.cabFaults j = s.cabFaults j) ∧ r.faults.alarm = alarmWanted r ∧
        (∀ b, r.session b = (
          let y := if cabOf b = c ∧ k.getLsbD 2 = true ∧ f.isolated = true then (s.session b).held .link
            else s.session b
          if cabOf b = c ∧ y.state ≠ .vacant ∧ (k.getLsbD 1 = true ∨ k.getLsbD 2 = true) ∧
              (f.isolated && !k.getLsbD 2) = false ∧ (s.linkBay b).insulation = false
          then { y with holds := { y.holds with fault := false } } else y)) ∧
        (k.getLsbD 2 = true → f.isolated = true →
          (r.link c).state = .training ∧ (r.link c).probe = some 1000 ∧ (r.link c).silence = none ∧
          (r.link c).lostTimer = some 1000 ∧ Requested s r ∧ (r.link c).probeCount = 1 ∧ (r.link c).handed .probe ∧
          (∀ b, (r.power b).reported = if cabOf b = c then 0 else (s.power b).reported) ∧
          (r.link c).lostHold = some (tabulate 6 fun p => max
            (get1 ((s.link c).lostHold.getD (Vector.replicate 6 0)) 0 p) (s.power (bayAt c p)).reported) ∧
          ((s.link c).state ≠ .up → r.bond = { s.bond with bays := r.bond.bays } ∧
            r.link c = { (s.link c).training with lostHold := (r.link c).lostHold, lostTimer := some 1000 } ∧
            (∀ b, (r.power b).commanded = (s.power b).commanded ∧ (r.power b).ramp = (s.power b).ramp) ∧
            ∀ j, j ≠ c → r.link j = s.link j)) ∧
        r.order = noticed (if k.getLsbD 2 = true ∧ f.isolated = true
          then [linkNotice c .isolated .training 6] else []) s.order ∧
        (k.getLsbD 2 = false ∨ f.isolated = false → r.links = s.links ∧ r.bond = s.bond ∧
          (let cleared := (k.getLsbD 1 = true ∨ k.getLsbD 2 = true) ∧ f.isolated = false ∧
              ∃ b, validBay b = true ∧ cabOf b = c ∧ (s.session b).state ≠ .vacant ∧
                (s.session b).holds.fault = true ∧ (s.linkBay b).insulation = false;
            (cleared → Requested s r) ∧ (¬ cleared → r.alloc = s.alloc)))) ∧
    (∀ e : ReportingOrder,
      let r := evaluateAlarm { s with faults := { s.faults with
        notices := ⟨e.correctableNotice ≠ 0, e.nonfatalNotice ≠ 0, e.fatalNotice ≠ 0⟩
        alarms := ⟨e.correctableAlarm ≠ 0, e.nonfatalAlarm ≠ 0, e.fatalAlarm ≠ 0⟩ } }
      exec (.setReporting tag e) s = .next (r.replied tag 0xB6 (0x00 :: [
        mark (e.correctableNotice ≠ 0), mark (e.correctableAlarm ≠ 0), mark (e.nonfatalNotice ≠ 0),
        mark (e.nonfatalAlarm ≠ 0), mark (e.fatalNotice ≠ 0), mark (e.fatalAlarm ≠ 0), mark r.faults.alarm]))) ∧
    (s.faults.stopMinute.isSome = true → stopLinesAsserted s = 0 →
      ∃ r, exec (.resumeSite tag) s = .next (r.replied tag 0xB7 [0x00, 0, 0, 0, 0, 0]) ∧ Requested s r ∧
        Settled s r ∧ LinesRealarmed s r ∧ r.order = s.order ∧ r.faults = { s.faults with stopMinute := none, alarm := alarmWanted r } ∧
        PowerAs (examineRaises (allCabs.foldl (fun u c => serveBonds c u)
          { s with faults := { s.faults with stopMinute := none }, sessions := r.sessions })) r ∧
        ∀ b, r.session b = if (s.session b).state = .vacant then s.session b
          else { s.session b with holds := { (s.session b).holds with stop := false } }) ∧
    stopLinesAsserted s = (allLines.filter fun k =>
      (s.line k).settings.function = .stopIn ∧ (s.line k).level = true).length ∧
    (∀ t : State, evaluateAlarm t = { t with
        faults := { t.faults with alarm := alarmWanted t }, lines := (evaluateAlarm t).lines } ∧
      (∀ k, validLine k = true → (evaluateAlarm t).line k =
        if alarmWanted t ≠ t.faults.alarm ∧ (t.line k).settings.function = .alarmOut then { t.line k with
          blinkHalf := true
          blinkTimer := if (t.line k).settings.blink = true ∧ alarmWanted t = true then some 500 else none }
        else t.line k) ∧
      (alarmWanted t = true ↔ t.faults.stopMinute.isSome = true ∨
        (t.faults.alarms.correctable = true ∧ ∃ c, validCab c = true ∧ (t.cabFaults c).correctable.isSome = true) ∨
        (t.faults.alarms.nonfatal = true ∧ (t.faults.overdrawMinute.isSome = true ∨
          ∃ c, validCab c = true ∧ (t.cabFaults c).nonfatal.isSome = true)) ∨
        (t.faults.alarms.fatal = true ∧ ∃ c, validCab c = true ∧ (t.cabFaults c).fatal.isSome = true)))

/-- A yard input is filtered, and a change of its level is handed on by its function (R172, R173, R174, R59, R62,
R167). That the event of a stopped filter or blink changes nothing is the model's choice (log entry 2), and so is
the level byte of a LINE notice (log entry 46). -/
def Obligations.YardInputsAreFilteredAndHandedOn : Prop :=
  ∀ (l : Nat) (s : State), validLine l = true →
    let x := s.line l
    let s1 := putLine l { x with level := !x.level, filter := none } s
    let minute := enc16 s.clock.minute
    let stage (t : State) : Nat :=
      let level (f : LineFunction) : Nat :=
        if allLines.any (fun k => (t.line k).settings.function = f && (t.line k).level) then 1 else 0
      level .curtailA + 2 * level .curtailB
    (∀ high, x.pin = high → exec (.yardPinChange l high) s = .next s) ∧
    (∀ high, x.pin ≠ high → exec (.yardPinChange l high) s = .next (putLine l (if x.settings.function.isInput
      then { x with
        pin := high
        filter := if (high != x.settings.invert) = x.level then none
          else some (if x.settings.function = .meterPulse then 5 else 20) }
      else { x with pin := high }) s)) ∧
    (x.filter = none → exec (.lineFilterExpiry l) s = .next s) ∧
    (x.filter.isSome = true →
      (x.settings.function = .generalIn → exec (.lineFilterExpiry l) s =
        .next (if s.order.enables.line = true ∧ (x.settings.edge = .both ∨
            x.settings.edge = if x.level then .falling else .rising)
          then { s1 with order := s.order.placeNotice 0xE7 (enc8 l ++ (if x.level then [1, 0] else [0, 1]) ++ minute) }
          else s1)) ∧
      (x.settings.function = .curtailA ∨ x.settings.function = .curtailB → exec (.lineFilterExpiry l) s =
        .next (if stage s1 = s.env.lineStage then s1 else { s1 with env := { s.env with
          lineStage := stage s1
          settling := if stage s1 = s.env.effStage then none else some 2000 } })) ∧
      (x.settings.function = .meterPulse → exec (.lineFilterExpiry l) s =
        .next (if x.settings.edge = .both ∨ x.settings.edge = (if x.level then .falling else .rising)
          then { s1 with env := { s.env with windowCount := min 65535 (s.env.windowCount + 1) } } else s1)) ∧
      (x.settings.function = .stopIn →
        (x.level = true ∨ s.faults.stopMinute.isSome = true → exec (.lineFilterExpiry l) s = .next s1) ∧
        (x.level = false → s.faults.stopMinute = none → ∃ r, exec (.lineFilterExpiry l) s = .next r ∧
          r.faults = { s.faults with stopMinute := some s.clock.minute, alarm := true } ∧ LinesRealarmed s1 r ∧
          (∀ b, (s.session b).state ≠ .vacant →
            (r.session b).holds = { (s.session b).holds with stop := true } ∧
            ((s.session b).holds.any = false → (r.session b).grant = 0)) ∧
          (∀ b, (r.session b).grant ≤ (s.session b).grant ∧ (r.power b).commanded ≤ (s.power b).commanded) ∧
          r.alloc = { s.alloc with stale := r.alloc.stale } ∧ (inFlight s = true → r.alloc.stale = true) ∧
          r.order = (shed .stop 0 { s with faults := { s.faults with stopMinute := some s.clock.minute } }).order ∧
          (let stopped := shed .stop 0 { s with faults := { s.faults with stopMinute := some s.clock.minute } };
            let told := (allBays.filter fun b => (s.session b).state ≠ .vacant ∧
              (s.session b).holds.any = false).foldl (fun u b => lowerGrant b u)
                ({ stopped with sessions := r.sessions } : State);
            r.bond = told.bond ∧ r.links = told.links) ∧
          r.env = s.env ∧ r.plans = s.plans ∧ r.clock = s.clock ∧ r.ready = s.ready ∧
          r.bond.modules = s.bond.modules)) ∧
      (x.settings.function.isInput = false → exec (.lineFilterExpiry l) s = .next s1)) ∧
    (x.blinkTimer = none → exec (.alarmBlinkToggle l) s = .next s) ∧
    (x.blinkTimer.isSome = true → exec (.alarmBlinkToggle l) s =
      .next (putLine l { x with blinkHalf := !x.blinkHalf, blinkTimer := some 500 } s))

/-- SET LINE replaces a line's settings and hands on a change of function, or an inversion where it is kept (R175,
R172, R173, R59, R62, R63, R67, R167, R174). The level bytes, and which byte is an asserted output level, are the
model's readings and choices (log entries 28, 45 and 46), as is that the pin keeps its level whatever the pull-up
(log entry 47); the window count of 0 is log entry 21. -/
def Obligations.SetLineReplacesTheSettings : Prop :=
  ∀ (tag l : Byte) (o : LineOrder) (n : LineSettings) (s : State), canTake s = true → validLine l.toNat = true →
    lineSettingsOf o = some n →
    (n.function = .curtailA ∨ n.function = .curtailB ∨ n.function = .meterPulse →
      ∀ k, validLine k = true → k ≠ l.toNat → (s.line k).settings.function ≠ n.function) →
    let x := s.line l.toNat
    let stage (t : State) : Nat :=
      let level (f : LineFunction) : Nat :=
        if allLines.any (fun k => (t.line k).settings.function = f && (t.line k).level) then 1 else 0
      level .curtailA + 2 * level .curtailB
    (n.function.code = o.function.toNat ∧ n.edge.code = o.edge.toNat ∧ n.drive.code = o.drive.toNat ∧
      n.invert = (o.invert = 1 : Bool) ∧ n.pullUp = (o.pullUp = 1 : Bool) ∧ n.blink = (o.blink = 1 : Bool) ∧
      n.outputLevel = (o.outputLevel = 1 : Bool)) ∧
    ∃ r, exec (.setLine tag l o) s = .next (r.replied tag 0xB8 (0x00 :: ([o.function, o.invert, o.pullUp, o.edge,
        o.drive, o.blink, o.outputLevel] ++ lineLevelBytes r (r.line l.toNat)))) ∧
      (r.line l.toNat).settings = n ∧ (r.line l.toNat).pin = x.pin ∧
      (∀ k, k ≠ l.toNat → r.line k =
        if r.faults.alarm ≠ s.faults.alarm ∧ (s.line k).settings.function = .alarmOut then { s.line k with
          blinkHalf := true
          blinkTimer := if (s.line k).settings.blink = true ∧ r.faults.alarm = true then some 500 else none }
        else s.line k) ∧
      r.plans = s.plans ∧ r.clock = s.clock ∧ r.ready = s.ready ∧ r.pending = s.pending ∧
      (n.function ≠ x.settings.function →
        r.faults = s.faults ∧ (r.line l.toNat).blinkHalf = true ∧
        (r.line l.toNat).blinkTimer = (if n.function = .alarmOut ∧ n.blink = true ∧ s.faults.alarm = true
          then some 500 else none) ∧
        (r.line l.toNat).level = false ∧
        (r.line l.toNat).filter = (if n.function.isInput ∧ x.pin ≠ n.invert
          then some (if n.function = .meterPulse then 5 else 20) else none) ∧
        (n.function = .meterPulse ∨ x.settings.function = .meterPulse →
          r.env.meterWindow = (if meterAssigned r then some 60000 else none) ∧ r.env.windowCount = 0 ∧
          r.env.lastWindow = none ∧ r.env.building = r.env.reserve ∧ r.env.available = availableOf r.env ∧
          (r.env.available ≠ s.env.available → Requested s r) ∧
          (let a := recompute { s with env := { s.env with
              meterWindow := r.env.meterWindow, windowCount := 0, lastWindow := none
              building := s.env.reserve } };
            r = { a with
              lines := r.lines
              env := { a.env with lineStage := r.env.lineStage, settling := r.env.settling } })) ∧
        (n.function = .curtailA ∨ n.function = .curtailB ∨ x.settings.function = .curtailA ∨
          x.settings.function = .curtailB → r.env.lineStage = stage r ∧
          r.env.settling = if stage r = s.env.lineStage then s.env.settling
            else if stage r = s.env.effStage then none else some 2000) ∧
        (n.function ≠ .curtailA → n.function ≠ .curtailB → x.settings.function ≠ .curtailA →
          x.settings.function ≠ .curtailB →
          r.env.lineStage = s.env.lineStage ∧ r.env.settling = s.env.settling) ∧
        (n.function ≠ .meterPulse → x.settings.function ≠ .meterPulse → r = { s with
          lines := r.lines
          env := { s.env with lineStage := r.env.lineStage, settling := r.env.settling } })) ∧
      (n.function = x.settings.function →
        (r.line l.toNat).filter = x.filter ∧
        ((r.line l.toNat).blinkHalf, (r.line l.toNat).blinkTimer) =
          (if n.function = .alarmOut ∧ n.blink = true ∧ s.faults.alarm = true
            then (if x.settings.blink then (x.blinkHalf, x.blinkTimer) else (true, some 500)) else (true, none)) ∧
        (r.line l.toNat).level = (if n.function.isInput ∧ n.invert ≠ x.settings.invert then !x.level else x.level) ∧
        (n.invert = x.settings.invert ∨ n.function.isInput = false → r = { s with lines := r.lines }) ∧
        (n.invert ≠ x.settings.invert →
          let s1 : State := { s with lines := r.lines }
          let selected := n.edge = .both ∨ n.edge = if x.level then .falling else .rising
          let notice := enc8 l.toNat ++ (if x.level then [1, 0] else [0, 1]) ++ enc16 s.clock.minute
          (n.function = .generalIn → r = if s.order.enables.line = true ∧ selected
            then { s1 with order := s.order.placeNotice 0xE7 notice } else s1) ∧
          (n.function = .curtailA ∨ n.function = .curtailB →
            r = if stage s1 = s.env.lineStage then s1 else { s1 with env := { s.env with
              lineStage := stage s1
              settling := if stage s1 = s.env.effStage then none else some 2000 } }) ∧
          (n.function = .meterPulse → r = if selected
            then { s1 with env := { s.env with windowCount := min 65535 (s.env.windowCount + 1) } } else s1) ∧
          (n.function = .stopIn →
            (x.level = true ∨ s.faults.stopMinute.isSome = true → r = s1) ∧
            (x.level = false → s.faults.stopMinute = none →
              r.faults = { s.faults with stopMinute := some s.clock.minute, alarm := true } ∧
              (∀ b, (s.session b).state ≠ .vacant →
                (r.session b).holds = { (s.session b).holds with stop := true } ∧
                ((s.session b).holds.any = false → (r.session b).grant = 0)) ∧
              (∀ b, (r.session b).grant ≤ (s.session b).grant ∧ (r.power b).commanded ≤ (s.power b).commanded) ∧
              r.alloc = { s.alloc with stale := r.alloc.stale } ∧ (inFlight s = true → r.alloc.stale = true) ∧
              r.order = (shed .stop 0 { s with
                faults := { s.faults with stopMinute := some s.clock.minute } }).order ∧
              (let stopped := shed .stop 0 { s with
                  faults := { s.faults with stopMinute := some s.clock.minute } };
                let told := (allBays.filter fun b => (s.session b).state ≠ .vacant ∧
                  (s.session b).holds.any = false).foldl (fun u b => lowerGrant b u)
                    ({ stopped with sessions := r.sessions } : State);
                r.bond = told.bond ∧ r.links = told.links) ∧
              r.env = s.env ∧ r.bond.modules = s.bond.modules))))

/-- The invariants that every step keeps hold at reset (R1, R29, R50, R74, R104, R129). -/
def Obligations.InvariantsHoldAtReset : Prop :=
  BoundsInv State.reset ∧ EnvelopeInv State.reset ∧ SessionInv State.reset ∧ PowerInv State.reset

/-- Every step keeps every quantity within the range its table gives (1.1, 2.1, 3.1, 3.2, 3.6, 4.1, 5.2, 6.1, 7.1,
R13, R50, R182). The sessions and the plan claims agree by StepKeepsSessions. That the prescaler stands at 60 until
the minute event is taken, and the milliseconds of the second, are the model's (log entries 1 and 29). -/
def Obligations.StepKeepsBounds : Prop :=
  ∀ s t : State, BoundsInv s → SessionInv s → step s = .next t → BoundsInv t

/-- The available power and the building estimate are at all times those of R66 and R64 (R64, R66, R59, R63, R72).
-/
def Obligations.StepKeepsEnvelope : Prop :=
  ∀ s t : State, EnvelopeInv s → step s = .next t → EnvelopeInv t

/-- Sessions and plan claims stay whole and agree with each other (R1, R5, R9, R12, R14, R33, R36, R43). -/
def Obligations.StepKeepsSessions : Prop :=
  ∀ s t : State, BoundsInv s → SessionInv s → step s = .next t → SessionInv t

/-- The setpoints in force never exceed the available power, their grants or their bonded modules (R24, R67, R98,
R106, R121, R127). -/
def Obligations.StepKeepsPower : Prop :=
  ∀ s t : State, PowerInv s → step s = .next t → PowerInv t

end
end

