-- ==== Sys2Proof/Laws/Banks.lean ====
section
/-! SUPPORT. Reading and writing one item of a bank by the manual's number. -/

namespace Sys2Proof.Machine

variable {α : Type} {n : Nat}

theorem get1_set1_self (v : Vector α n) (d a : α) (i : Nat) (h1 : 1 ≤ i) (h2 : i ≤ n) :
    get1 (set1 v i a) d i = a := by
  have h0 : i ≠ 0 := by omega
  have hlt : i - 1 < n := by omega
  simp [get1, set1, h0, hlt]

theorem get1_set1_other (v : Vector α n) (d a : α) (i j : Nat) (h : i ≠ j) :
    get1 (set1 v i a) d j = get1 v d j := by
  unfold get1 set1
  split
  · rfl
  · split
    · rfl
    · rw [Vector.getElem?_setIfInBounds_ne (by omega)]

/-- A write with a number the bank does not have leaves it as it was. -/
theorem set1_out (v : Vector α n) (a : α) (i : Nat) (h : ¬ (1 ≤ i ∧ i ≤ n)) : set1 v i a = v := by
  unfold set1
  split
  · rfl
  · next h0 =>
    apply Vector.ext
    intro j hj
    rw [Vector.getElem_setIfInBounds_ne _ (by omega)]

/-- What one write does to every read. -/
theorem get1_set1 (v : Vector α n) (d a : α) (i j : Nat) :
    get1 (set1 v i a) d j = if i = j ∧ 1 ≤ i ∧ i ≤ n then a else get1 v d j := by
  by_cases hij : i = j
  · subst hij
    by_cases hb : 1 ≤ i ∧ i ≤ n
    · rw [if_pos ⟨rfl, hb⟩, get1_set1_self v d a i hb.1 hb.2]
    · rw [if_neg (fun h => hb h.2), set1_out v a i hb]
  · rw [if_neg (fun h => hij h.1), get1_set1_other v d a i j hij]

/-- Writing back what an item holds changes no read. -/
theorem get1_set1_same (v : Vector α n) (d : α) (i j : Nat) :
    get1 (set1 v i (get1 v d i)) d j = get1 v d j := by
  rw [get1_set1]
  split
  · next h => rw [h.1]
  · rfl

theorem get1_tabulate (f : Nat → α) (d : α) (i : Nat) (h1 : 1 ≤ i) (h2 : i ≤ n) :
    get1 (tabulate n f) d i = f i := by
  have h0 : i ≠ 0 := by omega
  have hlt : i - 1 < n := by omega
  simp [get1, h0, tabulate, hlt]
  congr 1
  omega

theorem get1_replicate (a : α) (d : α) (i : Nat) (h1 : 1 ≤ i) (h2 : i ≤ n) :
    get1 (Vector.replicate n a) d i = a := by
  have h0 : i ≠ 0 := by omega
  have hlt : i - 1 < n := by omega
  simp [get1, h0, hlt]

/-- What holds of every item the bank has, and of what a number outside it reads as, holds of every read. -/
theorem get1_forall (v : Vector α n) (d : α) (p : Nat → α → Prop) (hd : ∀ i, i = 0 ∨ n < i → p i d)
    (h : ∀ i ∈ List.range' 1 n, p i (get1 v d i)) (i : Nat) : p i (get1 v d i) := by
  by_cases hi : 1 ≤ i ∧ i ≤ n
  · exact h i (by simp [List.mem_range'_1]; omega)
  · have out : get1 v d i = d := by
      unfold get1
      split
      · rfl
      · rw [Vector.getElem?_eq_none (by omega)]; rfl
    rw [out]
    exact hd i (by omega)

end Sys2Proof.Machine
end

