-- ==== Sys2Proof/Laws/State.lean ====
section
/-! SUPPORT. Each write of one item against each field and each item of the state. -/

namespace Sys2Proof.Machine

variable (s : State)

/-! ### putSession -/

@[simp] theorem putSession_clock (i : Nat) (x : Session) : (putSession i x s).clock = s.clock := rfl
@[simp] theorem putSession_plans (i : Nat) (x : Session) : (putSession i x s).plans = s.plans := rfl
@[simp] theorem putSession_env (i : Nat) (x : Session) : (putSession i x s).env = s.env := rfl
@[simp] theorem putSession_alloc (i : Nat) (x : Session) : (putSession i x s).alloc = s.alloc := rfl
@[simp] theorem putSession_bond (i : Nat) (x : Session) : (putSession i x s).bond = s.bond := rfl
@[simp] theorem putSession_links (i : Nat) (x : Session) : (putSession i x s).links = s.links := rfl
@[simp] theorem putSession_ready (i : Nat) (x : Session) : (putSession i x s).ready = s.ready := rfl
@[simp] theorem putSession_faults (i : Nat) (x : Session) : (putSession i x s).faults = s.faults := rfl
@[simp] theorem putSession_lines (i : Nat) (x : Session) : (putSession i x s).lines = s.lines := rfl
@[simp] theorem putSession_order (i : Nat) (x : Session) : (putSession i x s).order = s.order := rfl
@[simp] theorem putSession_pending (i : Nat) (x : Session) : (putSession i x s).pending = s.pending := rfl
@[simp] theorem putSession_at_entry (i : Nat) (x : Session) (j : Nat) :
    (putSession i x s).entry j = s.entry j := rfl
@[simp] theorem putSession_at_link (i : Nat) (x : Session) (j : Nat) :
    (putSession i x s).link j = s.link j := rfl
@[simp] theorem putSession_at_linkBay (i : Nat) (x : Session) (j : Nat) :
    (putSession i x s).linkBay j = s.linkBay j := rfl
@[simp] theorem putSession_at_power (i : Nat) (x : Session) (j : Nat) :
    (putSession i x s).power j = s.power j := rfl
@[simp] theorem putSession_at_module (i : Nat) (x : Session) (j m : Nat) :
    (putSession i x s).module j m = s.module j m := rfl
@[simp] theorem putSession_at_bondList (i : Nat) (x : Session) (j : Nat) :
    (putSession i x s).bondList j = s.bondList j := rfl
@[simp] theorem putSession_at_cabFaults (i : Nat) (x : Session) (j : Nat) :
    (putSession i x s).cabFaults j = s.cabFaults j := rfl
@[simp] theorem putSession_at_line (i : Nat) (x : Session) (j : Nat) :
    (putSession i x s).line j = s.line j := rfl
@[simp] theorem putSession_at_ceiling (i : Nat) (x : Session) (j : Nat) :
    (putSession i x s).ceiling j = s.ceiling j := rfl

/-! ### putEntry -/

@[simp] theorem putEntry_clock (i : Nat) (x : PlanEntry) : (putEntry i x s).clock = s.clock := rfl
@[simp] theorem putEntry_sessions (i : Nat) (x : PlanEntry) : (putEntry i x s).sessions = s.sessions := rfl
@[simp] theorem putEntry_env (i : Nat) (x : PlanEntry) : (putEntry i x s).env = s.env := rfl
@[simp] theorem putEntry_alloc (i : Nat) (x : PlanEntry) : (putEntry i x s).alloc = s.alloc := rfl
@[simp] theorem putEntry_bond (i : Nat) (x : PlanEntry) : (putEntry i x s).bond = s.bond := rfl
@[simp] theorem putEntry_links (i : Nat) (x : PlanEntry) : (putEntry i x s).links = s.links := rfl
@[simp] theorem putEntry_ready (i : Nat) (x : PlanEntry) : (putEntry i x s).ready = s.ready := rfl
@[simp] theorem putEntry_faults (i : Nat) (x : PlanEntry) : (putEntry i x s).faults = s.faults := rfl
@[simp] theorem putEntry_lines (i : Nat) (x : PlanEntry) : (putEntry i x s).lines = s.lines := rfl
@[simp] theorem putEntry_order (i : Nat) (x : PlanEntry) : (putEntry i x s).order = s.order := rfl
@[simp] theorem putEntry_pending (i : Nat) (x : PlanEntry) : (putEntry i x s).pending = s.pending := rfl
@[simp] theorem putEntry_at_session (i : Nat) (x : PlanEntry) (j : Nat) :
    (putEntry i x s).session j = s.session j := rfl
@[simp] theorem putEntry_at_link (i : Nat) (x : PlanEntry) (j : Nat) :
    (putEntry i x s).link j = s.link j := rfl
@[simp] theorem putEntry_at_linkBay (i : Nat) (x : PlanEntry) (j : Nat) :
    (putEntry i x s).linkBay j = s.linkBay j := rfl
@[simp] theorem putEntry_at_power (i : Nat) (x : PlanEntry) (j : Nat) :
    (putEntry i x s).power j = s.power j := rfl
@[simp] theorem putEntry_at_module (i : Nat) (x : PlanEntry) (j m : Nat) :
    (putEntry i x s).module j m = s.module j m := rfl
@[simp] theorem putEntry_at_bondList (i : Nat) (x : PlanEntry) (j : Nat) :
    (putEntry i x s).bondList j = s.bondList j := rfl
@[simp] theorem putEntry_at_cabFaults (i : Nat) (x : PlanEntry) (j : Nat) :
    (putEntry i x s).cabFaults j = s.cabFaults j := rfl
@[simp] theorem putEntry_at_line (i : Nat) (x : PlanEntry) (j : Nat) :
    (putEntry i x s).line j = s.line j := rfl
@[simp] theorem putEntry_at_ceiling (i : Nat) (x : PlanEntry) (j : Nat) :
    (putEntry i x s).ceiling j = s.ceiling j := rfl

/-! ### putLink -/

@[simp] theorem putLink_clock (i : Nat) (x : Link) : (putLink i x s).clock = s.clock := rfl
@[simp] theorem putLink_sessions (i : Nat) (x : Link) : (putLink i x s).sessions = s.sessions := rfl
@[simp] theorem putLink_plans (i : Nat) (x : Link) : (putLink i x s).plans = s.plans := rfl
@[simp] theorem putLink_env (i : Nat) (x : Link) : (putLink i x s).env = s.env := rfl
@[simp] theorem putLink_alloc (i : Nat) (x : Link) : (putLink i x s).alloc = s.alloc := rfl
@[simp] theorem putLink_bond (i : Nat) (x : Link) : (putLink i x s).bond = s.bond := rfl
@[simp] theorem putLink_ready (i : Nat) (x : Link) : (putLink i x s).ready = s.ready := rfl
@[simp] theorem putLink_faults (i : Nat) (x : Link) : (putLink i x s).faults = s.faults := rfl
@[simp] theorem putLink_lines (i : Nat) (x : Link) : (putLink i x s).lines = s.lines := rfl
@[simp] theorem putLink_order (i : Nat) (x : Link) : (putLink i x s).order = s.order := rfl
@[simp] theorem putLink_pending (i : Nat) (x : Link) : (putLink i x s).pending = s.pending := rfl
@[simp] theorem putLink_at_session (i : Nat) (x : Link) (j : Nat) :
    (putLink i x s).session j = s.session j := rfl
@[simp] theorem putLink_at_entry (i : Nat) (x : Link) (j : Nat) :
    (putLink i x s).entry j = s.entry j := rfl
@[simp] theorem putLink_at_power (i : Nat) (x : Link) (j : Nat) :
    (putLink i x s).power j = s.power j := rfl
@[simp] theorem putLink_at_module (i : Nat) (x : Link) (j m : Nat) :
    (putLink i x s).module j m = s.module j m := rfl
@[simp] theorem putLink_at_bondList (i : Nat) (x : Link) (j : Nat) :
    (putLink i x s).bondList j = s.bondList j := rfl
@[simp] theorem putLink_at_cabFaults (i : Nat) (x : Link) (j : Nat) :
    (putLink i x s).cabFaults j = s.cabFaults j := rfl
@[simp] theorem putLink_at_line (i : Nat) (x : Link) (j : Nat) :
    (putLink i x s).line j = s.line j := rfl
@[simp] theorem putLink_at_ceiling (i : Nat) (x : Link) (j : Nat) :
    (putLink i x s).ceiling j = s.ceiling j := rfl

/-! ### putLinkBay -/

@[simp] theorem putLinkBay_clock (i : Nat) (x : LinkBay) : (putLinkBay i x s).clock = s.clock := rfl
@[simp] theorem putLinkBay_sessions (i : Nat) (x : LinkBay) : (putLinkBay i x s).sessions = s.sessions := rfl
@[simp] theorem putLinkBay_plans (i : Nat) (x : LinkBay) : (putLinkBay i x s).plans = s.plans := rfl
@[simp] theorem putLinkBay_env (i : Nat) (x : LinkBay) : (putLinkBay i x s).env = s.env := rfl
@[simp] theorem putLinkBay_alloc (i : Nat) (x : LinkBay) : (putLinkBay i x s).alloc = s.alloc := rfl
@[simp] theorem putLinkBay_bond (i : Nat) (x : LinkBay) : (putLinkBay i x s).bond = s.bond := rfl
@[simp] theorem putLinkBay_ready (i : Nat) (x : LinkBay) : (putLinkBay i x s).ready = s.ready := rfl
@[simp] theorem putLinkBay_faults (i : Nat) (x : LinkBay) : (putLinkBay i x s).faults = s.faults := rfl
@[simp] theorem putLinkBay_lines (i : Nat) (x : LinkBay) : (putLinkBay i x s).lines = s.lines := rfl
@[simp] theorem putLinkBay_order (i : Nat) (x : LinkBay) : (putLinkBay i x s).order = s.order := rfl
@[simp] theorem putLinkBay_pending (i : Nat) (x : LinkBay) : (putLinkBay i x s).pending = s.pending := rfl
@[simp] theorem putLinkBay_at_session (i : Nat) (x : LinkBay) (j : Nat) :
    (putLinkBay i x s).session j = s.session j := rfl
@[simp] theorem putLinkBay_at_entry (i : Nat) (x : LinkBay) (j : Nat) :
    (putLinkBay i x s).entry j = s.entry j := rfl
@[simp] theorem putLinkBay_at_power (i : Nat) (x : LinkBay) (j : Nat) :
    (putLinkBay i x s).power j = s.power j := rfl
@[simp] theorem putLinkBay_at_module (i : Nat) (x : LinkBay) (j m : Nat) :
    (putLinkBay i x s).module j m = s.module j m := rfl
@[simp] theorem putLinkBay_at_bondList (i : Nat) (x : LinkBay) (j : Nat) :
    (putLinkBay i x s).bondList j = s.bondList j := rfl
@[simp] theorem putLinkBay_at_cabFaults (i : Nat) (x : LinkBay) (j : Nat) :
    (putLinkBay i x s).cabFaults j = s.cabFaults j := rfl
@[simp] theorem putLinkBay_at_line (i : Nat) (x : LinkBay) (j : Nat) :
    (putLinkBay i x s).line j = s.line j := rfl
@[simp] theorem putLinkBay_at_ceiling (i : Nat) (x : LinkBay) (j : Nat) :
    (putLinkBay i x s).ceiling j = s.ceiling j := rfl

/-! ### putPower -/

@[simp] theorem putPower_clock (i : Nat) (x : BayPower) : (putPower i x s).clock = s.clock := rfl
@[simp] theorem putPower_sessions (i : Nat) (x : BayPower) : (putPower i x s).sessions = s.sessions := rfl
@[simp] theorem putPower_plans (i : Nat) (x : BayPower) : (putPower i x s).plans = s.plans := rfl
@[simp] theorem putPower_env (i : Nat) (x : BayPower) : (putPower i x s).env = s.env := rfl
@[simp] theorem putPower_alloc (i : Nat) (x : BayPower) : (putPower i x s).alloc = s.alloc := rfl
@[simp] theorem putPower_links (i : Nat) (x : BayPower) : (putPower i x s).links = s.links := rfl
@[simp] theorem putPower_ready (i : Nat) (x : BayPower) : (putPower i x s).ready = s.ready := rfl
@[simp] theorem putPower_faults (i : Nat) (x : BayPower) : (putPower i x s).faults = s.faults := rfl
@[simp] theorem putPower_lines (i : Nat) (x : BayPower) : (putPower i x s).lines = s.lines := rfl
@[simp] theorem putPower_order (i : Nat) (x : BayPower) : (putPower i x s).order = s.order := rfl
@[simp] theorem putPower_pending (i : Nat) (x : BayPower) : (putPower i x s).pending = s.pending := rfl
@[simp] theorem putPower_at_session (i : Nat) (x : BayPower) (j : Nat) :
    (putPower i x s).session j = s.session j := rfl
@[simp] theorem putPower_at_entry (i : Nat) (x : BayPower) (j : Nat) :
    (putPower i x s).entry j = s.entry j := rfl
@[simp] theorem putPower_at_link (i : Nat) (x : BayPower) (j : Nat) :
    (putPower i x s).link j = s.link j := rfl
@[simp] theorem putPower_at_linkBay (i : Nat) (x : BayPower) (j : Nat) :
    (putPower i x s).linkBay j = s.linkBay j := rfl
@[simp] theorem putPower_at_module (i : Nat) (x : BayPower) (j m : Nat) :
    (putPower i x s).module j m = s.module j m := rfl
@[simp] theorem putPower_at_bondList (i : Nat) (x : BayPower) (j : Nat) :
    (putPower i x s).bondList j = s.bondList j := rfl
@[simp] theorem putPower_at_cabFaults (i : Nat) (x : BayPower) (j : Nat) :
    (putPower i x s).cabFaults j = s.cabFaults j := rfl
@[simp] theorem putPower_at_line (i : Nat) (x : BayPower) (j : Nat) :
    (putPower i x s).line j = s.line j := rfl
@[simp] theorem putPower_at_ceiling (i : Nat) (x : BayPower) (j : Nat) :
    (putPower i x s).ceiling j = s.ceiling j := rfl

/-! ### putModule -/

@[simp] theorem putModule_clock (i k : Nat) (x : Module) : (putModule i k x s).clock = s.clock := rfl
@[simp] theorem putModule_sessions (i k : Nat) (x : Module) : (putModule i k x s).sessions = s.sessions := rfl
@[simp] theorem putModule_plans (i k : Nat) (x : Module) : (putModule i k x s).plans = s.plans := rfl
@[simp] theorem putModule_env (i k : Nat) (x : Module) : (putModule i k x s).env = s.env := rfl
@[simp] theorem putModule_alloc (i k : Nat) (x : Module) : (putModule i k x s).alloc = s.alloc := rfl
@[simp] theorem putModule_links (i k : Nat) (x : Module) : (putModule i k x s).links = s.links := rfl
@[simp] theorem putModule_ready (i k : Nat) (x : Module) : (putModule i k x s).ready = s.ready := rfl
@[simp] theorem putModule_faults (i k : Nat) (x : Module) : (putModule i k x s).faults = s.faults := rfl
@[simp] theorem putModule_lines (i k : Nat) (x : Module) : (putModule i k x s).lines = s.lines := rfl
@[simp] theorem putModule_order (i k : Nat) (x : Module) : (putModule i k x s).order = s.order := rfl
@[simp] theorem putModule_pending (i k : Nat) (x : Module) : (putModule i k x s).pending = s.pending := rfl
@[simp] theorem putModule_at_session (i k : Nat) (x : Module) (j : Nat) :
    (putModule i k x s).session j = s.session j := rfl
@[simp] theorem putModule_at_entry (i k : Nat) (x : Module) (j : Nat) :
    (putModule i k x s).entry j = s.entry j := rfl
@[simp] theorem putModule_at_link (i k : Nat) (x : Module) (j : Nat) :
    (putModule i k x s).link j = s.link j := rfl
@[simp] theorem putModule_at_linkBay (i k : Nat) (x : Module) (j : Nat) :
    (putModule i k x s).linkBay j = s.linkBay j := rfl
@[simp] theorem putModule_at_power (i k : Nat) (x : Module) (j : Nat) :
    (putModule i k x s).power j = s.power j := rfl
@[simp] theorem putModule_at_bondList (i k : Nat) (x : Module) (j : Nat) :
    (putModule i k x s).bondList j = s.bondList j := rfl
@[simp] theorem putModule_at_cabFaults (i k : Nat) (x : Module) (j : Nat) :
    (putModule i k x s).cabFaults j = s.cabFaults j := rfl
@[simp] theorem putModule_at_line (i k : Nat) (x : Module) (j : Nat) :
    (putModule i k x s).line j = s.line j := rfl
@[simp] theorem putModule_at_ceiling (i k : Nat) (x : Module) (j : Nat) :
    (putModule i k x s).ceiling j = s.ceiling j := rfl

/-! ### putBondList -/

@[simp] theorem putBondList_clock (i : Nat) (x : List BondEntry) : (putBondList i x s).clock = s.clock := rfl
@[simp] theorem putBondList_sessions (i : Nat) (x : List BondEntry) : (putBondList i x s).sessions = s.sessions := rfl
@[simp] theorem putBondList_plans (i : Nat) (x : List BondEntry) : (putBondList i x s).plans = s.plans := rfl
@[simp] theorem putBondList_env (i : Nat) (x : List BondEntry) : (putBondList i x s).env = s.env := rfl
@[simp] theorem putBondList_alloc (i : Nat) (x : List BondEntry) : (putBondList i x s).alloc = s.alloc := rfl
@[simp] theorem putBondList_links (i : Nat) (x : List BondEntry) : (putBondList i x s).links = s.links := rfl
@[simp] theorem putBondList_ready (i : Nat) (x : List BondEntry) : (putBondList i x s).ready = s.ready := rfl
@[simp] theorem putBondList_faults (i : Nat) (x : List BondEntry) : (putBondList i x s).faults = s.faults := rfl
@[simp] theorem putBondList_lines (i : Nat) (x : List BondEntry) : (putBondList i x s).lines = s.lines := rfl
@[simp] theorem putBondList_order (i : Nat) (x : List BondEntry) : (putBondList i x s).order = s.order := rfl
@[simp] theorem putBondList_pending (i : Nat) (x : List BondEntry) : (putBondList i x s).pending = s.pending := rfl
@[simp] theorem putBondList_at_session (i : Nat) (x : List BondEntry) (j : Nat) :
    (putBondList i x s).session j = s.session j := rfl
@[simp] theorem putBondList_at_entry (i : Nat) (x : List BondEntry) (j : Nat) :
    (putBondList i x s).entry j = s.entry j := rfl
@[simp] theorem putBondList_at_link (i : Nat) (x : List BondEntry) (j : Nat) :
    (putBondList i x s).link j = s.link j := rfl
@[simp] theorem putBondList_at_linkBay (i : Nat) (x : List BondEntry) (j : Nat) :
    (putBondList i x s).linkBay j = s.linkBay j := rfl
@[simp] theorem putBondList_at_power (i : Nat) (x : List BondEntry) (j : Nat) :
    (putBondList i x s).power j = s.power j := rfl
@[simp] theorem putBondList_at_module (i : Nat) (x : List BondEntry) (j m : Nat) :
    (putBondList i x s).module j m = s.module j m := rfl
@[simp] theorem putBondList_at_cabFaults (i : Nat) (x : List BondEntry) (j : Nat) :
    (putBondList i x s).cabFaults j = s.cabFaults j := rfl
@[simp] theorem putBondList_at_line (i : Nat) (x : List BondEntry) (j : Nat) :
    (putBondList i x s).line j = s.line j := rfl
@[simp] theorem putBondList_at_ceiling (i : Nat) (x : List BondEntry) (j : Nat) :
    (putBondList i x s).ceiling j = s.ceiling j := rfl

/-! ### putRaiseList -/

@[simp] theorem putRaiseList_clock (x : List Nat) : (putRaiseList x s).clock = s.clock := rfl
@[simp] theorem putRaiseList_sessions (x : List Nat) : (putRaiseList x s).sessions = s.sessions := rfl
@[simp] theorem putRaiseList_plans (x : List Nat) : (putRaiseList x s).plans = s.plans := rfl
@[simp] theorem putRaiseList_env (x : List Nat) : (putRaiseList x s).env = s.env := rfl
@[simp] theorem putRaiseList_alloc (x : List Nat) : (putRaiseList x s).alloc = s.alloc := rfl
@[simp] theorem putRaiseList_links (x : List Nat) : (putRaiseList x s).links = s.links := rfl
@[simp] theorem putRaiseList_ready (x : List Nat) : (putRaiseList x s).ready = s.ready := rfl
@[simp] theorem putRaiseList_faults (x : List Nat) : (putRaiseList x s).faults = s.faults := rfl
@[simp] theorem putRaiseList_lines (x : List Nat) : (putRaiseList x s).lines = s.lines := rfl
@[simp] theorem putRaiseList_order (x : List Nat) : (putRaiseList x s).order = s.order := rfl
@[simp] theorem putRaiseList_pending (x : List Nat) : (putRaiseList x s).pending = s.pending := rfl
@[simp] theorem putRaiseList_at_session (x : List Nat) (j : Nat) :
    (putRaiseList x s).session j = s.session j := rfl
@[simp] theorem putRaiseList_at_entry (x : List Nat) (j : Nat) :
    (putRaiseList x s).entry j = s.entry j := rfl
@[simp] theorem putRaiseList_at_link (x : List Nat) (j : Nat) :
    (putRaiseList x s).link j = s.link j := rfl
@[simp] theorem putRaiseList_at_linkBay (x : List Nat) (j : Nat) :
    (putRaiseList x s).linkBay j = s.linkBay j := rfl
@[simp] theorem putRaiseList_at_power (x : List Nat) (j : Nat) :
    (putRaiseList x s).power j = s.power j := rfl
@[simp] theorem putRaiseList_at_module (x : List Nat) (j m : Nat) :
    (putRaiseList x s).module j m = s.module j m := rfl
@[simp] theorem putRaiseList_at_bondList (x : List Nat) (j : Nat) :
    (putRaiseList x s).bondList j = s.bondList j := rfl
@[simp] theorem putRaiseList_at_cabFaults (x : List Nat) (j : Nat) :
    (putRaiseList x s).cabFaults j = s.cabFaults j := rfl
@[simp] theorem putRaiseList_at_line (x : List Nat) (j : Nat) :
    (putRaiseList x s).line j = s.line j := rfl
@[simp] theorem putRaiseList_at_ceiling (x : List Nat) (j : Nat) :
    (putRaiseList x s).ceiling j = s.ceiling j := rfl

/-! ### putCabFaults -/

@[simp] theorem putCabFaults_clock (i : Nat) (x : CabinetFaults) : (putCabFaults i x s).clock = s.clock := rfl
@[simp] theorem putCabFaults_sessions (i : Nat) (x : CabinetFaults) : (putCabFaults i x s).sessions = s.sessions := rfl
@[simp] theorem putCabFaults_plans (i : Nat) (x : CabinetFaults) : (putCabFaults i x s).plans = s.plans := rfl
@[simp] theorem putCabFaults_env (i : Nat) (x : CabinetFaults) : (putCabFaults i x s).env = s.env := rfl
@[simp] theorem putCabFaults_alloc (i : Nat) (x : CabinetFaults) : (putCabFaults i x s).alloc = s.alloc := rfl
@[simp] theorem putCabFaults_bond (i : Nat) (x : CabinetFaults) : (putCabFaults i x s).bond = s.bond := rfl
@[simp] theorem putCabFaults_links (i : Nat) (x : CabinetFaults) : (putCabFaults i x s).links = s.links := rfl
@[simp] theorem putCabFaults_ready (i : Nat) (x : CabinetFaults) : (putCabFaults i x s).ready = s.ready := rfl
@[simp] theorem putCabFaults_lines (i : Nat) (x : CabinetFaults) : (putCabFaults i x s).lines = s.lines := rfl
@[simp] theorem putCabFaults_order (i : Nat) (x : CabinetFaults) : (putCabFaults i x s).order = s.order := rfl
@[simp] theorem putCabFaults_pending (i : Nat) (x : CabinetFaults) : (putCabFaults i x s).pending = s.pending := rfl
@[simp] theorem putCabFaults_at_session (i : Nat) (x : CabinetFaults) (j : Nat) :
    (putCabFaults i x s).session j = s.session j := rfl
@[simp] theorem putCabFaults_at_entry (i : Nat) (x : CabinetFaults) (j : Nat) :
    (putCabFaults i x s).entry j = s.entry j := rfl
@[simp] theorem putCabFaults_at_link (i : Nat) (x : CabinetFaults) (j : Nat) :
    (putCabFaults i x s).link j = s.link j := rfl
@[simp] theorem putCabFaults_at_linkBay (i : Nat) (x : CabinetFaults) (j : Nat) :
    (putCabFaults i x s).linkBay j = s.linkBay j := rfl
@[simp] theorem putCabFaults_at_power (i : Nat) (x : CabinetFaults) (j : Nat) :
    (putCabFaults i x s).power j = s.power j := rfl
@[simp] theorem putCabFaults_at_module (i : Nat) (x : CabinetFaults) (j m : Nat) :
    (putCabFaults i x s).module j m = s.module j m := rfl
@[simp] theorem putCabFaults_at_bondList (i : Nat) (x : CabinetFaults) (j : Nat) :
    (putCabFaults i x s).bondList j = s.bondList j := rfl
@[simp] theorem putCabFaults_at_line (i : Nat) (x : CabinetFaults) (j : Nat) :
    (putCabFaults i x s).line j = s.line j := rfl
@[simp] theorem putCabFaults_at_ceiling (i : Nat) (x : CabinetFaults) (j : Nat) :
    (putCabFaults i x s).ceiling j = s.ceiling j := rfl

/-! ### putLine -/

@[simp] theorem putLine_clock (i : Nat) (x : Line) : (putLine i x s).clock = s.clock := rfl
@[simp] theorem putLine_sessions (i : Nat) (x : Line) : (putLine i x s).sessions = s.sessions := rfl
@[simp] theorem putLine_plans (i : Nat) (x : Line) : (putLine i x s).plans = s.plans := rfl
@[simp] theorem putLine_env (i : Nat) (x : Line) : (putLine i x s).env = s.env := rfl
@[simp] theorem putLine_alloc (i : Nat) (x : Line) : (putLine i x s).alloc = s.alloc := rfl
@[simp] theorem putLine_bond (i : Nat) (x : Line) : (putLine i x s).bond = s.bond := rfl
@[simp] theorem putLine_links (i : Nat) (x : Line) : (putLine i x s).links = s.links := rfl
@[simp] theorem putLine_ready (i : Nat) (x : Line) : (putLine i x s).ready = s.ready := rfl
@[simp] theorem putLine_faults (i : Nat) (x : Line) : (putLine i x s).faults = s.faults := rfl
@[simp] theorem putLine_order (i : Nat) (x : Line) : (putLine i x s).order = s.order := rfl
@[simp] theorem putLine_pending (i : Nat) (x : Line) : (putLine i x s).pending = s.pending := rfl
@[simp] theorem putLine_at_session (i : Nat) (x : Line) (j : Nat) :
    (putLine i x s).session j = s.session j := rfl
@[simp] theorem putLine_at_entry (i : Nat) (x : Line) (j : Nat) :
    (putLine i x s).entry j = s.entry j := rfl
@[simp] theorem putLine_at_link (i : Nat) (x : Line) (j : Nat) :
    (putLine i x s).link j = s.link j := rfl
@[simp] theorem putLine_at_linkBay (i : Nat) (x : Line) (j : Nat) :
    (putLine i x s).linkBay j = s.linkBay j := rfl
@[simp] theorem putLine_at_power (i : Nat) (x : Line) (j : Nat) :
    (putLine i x s).power j = s.power j := rfl
@[simp] theorem putLine_at_module (i : Nat) (x : Line) (j m : Nat) :
    (putLine i x s).module j m = s.module j m := rfl
@[simp] theorem putLine_at_bondList (i : Nat) (x : Line) (j : Nat) :
    (putLine i x s).bondList j = s.bondList j := rfl
@[simp] theorem putLine_at_cabFaults (i : Nat) (x : Line) (j : Nat) :
    (putLine i x s).cabFaults j = s.cabFaults j := rfl
@[simp] theorem putLine_at_ceiling (i : Nat) (x : Line) (j : Nat) :
    (putLine i x s).ceiling j = s.ceiling j := rfl

/-! ### Parts of a block that a write leaves -/

@[simp] theorem putPower_modules (i : Nat) (x : BayPower) : (putPower i x s).bond.modules = s.bond.modules := rfl
@[simp] theorem putPower_raiseList (i : Nat) (x : BayPower) : (putPower i x s).bond.raiseList = s.bond.raiseList := rfl
@[simp] theorem putPower_bondLists (i : Nat) (x : BayPower) : (putPower i x s).bond.bondLists = s.bond.bondLists := rfl
@[simp] theorem putModule_bays (i k : Nat) (x : Module) : (putModule i k x s).bond.bays = s.bond.bays := rfl
@[simp] theorem putModule_raiseList (i k : Nat) (x : Module) :
    (putModule i k x s).bond.raiseList = s.bond.raiseList := rfl
@[simp] theorem putModule_bondLists (i k : Nat) (x : Module) :
    (putModule i k x s).bond.bondLists = s.bond.bondLists := rfl
@[simp] theorem putBondList_bays (i : Nat) (x : List BondEntry) : (putBondList i x s).bond.bays = s.bond.bays := rfl
@[simp] theorem putBondList_modules (i : Nat) (x : List BondEntry) :
    (putBondList i x s).bond.modules = s.bond.modules := rfl
@[simp] theorem putBondList_raiseList (i : Nat) (x : List BondEntry) :
    (putBondList i x s).bond.raiseList = s.bond.raiseList := rfl
@[simp] theorem putRaiseList_bays (x : List Nat) : (putRaiseList x s).bond.bays = s.bond.bays := rfl
@[simp] theorem putRaiseList_modules (x : List Nat) : (putRaiseList x s).bond.modules = s.bond.modules := rfl
@[simp] theorem putRaiseList_raiseList (x : List Nat) : (putRaiseList x s).bond.raiseList = x := rfl
@[simp] theorem putRaiseList_bondLists (x : List Nat) :
    (putRaiseList x s).bond.bondLists = s.bond.bondLists := rfl

/-! ### Reading what was written -/

theorem session_putSession (i j : Nat) (x : Session) :
    (putSession i x s).session j = if i = j ∧ 1 ≤ i ∧ i ≤ 48 then x else s.session j := get1_set1 ..

theorem entry_putEntry (i j : Nat) (x : PlanEntry) :
    (putEntry i x s).entry j = if i = j ∧ 1 ≤ i ∧ i ≤ 96 then x else s.entry j := get1_set1 ..

theorem link_putLink (i j : Nat) (x : Link) :
    (putLink i x s).link j = if i = j ∧ 1 ≤ i ∧ i ≤ 8 then x else s.link j := get1_set1 ..

theorem power_putPower (i j : Nat) (x : BayPower) :
    (putPower i x s).power j = if i = j ∧ 1 ≤ i ∧ i ≤ 48 then x else s.power j := get1_set1 ..

theorem bondList_putBondList (i j : Nat) (x : List BondEntry) :
    (putBondList i x s).bondList j = if i = j ∧ 1 ≤ i ∧ i ≤ 8 then x else s.bondList j := get1_set1 ..

theorem cabFaults_putCabFaults (i j : Nat) (x : CabinetFaults) :
    (putCabFaults i x s).cabFaults j = if i = j ∧ 1 ≤ i ∧ i ≤ 8 then x else s.cabFaults j := get1_set1 ..

theorem line_putLine (i j : Nat) (x : Line) :
    (putLine i x s).line j = if i = j ∧ 1 ≤ i ∧ i ≤ 8 then x else s.line j := get1_set1 ..

/-- A module has its own place among the 32 records. -/
theorem moduleIndex_inj (c m d k : Nat) (h : moduleIndex c m = moduleIndex d k) (hp : moduleIndex c m ≠ 0) :
    c = d ∧ m = k := by
  unfold moduleIndex validModule at *
  split at h <;> split at h <;> simp_all
  omega

theorem module_putModule (c m d k : Nat) (x : Module) (hc : validCab c) (hm : validModule m) :
    (putModule c m x s).module d k = if c = d ∧ m = k then x else s.module d k := by
  have hi : moduleIndex c m = 4 * (c - 1) + m := by
    unfold moduleIndex; simp [hm]; simp [validCab] at hc; omega
  have hr : 1 ≤ moduleIndex c m ∧ moduleIndex c m ≤ 32 := by
    simp [validCab] at hc; simp [validModule] at hm; omega
  unfold putModule State.module
  simp only [get1_set1]
  by_cases h : c = d ∧ m = k
  · obtain ⟨rfl, rfl⟩ := h
    simp [hr]
  · rw [if_neg h, if_neg]
    intro hh
    exact h (moduleIndex_inj c m d k hh.1 (by omega))

end Sys2Proof.Machine
end

