-- ==== Sys2Proof/Laws/Ripple.lean ====
section
/-! SUPPORT. The operations that change power change nothing else (`Ripple`). -/

namespace Sys2Proof.Machine

/-! ### The relations compose -/

theorem OrderKept.refl (a : OrderLink) : OrderKept a a := rfl

theorem OrderKept.trans {a b c : OrderLink} (h : OrderKept a b) (k : OrderKept b c) : OrderKept a c := by
  unfold OrderKept at *
  rw [k, h]

theorem LinkKept.refl (a : Link) : LinkKept a a := rfl

theorem LinkKept.trans {a b c : Link} (h : LinkKept a b) (k : LinkKept b c) : LinkKept a c := by
  unfold LinkKept at *
  rw [k, h]

theorem AllocKept.refl (a : Allocator) : AllocKept a a := rfl

theorem AllocKept.trans {a b c : Allocator} (h : AllocKept a b) (k : AllocKept b c) : AllocKept a c := by
  unfold AllocKept at *
  rw [k, h]

theorem SessionKept.refl (a : Session) : SessionKept a a := ⟨rfl, Nat.le_refl _⟩

theorem SessionKept.trans {a b c : Session} (h : SessionKept a b) (k : SessionKept b c) : SessionKept a c := by
  refine ⟨?_, Nat.le_trans k.2 h.2⟩
  rw [k.1, h.1]

theorem Ripple.refl (s : State) : Ripple s s :=
  ⟨rfl, rfl, rfl, rfl, rfl, rfl, rfl, fun _ => .refl _, .refl _, rfl, fun _ => rfl, fun _ => .refl _, .refl _, Nat.le_refl _⟩

theorem Ripple.trans {s t u : State} (h : Ripple s t) (k : Ripple t u) : Ripple s u where
  clock := k.clock.trans h.clock
  plans := k.plans.trans h.plans
  env := k.env.trans h.env
  ready := k.ready.trans h.ready
  faults := k.faults.trans h.faults
  lines := k.lines.trans h.lines
  pending := k.pending.trans h.pending
  session b := (h.session b).trans (k.session b)
  alloc := h.alloc.trans k.alloc
  modules := k.modules.trans h.modules
  reported b := (k.reported b).trans (h.reported b)
  link c := (h.link c).trans (k.link c)
  order := h.order.trans k.order
  replies := Nat.le_trans k.replies h.replies

/-- An operation repeated over a list. -/
theorem Ripple.forEach {f : Nat → State → State} (hf : ∀ i s, Ripple s (f i s)) (l : List Nat) (s : State) :
    Ripple s (Machine.forEach l f s) := by
  induction l generalizing s with
  | nil => exact .refl s
  | cons i l ih => exact (hf i s).trans (ih (f i s))

/-! ### The outbound queue -/

theorem takeFirst_spec {α : Type} (p : α → Bool) (l : List α) :
    match takeFirst p l with
    | none => ∀ x ∈ l, p x = false
    | some (a, r) => p a = true ∧ ∃ l1 l2, l = l1 ++ a :: l2 ∧ r = l1 ++ l2 ∧ ∀ x ∈ l1, p x = false := by
  induction l with
  | nil => simp [takeFirst]
  | cons x l ih =>
    unfold takeFirst
    by_cases hx : p x
    · simp only [hx, if_true]
      exact ⟨trivial, [], l, rfl, rfl, by simp⟩
    · simp only [hx]
      cases h : takeFirst p l with
      | none =>
        rw [h] at ih
        simpa [hx] using ih
      | some ar =>
        rw [h] at ih
        obtain ⟨ha, l1, l2, h1, h2, h3⟩ := ih
        refine ⟨ha, x :: l1, l2, by simp [h1], by simp [h2], ?_⟩
        intro y hy
        rcases List.mem_cons.mp hy with rfl | hy
        · simpa using hx
        · exact h3 y hy

theorem OrderLink.startNext_replies (o : OrderLink) : o.startNext.replies ≤ o.replies := by
  unfold OrderLink.startNext OrderLink.replies
  split
  · exact Nat.le_refl _
  · have hs := takeFirst_spec (fun f : OutFrame => f.isReply) o.queue
    split
    · next a rest ha =>
      rw [ha] at hs
      obtain ⟨-, l1, l2, h1, h2, -⟩ := hs
      unfold OrderLink.transmit
      split <;> simp [h1, h2, List.filter_append, List.filter_cons] <;> split <;> simp
    · have hs' := takeFirst_spec (fun _ : OutFrame => true) o.queue
      split
      · next a rest ha =>
        rw [ha] at hs'
        obtain ⟨-, l1, l2, h1, h2, -⟩ := hs'
        unfold OrderLink.transmit
        split <;> simp [h1, h2, List.filter_append, List.filter_cons] <;> split <;> simp
      · exact Nat.le_refl _

theorem OrderLink.placeNotice_replies (o : OrderLink) (k : Byte) (body : List Byte) :
    (o.placeNotice k body).replies ≤ o.replies := by
  unfold OrderLink.placeNotice
  split
  · refine Nat.le_trans (OrderLink.startNext_replies _) ?_
    simp [OrderLink.replies, List.filter_append]
  · exact Nat.le_refl _

/-! ### Frames and notices -/

theorem OrderLink.startNext_kept (o : OrderLink) : OrderKept o o.startNext := by
  unfold OrderLink.startNext OrderLink.transmit OrderKept
  repeat' split
  all_goals rfl

theorem OrderLink.placeNotice_kept (o : OrderLink) (k : Byte) (body : List Byte) :
    OrderKept o (o.placeNotice k body) := by
  unfold OrderLink.placeNotice
  split
  · exact OrderKept.trans (b := { o with queue := o.queue ++ [⟨false, 0, k, body⟩] }) rfl
      (OrderLink.startNext_kept _)
  · rfl

theorem OrderLink.placeReply_kept (o : OrderLink) (tag k : Byte) (body : List Byte) :
    OrderKept o (o.placeReply tag k body) := by
  unfold OrderLink.placeReply
  dsimp only
  split
  · exact OrderKept.trans (b := { o with queue := o.queue ++ [⟨true, tag, k, body⟩] }) rfl
      (OrderLink.startNext_kept _)
  · split
    · next rest _ =>
      exact OrderKept.trans
        (b := { o with queue := rest ++ [⟨true, tag, k, body⟩], noticeLost := true }) rfl
        (OrderLink.startNext_kept _)
    · rfl

/-- A change of the order link alone. -/
theorem Ripple.ofOrder {s : State} {o : OrderLink} (h : OrderKept s.order o) (hr : o.replies ≤ s.order.replies) :
    Ripple s { s with order := o } :=
  ⟨rfl, rfl, rfl, rfl, rfl, rfl, rfl, fun _ => .refl _, .refl _, rfl, fun _ => rfl, fun _ => .refl _, h, hr⟩

/-- A change of the allocator alone. -/
theorem Ripple.ofAlloc {s : State} {a : Allocator} (h : AllocKept s.alloc a) : Ripple s { s with alloc := a } :=
  ⟨rfl, rfl, rfl, rfl, rfl, rfl, rfl, fun _ => .refl _, h, rfl, fun _ => rfl, fun _ => .refl _, .refl _, Nat.le_refl _⟩

theorem notify_ripple (k : NoticeKind) (body : List Byte) (s : State) : Ripple s (notify k body s) := by
  unfold notify
  split
  · exact .ofOrder (OrderLink.placeNotice_kept ..) (OrderLink.placeNotice_replies ..)
  · exact .refl s

theorem Link.hand_kept (l : Link) (m : CabMsg) : LinkKept l (l.hand m) := by
  unfold Link.hand Link.begin LinkKept
  split <;> rfl

theorem putLink_ripple (c : Nat) (x : Link) (s : State) (h : LinkKept (s.link c) x) : Ripple s (putLink c x s) where
  clock := rfl
  plans := rfl
  env := rfl
  ready := rfl
  faults := rfl
  lines := rfl
  pending := rfl
  session _ := .refl _
  alloc := .refl _
  modules := rfl
  reported _ := rfl
  link j := by
    rw [link_putLink]
    split
    · next hj => rw [← hj.1]; exact h
    · exact .refl _
  order := .refl _
  replies := Nat.le_refl _

theorem sendCab_ripple (c : Nat) (m : CabMsg) (s : State) : Ripple s (sendCab c m s) :=
  putLink_ripple _ _ _ (Link.hand_kept ..)

theorem sendIfUp_ripple (c : Nat) (m : CabMsg) (s : State) : Ripple s (sendIfUp c m s) := by
  unfold sendIfUp
  split
  · exact sendCab_ripple ..
  · exact .refl s

/-! ### Passes -/

theorem startPeriod_ripple (s : State) : Ripple s (startPeriod s) := .ofAlloc rfl

theorem startPass_ripple (s : State) : Ripple s (startPass s) := .ofAlloc rfl

theorem requestPass_ripple (s : State) : Ripple s (requestPass s) := by
  unfold requestPass
  split
  · split
    · exact .ofAlloc rfl
    · exact startPass_ripple s
  · exact .refl s

theorem markStale_ripple (s : State) : Ripple s (markStale s) := by
  unfold markStale
  split
  · exact .ofAlloc rfl
  · exact .refl s

/-! ### Setpoints -/

theorem putPower_ripple (b : Nat) (x : BayPower) (s : State) (h : x.reported = (s.power b).reported) :
    Ripple s (putPower b x s) where
  clock := rfl
  plans := rfl
  env := rfl
  ready := rfl
  faults := rfl
  lines := rfl
  pending := rfl
  session _ := .refl _
  alloc := .refl _
  modules := rfl
  reported j := by
    rw [power_putPower]
    split
    · next hj => rw [h, hj.1]
    · rfl
  link _ := .refl _
  order := .refl _
  replies := Nat.le_refl _

theorem putRaiseList_ripple (l : List Nat) (s : State) : Ripple s (putRaiseList l s) :=
  ⟨rfl, rfl, rfl, rfl, rfl, rfl, rfl, fun _ => .refl _, .refl _, rfl, fun _ => rfl, fun _ => .refl _, .refl _, Nat.le_refl _⟩

theorem putBondList_ripple (c : Nat) (l : List BondEntry) (s : State) : Ripple s (putBondList c l s) :=
  ⟨rfl, rfl, rfl, rfl, rfl, rfl, rfl, fun _ => .refl _, .refl _, rfl, fun _ => rfl, fun _ => .refl _, .refl _, Nat.le_refl _⟩

theorem sendSetpoint_ripple (b v : Nat) (s : State) : Ripple s (sendSetpoint b v s) :=
  Ripple.trans (t := putPower b { s.power b with commanded := v } s) (putPower_ripple _ _ _ rfl)
    (sendIfUp_ripple ..)

theorem reduce_ripple (b v : Nat) (s : State) : Ripple s (reduce b v s) :=
  (sendSetpoint_ripple b v s).trans (putPower_ripple _ _ _ rfl)

theorem examineFrom_ripple (l : List Nat) (s : State) : Ripple s (examineFrom l s) := by
  induction l generalizing s with
  | nil => exact putRaiseList_ripple ..
  | cons h rest ih =>
    unfold examineFrom
    dsimp only
    split
    · exact ih s
    · split
      · exact putRaiseList_ripple ..
      · split
        · exact putRaiseList_ripple ..
        · split
          · exact (sendSetpoint_ripple ..).trans (ih _)
          · exact (sendSetpoint_ripple ..).trans (putRaiseList_ripple ..)

theorem examineRaises_ripple (s : State) : Ripple s (examineRaises s) := by
  unfold examineRaises
  split
  · exact .refl s
  · exact examineFrom_ripple ..

theorem trimBondList_ripple (b : Nat) (s : State) : Ripple s (trimBondList b s) := putBondList_ripple ..

theorem lowerGrant_ripple (b : Nat) (s : State) : Ripple s (lowerGrant b s) := by
  unfold lowerGrant
  split
  · dsimp only
    refine Ripple.trans ?_ (examineRaises_ripple _)
    refine Ripple.trans ?_ (trimBondList_ripple _ _)
    refine Ripple.trans ?_ (putRaiseList_ripple _ _)
    split
    · exact reduce_ripple ..
    · exact .refl s
  · exact .refl s

/-! ### Sheds and the available power -/

theorem putSession_ripple (b : Nat) (x : Session) (s : State) (h : SessionKept (s.session b) x) :
    Ripple s (putSession b x s) where
  clock := rfl
  plans := rfl
  env := rfl
  ready := rfl
  faults := rfl
  lines := rfl
  pending := rfl
  session j := by
    rw [session_putSession]
    split
    · next hj => rw [← hj.1]; exact h
    · exact .refl _
  alloc := .refl _
  modules := rfl
  reported _ := rfl
  link _ := .refl _
  order := .refl _
  replies := Nat.le_refl _

theorem shedGrant_le (g c : Nat) (d : Int) : shedGrant g c d ≤ g := by
  unfold shedGrant
  dsimp only
  split <;> omega

theorem visit_ripple (w : ShedWalk) (b : Nat) : Ripple w.state (w.visit b).state := by
  unfold ShedWalk.visit
  dsimp only
  split
  · exact .refl _
  · exact putSession_ripple _ _ _ ⟨rfl, shedGrant_le ..⟩

theorem shedWalk_ripple (cause : ShedCause) (l : List Nat) (w : ShedWalk) :
    Ripple w.state (shedWalk cause l w).state := by
  induction l generalizing w with
  | nil => exact .refl _
  | cons b rest ih =>
    unfold shedWalk
    split
    · exact .refl _
    · exact (visit_ripple w b).trans (ih _)

theorem shed_ripple (cause : ShedCause) (target : Int) (s : State) : Ripple s (shed cause target s) := by
  unfold shed
  dsimp only
  refine Ripple.trans ?_ (requestPass_ripple _)
  refine Ripple.trans ?_ (notify_ripple _ _ _)
  refine Ripple.trans ?_ (markStale_ripple _)
  refine Ripple.trans ?_ (Ripple.forEach lowerGrant_ripple _ _)
  exact shedWalk_ripple cause _ ⟨s, _, 0, []⟩

theorem handOnAvailable_ripple (old : Nat) (s : State) : Ripple s (handOnAvailable old s) := by
  unfold handOnAvailable
  dsimp only
  have h1 : Ripple s (if s.env.available < old then markStale s else s) := by
    split
    · exact markStale_ripple s
    · exact .refl s
  have h2 : ∀ u, Ripple u (if s.env.available < commandedSum u then shed .envelope s.env.available u else u) := by
    intro u
    split
    · exact shed_ripple ..
    · exact .refl u
  split
  · exact h1.trans (h2 _)
  · exact (h1.trans (h2 _)).trans ((requestPass_ripple _).trans (examineRaises_ripple _))

/-- The available power is computed afresh, and what follows is a ripple (R66, R67). -/
theorem recompute_ripple (s : State) : Ripple { s with env := s.env.fresh } (recompute s) :=
  handOnAvailable_ripple _ _

/-! ### Holds, grants and lines -/

theorem withdrawGrant_ripple (b : Nat) (s : State) :
    Ripple (putSession b { s.session b with grant := 0, short := false, preShort := false } s) (withdrawGrant b s) :=
  lowerGrant_ripple ..

/-! ### Operations that leave the power of the site as it is -/

theorem PowerAs.refl (s : State) : PowerAs s s := ⟨rfl, rfl, rfl⟩

theorem PowerAs.trans {s t u : State} (h : PowerAs s t) (k : PowerAs t u) : PowerAs s u :=
  ⟨k.sessions.trans h.sessions, k.bond.trans h.bond, k.links.trans h.links⟩

theorem Quiet.refl (s : State) : Quiet s s := ⟨.refl s, .refl s⟩

theorem Quiet.trans {s t u : State} (h : Quiet s t) (k : Quiet t u) : Quiet s u :=
  ⟨h.ripple.trans k.ripple, h.power.trans k.power⟩

theorem notify_quiet (k : NoticeKind) (body : List Byte) (s : State) : Quiet s (notify k body s) :=
  ⟨notify_ripple k body s, by unfold notify; split <;> exact ⟨rfl, rfl, rfl⟩⟩

theorem requestPass_quiet (s : State) : Quiet s (requestPass s) :=
  ⟨requestPass_ripple s, by unfold requestPass; (repeat' split) <;> exact ⟨rfl, rfl, rfl⟩⟩

theorem markStale_quiet (s : State) : Quiet s (markStale s) :=
  ⟨markStale_ripple s, by unfold markStale; split <;> exact ⟨rfl, rfl, rfl⟩⟩

end Sys2Proof.Machine
end

