-- ==== Sys2Proof/Laws/Answer.lean ====
section
/-! SUPPORT. The outbound queue: a reply that has a place is placed, and an order that can be taken is answered. -/

namespace Sys2Proof.Machine

/-- An entry placed last stays last unless it is the one that begins to be sent. -/
theorem OrderLink.startNext_last (o : OrderLink) (f : OutFrame) (hr : f.isReply = true)
    (h : o.queue.getLast? = some f) :
    o.startNext.sending = some f ∨ o.startNext.queue.getLast? = some f := by
  unfold OrderLink.startNext
  split
  · exact .inr h
  · have hs := takeFirst_spec (fun f : OutFrame => f.isReply) o.queue
    have hmem : f ∈ o.queue := List.mem_of_getLast? h
    split
    · next a rest ha =>
      rw [ha] at hs
      obtain ⟨hq, l1, l2, h1, h2, -⟩ := hs
      unfold OrderLink.transmit
      simp only [hq, if_true]
      cases l2 with
      | nil =>
        left
        rw [h1] at h
        simp at h
        rw [h]
      | cons y l2 =>
        right
        rw [h1] at h
        rw [h2]
        simpa [List.getLast?_append, List.getLast?_cons_cons] using h
    · next ha =>
      rw [ha] at hs
      have := hs f hmem
      simp [hr] at this

theorem OrderLink.placeReply_answered (o : OrderLink) (tag k : Byte) (body : List Byte)
    (h : o.replies < queueSize) :
    (o.placeReply tag k body).sending = some ⟨true, tag, k, body⟩ ∨
      (o.placeReply tag k body).queue.getLast? = some ⟨true, tag, k, body⟩ := by
  unfold OrderLink.placeReply
  dsimp only
  split
  · exact OrderLink.startNext_last _ _ rfl (by simp)
  · next hlen =>
    split
    · exact OrderLink.startNext_last _ _ rfl (by simp)
    · next hn =>
      exfalso
      have hs := takeFirst_spec (fun x : OutFrame => !x.isReply) o.queue
      rw [hn] at hs
      have : o.queue.filter (fun f => f.isReply) = o.queue := by
        rw [List.filter_eq_self]
        intro a ha
        simpa using hs a ha
      unfold OrderLink.replies at h
      rw [this] at h
      omega

/-- An order that can be taken is carried out, and its reply placed last (R180, R182). -/
theorem replied_answered (tag k : Byte) (body : List Byte) (s : State) (h : s.order.replies < queueSize) :
    Answered tag k body (s.replied tag k body) :=
  OrderLink.placeReply_answered _ _ _ _ h

theorem takeFrame_taken (f : OrderFrame) (k : Byte) (effect : State → State × List Byte) (s : State)
    (h : canTake s) : takeFrame f k effect s = ((effect s).1).replied f.tag k (effect s).2 := by
  unfold takeFrame
  rw [if_pos h]
  rfl

end Sys2Proof.Machine
end

