-- ==== Sys2Proof/Laws/Effects.lean ====
section
/-! SUPPORT. What the shared operations of the session table, the pass and the links do, said once for each: the
change of its own that an operation makes, and a ripple after it. -/

namespace Sys2Proof.Machine

/-! ### Writing back what is held -/

theorem set1_get1 {α : Type} {n : Nat} (v : Vector α n) (d : α) (i : Nat) : set1 v i (get1 v d i) = v := by
  by_cases h : 1 ≤ i ∧ i ≤ n
  · have h0 : i ≠ 0 := by omega
    have hlt : i - 1 < n := by omega
    unfold set1 get1
    simp only [h0, if_false, Vector.getElem?_eq_getElem hlt, Option.getD_some]
    apply Vector.ext
    intro j hj
    rw [Vector.getElem_setIfInBounds]
    split
    · next e => subst e; rfl
    · rfl
  · exact set1_out _ _ _ h

theorem putSession_self (b : Nat) (s : State) : putSession b (s.session b) s = s := by
  unfold putSession State.session
  rw [set1_get1]

/-- A second write of one session takes the place of the first. -/
theorem putSession_putSession (b : Nat) (x y : Session) (s : State) :
    putSession b y (putSession b x s) = putSession b y s := by
  unfold putSession set1
  split
  · rfl
  · congr 1
    apply Vector.ext
    intro j hj
    simp only [Vector.getElem_setIfInBounds]
    split <;> rfl

/-- The session just written, for a bay there is. -/
theorem session_putSession_self (b : Nat) (x : Session) (s : State) (h : validBay b = true) :
    (putSession b x s).session b = x := by
  simp [validBay] at h
  rw [session_putSession, if_pos ⟨rfl, h⟩]

/-! ### Requests and holds -/

/-- A pass request: nothing while allocation is not enabled or after a second request; else a pass starts or is asked
for again (R75, R79). -/
theorem requestPass_cases (s : State) :
    (allocationEnabled s = false ∧ requestPass s = s) ∨
    (allocationEnabled s = true ∧ inFlight s = true ∧
      requestPass s = { s with alloc := { s.alloc with again := true } }) ∨
    (allocationEnabled s = true ∧ inFlight s = false ∧ requestPass s = startPass s) := by
  unfold requestPass
  cases allocationEnabled s <;> cases inFlight s <;> simp

/-- Setting a hold reason changes the session as R23 says, and the rest is a ripple. -/
theorem setHold_ripple (r : HoldReason) (b : Nat) (s : State) (hb : validBay b = true) :
    Ripple (putSession b ((s.session b).held r) s) (setHold r b s) := by
  unfold setHold Session.held Session.isOpen
  dsimp only
  by_cases hv : (s.session b).state = .vacant
  · simp only [hv, ne_eq, not_true, decide_false, Bool.false_and, true_or, if_true, Bool.false_eq_true, if_false]
    rw [putSession_self]
    exact .refl s
  · by_cases hr : (s.session b).holds.has r = true
    · simp only [hv, hr, ne_eq, or_true, if_true, Bool.not_true, Bool.and_false, Bool.false_eq_true, if_false]
      rw [putSession_self]
      exact .refl s
    · have hr' : (s.session b).holds.has r = false := by simpa using hr
      simp only [hv, hr', ne_eq, not_false_eq_true, decide_true, Bool.not_false, Bool.and_true, if_true,
        false_or, Bool.false_eq_true, if_false]
      refine Ripple.trans ?_ (requestPass_ripple _)
      by_cases ha : (s.session b).holds.any = true
      · simp only [ha, if_true]
        exact .refl _
      · have ha' : (s.session b).holds.any = false := by simpa using ha
        simp only [ha', Bool.false_eq_true, if_false]
        have h := withdrawGrant_ripple b (putSession b { s.session b with holds := (s.session b).holds.set r true } s)
        rw [session_putSession_self _ _ _ hb, putSession_putSession] at h
        exact h

/-- Clearing a hold reason that is set clears it and asks for a pass; else nothing happens (R23). -/
theorem clearHold_cases (r : HoldReason) (b : Nat) (s : State) :
    ((s.session b).isOpen = true ∧ (s.session b).holds.has r = true ∧ clearHold r b s =
      requestPass (putSession b { s.session b with holds := (s.session b).holds.set r false } s)) ∨
    (((s.session b).isOpen = false ∨ (s.session b).holds.has r = false) ∧ clearHold r b s = s) := by
  unfold clearHold
  dsimp only
  cases h1 : (s.session b).isOpen <;> cases h2 : (s.session b).holds.has r <;> simp

/-! ### Links and notices -/

/-- What makes a change of link state known is a ripple (R145). -/
theorem linkChanged_ripple (c : Nat) (before : LinkState) (cause : LinkCause) (s : State) :
    Ripple s (linkChanged c before cause s) :=
  (requestPass_ripple s).trans (notify_ripple ..)

/-- A link leaves UP with its last state and timers changed and what waits to be sent discarded (R186). -/
theorem leaveUp_fields (l : Link) (st : LinkState) :
    (l.leaveUp st).state = st ∧ (l.leaveUp st).keep = none ∧ (l.leaveUp st).sending = l.sending ∧
      (l.leaveUp st).outbound = l.outbound.filter (fun m => !m.onlyInUp) := ⟨rfl, rfl, rfl, rfl⟩

/-! ### Modules -/

/-- The steps of R105 after the reported powers are stored touch no session, order, plan or envelope. -/
theorem releaseTest_bays (b : Nat) (s : State) : (releaseTest b s).bond.bays = s.bond.bays := by
  unfold releaseTest
  split
  · generalize modulesOf s b .ramping = l
    have h : ∀ (l : List Nat) (s : State), (forEach l (fun m s =>
        putModule (cabOf b) m { state := .opening, bay := none, contactor := some contactorMs }
          (sendIfUp (cabOf b) (.release m) s)) s).bond.bays = s.bond.bays := by
      intro l
      induction l with
      | nil => intro s; rfl
      | cons m l ih =>
        intro s
        refine (ih _).trans ?_
        rw [putModule_bays]
        unfold sendIfUp
        split <;> rfl
    exact h l s
  · rfl

end Sys2Proof.Machine
end

