-- ==== Sys2Proof/Laws/Notices.lean ====
section
/-! SUPPORT. Notices created in turn and frames handed to a link in turn: what a list of them does is what its parts
do one after the other, and nothing else. -/

namespace Sys2Proof.Machine

/-- Creating a notice changes the outbound side of the order link alone. -/
theorem notify_eq (k : NoticeKind) (body : List Byte) (s : State) :
    notify k body s = { s with order := noticed [(k, body)] s.order } := by
  simp only [notify, noticed, List.foldl_cons, List.foldl_nil]
  split <;> rfl

theorem noticed_append (l m : List (NoticeKind × List Byte)) (o : OrderLink) :
    noticed (l ++ m) o = noticed m (noticed l o) := by
  simp [noticed]

theorem noticed_kept (l : List (NoticeKind × List Byte)) (o : OrderLink) : OrderKept o (noticed l o) := by
  induction l generalizing o with
  | nil => rfl
  | cons n l ih =>
    refine .trans (b := if o.enables.on n.1 then o.placeNotice n.1.byte n.2 else o) ?_ (ih _)
    split
    · exact OrderLink.placeNotice_kept o _ _
    · rfl

theorem Link.handAll_append (l : Link) (a b : List CabMsg) : l.handAll (a ++ b) = (l.handAll a).handAll b := by
  simp [Link.handAll]

theorem Link.handAll_kept (l : Link) (ms : List CabMsg) : LinkKept l (l.handAll ms) := by
  induction ms generalizing l with
  | nil => rfl
  | cons m ms ih => exact .trans (l.hand_kept m) (ih _)

end Sys2Proof.Machine
end

