-- ==== Sys2Proof/Tests/Slice0.lean ====
section
/-! SUPPORT. Tests: the checks of WellFormed refuse; the manual's worked examples and tables; and, for every statement
with hypotheses, states and operands that meet them. The expected values are the manual's, or worked by hand from it;
where a test names no table, its values follow from the rule named. -/

namespace Sys2Proof.Tests

-- each test is checked before the next: their kernel checks side by side would each take a thread's stack
set_option Elab.async false

open Sys2Proof Sys2Proof.Machine

/-! ### Small states -/

/-- A property of the next state; false of a stop. -/
def leads (r : Result) (p : State → Bool) : Bool :=
  match r with
  | .next t => p t
  | _ => false

/-- A link in service. -/
def served : Link :=
  { Link.reset with state := .up, adopted := true, probe := none, silence := some 2000, keep := some 500,
                    sending := none, installed := [1, 2, 3, 4] }

/-- Reset, with the link of one cabinet in service. -/
def up (c : Nat) : State := putLink c served State.reset

/-- A link in another state, with a running timer of each kind. -/
def linkIn (c : Nat) (st : LinkState) : State :=
  putLink c { served with state := st, probe := some 1, silence := some 1, keep := some 1, lostTimer := some 1,
                          lostHold := some (Vector.replicate 6 0) } State.reset

def plan40 : Plan := ⟨320, 40000, 30, 60, true⟩

/-- An open session. -/
def sessionIn (st : SessionState) : Session :=
  { Session.vacant 117 with state := st, plan := plan40, countdown := some 31, acceptance := 500 }

def withSession (b : Nat) (x : Session) (s : State) : State := putSession b x s

/-- The queue holds `n` replies, and a frame is being sent. -/
def queued (n : Nat) : OrderLink :=
  { OrderLink.reset with queue := List.replicate n ⟨true, 1, 0x81, [0]⟩, sending := some ⟨true, 1, 0x81, [0]⟩ }

def full : State := { State.reset with order := queued 16 }

/-- An order that is accepted writes an exact entry. -/
def planOrder : PlanOrder := ⟨0, 0x434B73, 320, 52000, 30, 60, 1, 0⟩

def entryIn (st : PlanState) : PlanEntry :=
  { PlanEntry.free with state := st, identity := 0x434B73, plan := plan40, claimant := some 14 }

/-- Allocation is enabled. -/
def enabled (s : State) : State :=
  { s with clock := { s.clock with setMarker := true }, env := { s.env with siteCeiling := some 8000 } }

def zeroStatus : StatusMsg := ⟨Vector.replicate 6 zeroBlock, Vector.replicate 4 0⟩

/-! ### WellFormed refuses -/

theorem test_wf_order_kind : (Instr.orderUnknownKind 1 0x01).wf = false := by decide +kernel
theorem test_wf_descriptor : (Instr.descriptor 1 []).wf = false ∧ (Instr.descriptor 1 [1, 1]).wf = false ∧
    (Instr.descriptor 1 [5]).wf = false ∧ (Instr.descriptor 9 [1]).wf = false := by decide +kernel
theorem test_wf_status : (Instr.status 0 zeroStatus).wf = false ∧
    (Instr.status 1 ⟨Vector.replicate 6 { zeroBlock with presence := 2 }, Vector.replicate 4 0⟩).wf = false ∧
    (Instr.status 1 ⟨Vector.replicate 6 { zeroBlock with insulation := 2 }, Vector.replicate 4 0⟩).wf = false ∧
    (Instr.status 1 ⟨Vector.replicate 6 { zeroBlock with derate := 255 }, Vector.replicate 4 0⟩).wf = false ∧
    (Instr.status 1 ⟨Vector.replicate 6 zeroBlock, Vector.replicate 4 7⟩).wf = false := by decide +kernel
theorem test_wf_plug : (Instr.plug 1 0 1).wf = false ∧ (Instr.plug 1 7 1).wf = false ∧
    (Instr.plug 1 1 2).wf = false ∧ (Instr.plug 9 1 1).wf = false := by decide +kernel
theorem test_wf_identity : (Instr.identity 1 7 1 1).wf = false ∧ (Instr.identity 0 1 1 1).wf = false := by decide +kernel
theorem test_wf_report : (Instr.moduleReport 1 0 0).wf = false ∧ (Instr.moduleReport 1 5 0).wf = false ∧
    (Instr.moduleReport 1 1 3).wf = false := by decide +kernel
/-- The code must be one a cabinet may send, the class that of the code, and the subject one of the cabinet. -/
theorem test_wf_fault : (Instr.faultMessage 1 1 5 0 0).wf = false ∧ (Instr.faultMessage 1 0 2 2 1).wf = false ∧
    (Instr.faultMessage 1 1 2 2 5).wf = false ∧ (Instr.faultMessage 1 1 4 1 7).wf = false ∧
    (Instr.faultMessage 1 1 4 3 0).wf = false := by decide +kernel
theorem test_wf_units : (Instr.cabinetFrameError 0).wf = false ∧ (Instr.cabinetByteGapTimeout 9).wf = false ∧
    (Instr.cabinetFrameSent 9).wf = false ∧ (Instr.identityTimerExpiry 49).wf = false ∧
    (Instr.rampTimerExpiry 0).wf = false ∧ (Instr.contactorTimerExpiry 9 1).wf = false ∧
    (Instr.contactorTimerExpiry 1 5).wf = false ∧ (Instr.probeTimerExpiry 9).wf = false ∧
    (Instr.keepTimerExpiry 0).wf = false ∧ (Instr.silenceTimerExpiry 9).wf = false ∧
    (Instr.lostHoldTimerExpiry 9).wf = false ∧ (Instr.yardPinChange 9 true).wf = false ∧
    (Instr.lineFilterExpiry 0).wf = false ∧ (Instr.alarmBlinkToggle 9).wf = false ∧
    (Instr.cabinetByteReceived 9 0).wf = false := by decide +kernel

/-! ### Frames -/

/-- The published check value of this CRC, for the digits 1 to 9 in ASCII. -/
theorem test_crc_check_value : crc16 [0x31, 0x32, 0x33, 0x34, 0x35, 0x36, 0x37, 0x38, 0x39] = 0x29B1 := by decide +kernel
/-- SET CLOCK of minute 1100 with tag 7: length 4, kind 1, the minute high byte first (Tables 10-4 and 10-6). -/
theorem test_set_clock_frame : (orderWire ⟨7, 0x01, [0x04, 0x4C]⟩).take 6 = [0xD5, 4, 7, 0x01, 0x04, 0x4C] ∧
    decodeOrder ⟨7, 0x01, [0x04, 0x4C]⟩ = .order (.setClock 7 1100) := by decide +kernel
/-- SETPOINT of 348 steps to position 2 (Tables 10-8 and 10-9). -/
theorem test_setpoint_frame : (CabMsg.setpoint 2 348).wire.take 6 = [0xA9, 4, 0x03, 2, 0x01, 0x5C] := by decide +kernel
theorem test_identity_message : messageOf 3 0x44 [2, 0x43, 0x4B, 0x73, 0x02, 0xBC] =
    some (.identity 3 2 4410227 700) := by decide +kernel
theorem test_no_table_word : decodeTableWord 8 0 = none := by decide

/-! ### Sessions -/

/-- Table 1-3, arrival 4: the cabinet's counter restarted. -/
theorem test_counter_restart : addEnergy 31400 (increment 2100 31400) = 33500 ∧
    addEnergy 33500 (increment 8600 2100) = 40000 ∧ addEnergy 999999 1 = 999999 := by decide +kernel
/-- Section 1.12: binding at minute 1100, and a departure at the present minute. -/
theorem test_countdown : countdownFrom 320 1100 = 660 ∧ countdownFrom 320 320 = 1440 ∧ countdownFrom 321 320 = 1 := by
  decide +kernel
/-- Table 1-4: PLUG present at a VACANT bay with serial 117. -/
theorem test_plug_opens : leads (exec (.plug 3 2 1) (withSession 14 (Session.vacant 117) (up 3))) (fun t =>
    (t.session 14).state = .identifying && (t.session 14).serial = 118 && (t.session 14).idTimer = some 20000) = true := by
  decide +kernel
/-- Table 1-4: the close at minute 326 leaves the record VACANT with its serial. -/
theorem test_plug_closes : leads (exec (.plug 3 2 0) (withSession 14 (sessionIn .overdue) (up 3))) (fun t =>
    t.session 14 = Session.vacant 117) = true := by decide +kernel
/-- Table 1-4: the identity at minute 1100 claims entry 31. -/
theorem test_identity_claims : leads (exec (.identity 3 2 0x434B73 700)
    (putEntry 31 { entryIn .opened with claimant := none } (withSession 14 { Session.vacant 118 with
      state := .identifying, idTimer := some 9000, battery := 180 } { up 3 with clock := ⟨1100, true, 0, 0⟩ })))
    (fun t => (t.session 14).state = .active && (t.session 14).planLink = some 31 &&
      (t.session 14).countdown = some 660 && (t.entry 31).state = .claimed && (t.session 14).acceptance = 700) = true := by
  decide +kernel
theorem test_identity_timer_binds : leads (exec (.identityTimerExpiry 14) (withSession 14 { Session.vacant 118 with
      state := .identifying, idTimer := some 0 } State.reset)) (fun t => (t.session 14).state = .active &&
      (t.session 14).plan = ⟨360, 40000, 0, 0, false⟩ && (t.session 14).identity = none) = true := by decide +kernel
/-- Table 1-4: the minute event at 290 opens the window, and the one at 320 makes the session OVERDUE. -/
theorem test_minute_event : leads (exec .minuteEvent (withSession 14 (sessionIn .satisfied) State.reset)) (fun t =>
      (t.session 14).countdown = some 30 && (t.session 14).windowOpen && t.clock.minute = 1) = true ∧
    leads (exec .minuteEvent (withSession 14 { sessionIn .satisfied with countdown := some 1 } State.reset)) (fun t =>
      (t.session 14).state = .overdue && (t.session 14).countdown = some 0) = true := by decide +kernel
theorem test_suspend : leads (exec (.suspendBay 1 14) (withSession 14 { sessionIn .active with grant := 300 }
    State.reset)) (fun t => (t.session 14).holds.host && (t.session 14).grant = 0) = true := by decide +kernel
theorem test_resume : leads (exec (.resumeBay 1 14) (withSession 14 { sessionIn .active with
    holds := ⟨true, true, false, false⟩ } State.reset)) (fun t => (t.session 14).holds = ⟨false, true, false, false⟩) =
    true := by decide +kernel

/-! ### Plans -/

/-- The group block of section 2.3.3, with entry 40 claimed. -/
def block : State :=
  let e (st : PlanState) : PlanEntry := { PlanEntry.free with state := st, kind := .group2, identity := 0x3A1200 }
  putEntry 7 { PlanEntry.free with state := .spent, identity := 0x3A1205 } (putEntry 40 (e .claimed)
    (putEntry 41 (e .opened) (putEntry 42 (e .opened)
      { State.reset with plans := { PlanTable.reset with masks := #v[0, 0xFF, 0, 0] } })))

/-- Table 2-5. -/
theorem test_group_block : matchEntry block 0x3A1233 = some 41 ∧ matchEntry block 0x3A1205 = none ∧
    matchEntry block 0x3A1305 = none := by decide +kernel
/-- Table 2-7. -/
theorem test_amendment : ({ sessionIn .overdue with countdown := some 0, battery := 52040 } : Session).amended
    ⟨340, 52000, 30, 60, true⟩ 322 = { sessionIn .overdue with
      plan := ⟨340, 52000, 30, 60, true⟩, state := .satisfied, countdown := some 18, battery := 52040,
      windowOpen := true } := by decide +kernel
theorem test_put_plan_claimed : leads (exec (.putPlan 1 31 { planOrder with departure := 340 })
    (putEntry 31 (entryIn .claimed) (withSession 14 { sessionIn .overdue with planLink := some 31, countdown := some 0 }
      State.reset))) (fun t => (t.session 14).plan.departure = 340 && (t.entry 31).plan.departure = 340 &&
      (t.session 14).state = .active) = true := by decide +kernel
/-- R37: a power of 1 to 19 is taken as 20, one above 100 as 100, and a window above 60 as 60. -/
theorem test_plan_clamps : clampPower 0 = 0 ∧ clampPower 19 = 20 ∧ clampPower 101 = 100 ∧
    (planOf { planOrder with window := 61 }).window = 60 := by decide +kernel
theorem test_put_plan_next : leads (exec (.putPlanNext 1 planOrder) { State.reset with
    plans := { PlanTable.reset with cursor := 96 } }) (fun t => t.plans.cursor = 97 && (t.entry 96).state = .opened) =
    true := by decide +kernel
theorem test_release_plan : leads (exec (.releasePlan 1 31) (putEntry 31 (entryIn .claimed) (withSession 14
    { sessionIn .active with planLink := some 31 } State.reset))) (fun t => t.entry 31 = PlanEntry.free &&
      (t.session 14).planLink = none && (t.session 14).plan = plan40) = true := by decide +kernel

/-! ### Envelope -/

/-- Bank 1 of Table 3-2, with the walker on a step. -/
def bank1 (walker minute : Nat) : State :=
  let b : Vector LimitStep 16 := set1 (set1 (set1 (set1 (Vector.replicate 16 LimitStep.reset) 1 ⟨0, 7000, some 2⟩)
    2 ⟨1080, 5500, some 3⟩) 3 ⟨1290, 7500, some 4⟩) 4 ⟨240, 6500, some 2⟩
  { State.reset with clock := ⟨minute, true, 0, 0⟩, env := { Envelope.reset with
    activeBank := 1, walker := walker, banks := #v[b, Vector.replicate 16 LimitStep.reset] } }

/-- Table 3-3. -/
theorem test_walker : leads (exec .minuteEvent (bank1 1 1079)) (fun t => t.env.walker = 2 &&
      scheduleLimit t.env = 5500) = true ∧
    leads (exec .minuteEvent (bank1 1 1100)) (fun t => t.env.walker = 1) = true ∧
    leads (exec (.setClock 1 1100) (bank1 2 0)) (fun t => t.env.walker = 1 && scheduleLimit t.env = 7000) = true := by
  decide +kernel
theorem test_select_bank : leads (exec (.selectLimitBank 1 1) { bank1 2 1000 with
    env := { (bank1 2 1000).env with activeBank := 2 } }) (fun t => t.env.activeBank = 1 && t.env.walker = 1) = true := by
  decide +kernel
/-- Table 4-6: A is 850 - 200 - 50 = 600 when the settling timer expires. -/
theorem test_settling : leads (exec .settlingTimerExpiry { State.reset with env := { Envelope.reset with
    siteCeiling := some 8000, reserve := 200, building := 200, stageLimits := #v[1150, 850, 65535], lineStage := 2,
    effStage := 1, settling := some 0, available := 900 } }) (fun t => t.env.available = 600 && t.env.effStage = 2) =
    true := by decide +kernel
/-- R64: 120 pulses of 10 Wh in a minute are 720 steps, rounded up. -/
theorem test_building : buildingOf true { Envelope.reset with lastWindow := some 120, reserve := 200 } = 720 ∧
    buildingOf true { Envelope.reset with lastWindow := some 1, whPerPulse := 1 } = 1 ∧
    buildingOf false { Envelope.reset with lastWindow := some 120, reserve := 200 } = 200 := by decide +kernel
theorem test_site_ceiling : leads (exec (.setSiteCeiling 1 8000) State.reset) (fun t =>
    t.env.siteCeiling = some 8000 && t.env.available = 7950) = true := by decide +kernel
theorem test_cabinet_ceiling : leads (exec (.setCabinetCeiling 1 8 1201) (up 8)) (fun t =>
    t.ceiling 8 = ⟨1200, true⟩ && (t.link 8).sending = some (.ceiling 1200)) = true := by decide +kernel
theorem test_put_limit_step : leads (exec (.putLimitStep 1 2 16 1439 100 0) State.reset) (fun t =>
    t.env.step 2 16 = ⟨1439, 100, none⟩) = true := by decide +kernel
theorem test_meter : leads (exec (.setMeter 1 0) State.reset) (fun t => t.env.whPerPulse = 1) = true := by decide +kernel
theorem test_margin : leads (exec (.setMargin 1 1001) State.reset) (fun t => t.env.margin = 1000) = true := by
  decide +kernel
theorem test_period : leads (exec (.setPeriod 1 9) State.reset) (fun t => t.alloc.periodTimer = some 10000) = true := by
  decide +kernel

/-! ### The pass -/

/-- A bay of Table 4-4. -/
def bay44 (st : SessionState) (energy t acceptance power : Nat) (isOpen : Bool) : SnapBay :=
  { snapBay (Session.vacant 0) with state := st, unheld := true, countdown := some t, target := energy,
                                    acceptance := acceptance, power := power, windowOpen := isOpen }

/-- The snapshot of Table 4-4 with the given available power. -/
def table44 (available : Nat) : Snapshot :=
  let v := Vector.replicate 48 (snapBay (Session.vacant 0))
  { available := available, ceilings := Vector.replicate 8 1200
    linkUp := set1 (Vector.replicate 8 false) 1 true, healthy := set1 (Vector.replicate 8 0) 1 4
    bays := set1 (set1 (set1 (set1 v 1 (bay44 .active 60000 300 500 0 false)) 2
      (bay44 .active 50000 90 400 60 false)) 3 (bay44 .active 8000 25 1000 60 true)) 4
      (bay44 .satisfied 0 200 300 60 false) }

/-- Tables 4-4 and 4-5: slacks, key order and grants. -/
theorem test_pass_at_900 : (table44 900).slackOf 1 = 228 ∧ (table44 900).slackOf 2 = 15 ∧
    (passResult (table44 900)).order = [2, 3, 4, 1] ∧ (passResult (table44 900)).grant 2 = 400 ∧
    (passResult (table44 900)).grant 3 = 300 ∧ (passResult (table44 900)).grant 1 = 200 := by decide +kernel
/-- Table 4-8: the minimum rule leaves bay 1 nothing, and it alone is short. -/
theorem test_pass_at_600 : (passResult (table44 600)).grant 2 = 348 ∧ (passResult (table44 600)).grant 3 = 252 ∧
    (passResult (table44 600)).grant 1 = 0 ∧ get1 (passResult (table44 600)).short false 1 = true ∧
    get1 (passResult (table44 600)).short false 2 = false := by decide +kernel

/-- The depot of Table 4-6 before the shed, with modules as section 5.12.1 gives them. -/
def depot : State :=
  let s (b g : Nat) (s : State) : State :=
    putPower b ⟨g, g, none⟩ (putSession b { sessionIn .active with grant := g } s)
  let m (k b : Nat) (s : State) : State := putModule 1 k ⟨.bonded, some b, none⟩ s
  m 1 2 (m 2 2 (m 3 3 (m 4 1 (s 2 400 (s 3 300 (s 1 200 { enabled (up 1) with
    alloc := { Allocator.reset with lastOrder := [2, 3, 4, 1] } }))))))

/-- Table 4-7. -/
theorem test_shed : let t := shed .envelope 600 depot
    (t.session 2).grant = 400 ∧ (t.session 3).grant = 200 ∧ (t.session 1).grant = 0 ∧ commandedSum t = 600 := by
  decide +kernel
theorem test_stop_shed : commandedSum (shed .stop 0 depot) = 0 := by decide +kernel

/-! ### Modules, links, faults -/

/-- Table 5-6: the opened report gives module 4 to the head of the bond list, bay 10. -/
theorem test_opened_report : leads (exec (.moduleReport 2 4 0) (putBondList 2 [⟨10, 1⟩]
    (putModule 2 4 ⟨.opening, none, some 9⟩ (up 2)))) (fun t => t.module 2 4 = ⟨.closing, some 10, some 2000⟩ &&
      (t.link 2).sending = some (.bond 4 4) && t.bondList 2 = []) = true := by decide +kernel
/-- Section 5.12.2: a fault of a bonded module clips the setpoint. -/
theorem test_failed_report : leads (exec (.moduleReport 1 4 2) depot) (fun t =>
    (t.power 1).commanded = 0 && (t.module 1 4).state = .faulted && bonded t 1 = 0) = true := by decide +kernel
theorem test_descriptor : leads (exec (.descriptor 2 [1, 3]) State.reset) (fun t => (t.link 2).state = .up &&
    (t.link 2).installed = [1, 3] && (t.module 2 2).state = .absent && (t.link 2).outbound = [.ceiling 1200]) = true := by
  decide +kernel
/-- Table 6-7, 5.5 s: module 1 is closed to position 1, and the van of bay 7 is still there. -/
theorem test_adoption : leads (exec (.status 2 ⟨set1 zeroStatus.bays 1 { zeroBlock with
      presence := 1, identity := 1200301, battery := 20400 }, #v[1, 0, 0, 0xFF]⟩)
    (putLinkBay 7 { LinkBay.reset with lastBattery := 20400 } (putSession 7 { sessionIn .active with
      identity := some 1200301, battery := 500, holds := ⟨false, false, true, false⟩ }
      (putLink 2 { served with adopted := false } State.reset)))) (fun t =>
      t.module 2 1 = ⟨.bonded, some 7, none⟩ && (t.module 2 4).state = .faulted && (t.link 2).adopted &&
      !(t.session 7).holds.link && (t.session 7).battery = 500) = true := by decide +kernel
theorem test_status : leads (exec (.status 4 ⟨set1 zeroStatus.bays 4 { zeroBlock with
      presence := 1, power := 300, battery := 2100, acceptance := 400 }, Vector.replicate 4 0⟩)
    (putLinkBay 22 { LinkBay.reset with lastBattery := 31400, present := true } (putSession 22 { sessionIn .active with
      battery := 31400 } (up 4)))) (fun t => (t.session 22).battery = 33500 && (t.power 22).reported = 300 &&
      (t.linkBay 22).lastBattery = 2100 && (t.session 22).acceptance = 400) = true := by decide +kernel
/-- Table 6-7, 2.0 s: the last reported powers are held. -/
theorem test_silence : leads (exec (.silenceTimerExpiry 1) depot) (fun t => (t.link 1).state = .lost &&
    (t.link 1).lostSum = 900 && commandedSum t = 0 && (t.session 2).holds.link) = true := by decide +kernel
theorem test_lost_hold : leads (exec (.lostHoldTimerExpiry 1) (linkIn 1 .lost)) (fun t =>
    (t.link 1).state = .training && (t.link 1).probeCount = 1 && (t.link 1).lostHold = none) = true := by decide +kernel
theorem test_probe : leads (exec (.probeTimerExpiry 1) (putLink 1 { Link.reset with probeCount := 10 } State.reset))
    (fun t => (t.link 1).state = .absent && (t.link 1).probe = some 10000) = true := by decide +kernel
theorem test_retrain : leads (exec (.retrain 1 1) depot) (fun t => (t.link 1).state = .training &&
    (t.link 1).sending = some .zero && (t.link 1).outbound = [.probe] && (t.link 1).lostSum = 900) = true := by
  decide +kernel
theorem test_keep_and_frame_sent : leads (exec (.keepTimerExpiry 1) (up 1)) (fun t =>
      (t.link 1).sending = some .keep) = true ∧
    leads (exec (.cabinetFrameSent 1) State.reset) (fun t => (t.link 1).sending = none) = true := by decide +kernel
/-- Table 8-4: the ramp timer of a bay of cabinet 1 isolates the cabinet. -/
theorem test_ramp_timeout : leads (exec (.rampTimerExpiry 2) (putPower 2 ⟨400, 400, some 0⟩ depot)) (fun t =>
    (t.link 1).state = .isolated && (t.cabFaults 1).isolated &&
    (t.cabFaults 1).fatal = some ⟨.rampTimeout, ⟨.cabinet, 1⟩⟩ && t.faults.alarm) = true := by decide +kernel
theorem test_contactor_timeout : leads (exec (.contactorTimerExpiry 1 4) (putModule 1 4 ⟨.opening, none, some 0⟩
    (up 1))) (fun t => (t.module 1 4).state = .faulted && (t.cabFaults 1).nonfatal.isSome) = true := by decide +kernel
theorem test_fault_message : leads (exec (.faultMessage 4 1 4 1 2) (putSession 20 (sessionIn .active) (up 4))) (fun t =>
    (t.session 20).holds.fault && (t.cabFaults 4).nonfatal = some ⟨.bayInsulation, ⟨.bay, 20⟩⟩) = true := by
  decide +kernel
/-- Table 8-4, the second clear: FATAL is cleared, and the sessions wait on LINK. -/
theorem test_clear_faults : leads (exec (.clearFaults 1 4 4) (putSession 20 { sessionIn .active with
      holds := ⟨false, true, false, false⟩ } (putCabFaults 4 ⟨none, none, some ⟨.rampTimeout, ⟨.cabinet, 4⟩⟩, true⟩
      (linkIn 4 .isolated)))) (fun t => (t.link 4).state = .training && (t.cabFaults 4) = CabinetFaults.reset &&
      (t.session 20).holds = ⟨false, false, true, false⟩) = true := by decide +kernel
theorem test_reporting : leads (exec (.setReporting 1 ⟨0, 0, 0, 7, 0, 0⟩) (putCabFaults 1 ⟨none,
    some ⟨.linkLost, ⟨.cabinet, 1⟩⟩, none, false⟩ State.reset)) (fun t => t.faults.alarm &&
      t.faults.alarms = ⟨false, true, false⟩) = true := by decide +kernel
theorem test_frame_error : leads (exec (.cabinetFrameError 8) State.reset) (fun t =>
    (t.cabFaults 8).correctable = some ⟨.linkFrame, ⟨.cabinet, 8⟩⟩) = true := by decide +kernel

/-! ### Yard lines -/

/-- A line with a function, its pin low and its filter about to pass. -/
def lineWith (f : LineFunction) (level : Bool) : State → State :=
  putLine 1 { Line.reset true with settings := { LineSettings.reset with function := f }, level := level,
                                    filter := some 0 }

/-- Table 8-5's beginning (R167). -/
theorem test_stop : leads (exec (.lineFilterExpiry 1) (lineWith .stopIn false depot)) (fun t =>
    t.faults.stopMinute = some 0 && commandedSum t = 0 && (t.session 2).holds.stop && t.faults.alarm) = true := by
  decide +kernel
theorem test_resume_site : leads (exec (.resumeSite 1) { putSession 3 { sessionIn .active with
    holds := ⟨false, false, false, true⟩ } State.reset with faults := { FaultUnit.reset with stopMinute := some 5 } })
    (fun t => t.faults.stopMinute = none && !(t.session 3).holds.any) = true := by decide +kernel
/-- Both curtailment lines asserted are stage 3 (R59). -/
theorem test_curtailment : leads (exec (.lineFilterExpiry 1) (lineWith .curtailA false (putLine 2 { Line.reset true with
    settings := { LineSettings.reset with function := .curtailB }, level := true } State.reset))) (fun t =>
      t.env.lineStage = 3 && t.env.settling = some 2000) = true := by decide +kernel
theorem test_meter_pulse : leads (exec (.lineFilterExpiry 1) (lineWith .meterPulse false State.reset)) (fun t =>
    t.env.windowCount = 1) = true := by decide +kernel
theorem test_pin_change : leads (exec (.yardPinChange 1 false) State.reset) (fun t => (t.line 1).filter = none) =
    true := by decide +kernel
theorem test_set_line : leads (exec (.setLine 1 8 ⟨4, 0, 1, 0, 0, 0, 0⟩) State.reset) (fun t =>
    (t.line 8).settings.function = .meterPulse && t.env.meterWindow = some 60000 && (t.line 8).filter = some 5) = true := by
  decide +kernel
theorem test_blink : leads (exec (.alarmBlinkToggle 1) (putLine 1 (Line.reset true).startBlink State.reset)) (fun t =>
    !(t.line 1).blinkHalf && (t.line 1).blinkTimer = some 500) = true := by decide +kernel

/-! ### Ready list, order link, passes -/

def record : ReadyRecord := ⟨14, some 0x434B73, some 31, 272, 52040, 48⟩

theorem test_read_ready : leads (exec (.readReady 1) { State.reset with ready := ⟨[record], true⟩ }) (fun t =>
    t.ready = ⟨[], true⟩ && t.order.sending = some ⟨true, 1, 0xAC, [0, 14, 0x43, 0x4B, 0x73, 1, 31, 1, 0x01, 0x10, 0, 0xCB,
      0x48, 0, 48, 0, 1]⟩) = true := by decide +kernel
theorem test_clear_ready_overflow : leads (exec (.clearReadyOverflow 1) { State.reset with ready := ⟨[], true⟩ })
    (fun t => t.ready = ⟨[], false⟩ && t.order.sending = some ⟨true, 1, 0xAD, [0, 0, 1]⟩) = true := by decide +kernel
theorem test_read_status : leads (exec (.readStatus 1) { State.reset with order := { OrderLink.reset with
    noticeLost := true } }) (fun t => !t.order.noticeLost && (t.order.sending.map fun f => f.body.take 4) =
      some [0, 0x48, 1, 1]) = true := by decide +kernel
theorem test_held_order : leads (exec (.setMargin 1 60) full) (fun t => t.env.margin = 50 &&
      t.order.held = some ⟨1, 0x08, [0, 60]⟩) = true ∧
    leads (exec .heldOrderTaken { State.reset with order := { OrderLink.reset with held := some ⟨1, 0x08, [0, 60]⟩ } })
      (fun t => t.env.margin = 60 && t.order.held = none) = true := by decide +kernel
theorem test_unknown_and_length : leads (exec (.orderUnknownKind 9 0x7F) State.reset) (fun t =>
      t.order.sending = some ⟨true, 9, 0xFF, [4]⟩) = true ∧
    (takeCompleted ⟨9, 0x01, [1]⟩ State.reset).order.sending = some ⟨true, 9, 0x81, [5]⟩ := by decide +kernel
theorem test_restart : leads (exec (.restart 1) State.reset) (fun t =>
    t.order.sending = some ⟨true, 1, 0xBE, [0]⟩ && t.order.restart = .replying) = true := by decide +kernel
theorem test_pass_starts : leads (exec (.reallocate 1) (enabled State.reset)) (fun t => inFlight t) = true ∧
    leads (exec .periodTimerExpiry (enabled State.reset)) (fun t => inFlight t) = true := by decide +kernel
theorem test_pass_completes : leads (exec .passComplete { enabled State.reset with
    alloc := { Allocator.reset with snapshot := some (takeSnapshot State.reset) } }) (fun t => !inFlight t) = true := by
  decide +kernel
/-- An order received byte by byte does what the order does (R179, R180). -/
theorem test_order_bytes : leads (execAll ((orderWire ⟨7, 0x08, [0, 60]⟩).map Instr.orderByteReceived) State.reset)
    (fun t => t.env.margin = 60 && t.order.assembler = .hunting) = true := by decide +kernel
theorem test_cabinet_bytes : leads (execAll ((messageWire 0x43 [2, 1]).map (Instr.cabinetByteReceived 3)) (up 3))
    (fun t => (t.session 14).state = .identifying && (t.link 3).assembler = .hunting) = true := by decide +kernel
theorem test_step_takes_front : leads (step { State.reset with pending := [.setMargin 1 60, .readStatus 2] }) (fun t =>
    t.env.margin = 60 && t.pending = [.readStatus 2]) = true := by decide +kernel

/-! ### Witnesses: states and operands that meet the hypotheses of each statement, clause by clause -/

/-- The identity of the worked examples. -/
def van : U24 := 0x434B73

/-- An identifying session whose timer runs. -/
def identifying : Session := { Session.vacant 118 with state := .identifying, idTimer := some 9000 }

/-- Plans for the van: entry 31 as given, all else free. -/
def planned (x : PlanEntry) (s : State) : State := putEntry 31 x s

def stopped (s : State) : State := { s with faults := { s.faults with stopMinute := some 5 } }

def flying (s : State) : State := { s with alloc := { s.alloc with snapshot := some (takeSnapshot s) } }

def reply (n : Byte) : OutFrame := ⟨true, n, 0x81, [0]⟩
def notice (n : Byte) : OutFrame := ⟨false, 0, 0xE1, [n]⟩

/-- The RESTART reply is being sent. -/
def restarting : OrderLink :=
  { OrderLink.reset with sending := some ⟨true, 1, 0xBE, [0]⟩, restart := .replying }

/-- Whatever a frame's frame check is, some two bytes differ from it. -/
theorem test_witness_wrong_check (bytes : List Byte) : ∃ check : List Byte, check.length = 2 ∧
    check ≠ be16 (crc16 bytes) := by
  by_cases h : [0, 0] = be16 (crc16 bytes)
  · exact ⟨[0, 1], rfl, by rw [← h]; decide⟩
  · exact ⟨[0, 0], rfl, h⟩

theorem test_witness_EmptyQueueTakesDueEvent : State.reset.pending = [] ∧ dueEvent State.reset = none ∧
    dueEvent { State.reset with clock := ⟨0, false, 60, 0⟩ } = some .minuteEvent ∧ validBay 1 = true ∧
    validBay 48 = true ∧ validCab 1 = true ∧ validCab 8 = true ∧ validModule 1 = true ∧ validModule 4 = true ∧
    validLine 1 = true ∧ validLine 8 = true := by decide +kernel
/-- A minute event and the identity timer of bay 48, due in one millisecond: the minute event is taken first. -/
theorem test_due_place :
    (let s := withSession 48 { identifying with idTimer := some 0 } { State.reset with clock := ⟨0, false, 60, 0⟩ }
     Due s .minuteEvent ∧ Due s (.identityTimerExpiry 48) ∧ dueEvent s = some .minuteEvent) ∧
    duePlace .minuteEvent < duePlace (.identityTimerExpiry 48) :=
  ⟨⟨(by decide : 60 ≤ 60), (by decide +kernel : _ = true ∧ _ = some 0), by decide +kernel⟩, by decide⟩
theorem test_witness_PowerOnResetGivesResetValues : validBay 1 = true ∧ validBay 48 = true ∧ validEntry 96 = true ∧
    validCab 8 = true ∧ validModule 4 = true := by decide +kernel
theorem test_witness_WellFormedCommandsComplete : (Instr.status 8 zeroStatus).wf = true ∧ validCab 0 = false ∧
    validCab 9 = false ∧ validBay 0 = false ∧ validBay 49 = false ∧ (validCab 1 = true ∧ validModule 5 = false) ∧
    validLine 0 = false ∧ validLine 9 = false := by decide +kernel
theorem test_witness_OrderFramesRoundTrip :
    encodeOrder (.setClock 1 1439) = some ⟨1, 0x01, [0x05, 0x9F]⟩ ∧
    decodeOrder ⟨1, 0x01, [0x05, 0x9F]⟩ = .order (.setClock 1 1439) ∧ bodyLength 0x00 = none ∧ bodyLength 0xFF = none ∧
    bodyLength 0x01 = some 2 ∧ ([0] : List Byte).length ≠ 2 := by decide +kernel
theorem test_witness_CabinetMessagesRoundTrip : encodeMessage (.plug 8 6 1) = some (8, 0x43, [6, 1]) ∧
    (Instr.plug 8 6 1).wf = true ∧ messageOf 8 0x43 [6, 1] = some (.plug 8 6 1) := by decide +kernel
theorem test_witness_OrderBytesCarryOrders : encodeOrder (.readStatus 1) = some ⟨1, 0x3D, []⟩ ∧
    (Instr.readStatus 1).wf = true ∧ State.reset.order.assembler = .hunting := by decide +kernel
theorem test_witness_CabinetBytesCarryMessages :
    encodeMessage (.status 8 zeroStatus) = some (8, 0x42, List.replicate 100 0) ∧ validCab 8 = true ∧
    (List.replicate 100 (0 : Byte)).length ≤ 100 ∧ (State.reset.link 8).assembler = .hunting := by decide +kernel
theorem test_witness_BrokenOrderFramesChangeNothing : State.reset.order.assembler = .hunting ∧ (0xD4 : Byte) ≠ 0xD5 ∧
    (1 : Byte).toNat < 2 ∧ 252 < (253 : Byte).toNat ∧ (2 ≤ (2 : Byte).toNat ∧ ([0, 0] : List Byte).length = (2 : Byte).toNat ∧
    ([0, 0] : List Byte) ≠ be16 (crc16 [2, 0, 0])) ∧
    ((252 : Byte).toNat ≤ 252 ∧ (List.replicate 252 (0 : Byte)).length = (252 : Byte).toNat) := by decide +kernel
theorem test_witness_BrokenCabinetFramesAreLinkFrameFaults : validCab 8 = true ∧
    (State.reset.link 8).assembler = .hunting ∧ (0xA8 : Byte) ≠ 0xA9 ∧ (0 : Byte).toNat < 1 ∧ 101 < (102 : Byte).toNat ∧
    (1 ≤ (1 : Byte).toNat ∧ ([0] : List Byte).length = (1 : Byte).toNat ∧ ([0, 0] : List Byte) ≠ be16 (crc16 [1, 0])) ∧
    ((101 : Byte).toNat ≤ 101 ∧ (List.replicate 101 (0 : Byte)).length = (101 : Byte).toNat) ∧
    encodeMessage (.plug 8 7 1) = some (8, 0x43, [7, 1]) ∧ (Instr.plug 8 7 1).wf = false := by decide +kernel
/-- Kinds outside Table 6-3 on both its sides, and for each of its kinds a body one byte short and one byte long; a
DESCRIPTOR is wrong where its count is not the number of its module bytes. -/
theorem test_witness_wrong_kind_or_length :
    (∀ k ∈ [0x40, 0x47, 0x00, 0xFF], ∀ n ∈ [0x41, 0x42, 0x43, 0x44, 0x45, 0x46], (k : Byte) ≠ n) ∧
    (∀ n ms, ([2, 1] : List Byte) = n :: ms → n.toNat ≠ ms.length) ∧ (∀ n ms, ([] : List Byte) = n :: ms → n.toNat ≠ ms.length) ∧
    (∀ n ∈ [99, 0], (List.replicate n (0 : Byte)).length ≠ 100 ∧ (List.replicate n (0 : Byte)).length ≤ 100) ∧
    (∀ n ∈ [1, 3], (List.replicate n (0 : Byte)).length ≠ 2) ∧ (∀ n ∈ [5, 7], (List.replicate n (0 : Byte)).length ≠ 6) ∧
    (∀ n ∈ [3, 5], (List.replicate n (0 : Byte)).length ≠ 4) := by
  refine ⟨by decide, ?_, nofun, by decide⟩
  intro n ms h
  cases h
  decide
theorem test_witness_OrdersHeldDiscardedAndTakenLater : encodeOrder (.readStatus 1) = some ⟨1, 0x3D, []⟩ ∧
    (Instr.readStatus 1).wf = true ∧ canTake full = false ∧ full.order.held = none ∧
    (({ OrderLink.reset with held := some ⟨1, 0x3D, []⟩ } : OrderLink).restart = .none ∧
      (({ queued 15 with held := some ⟨1, 0x3D, []⟩ } : OrderLink).queue.filter (fun f => f.isReply)).length < 16) ∧
    State.reset.order.held = none ∧ restarting.restart ≠ .none ∧
    16 ≤ (full.order.queue.filter (fun f => f.isReply)).length := by decide +kernel
theorem test_witness_UnknownKindAndWrongLengthAreAnswered : canTake State.reset = true ∧ bodyLength 0x7F = none ∧
    bodyLength 0x01 = some 2 ∧ ([] : List Byte).length ≠ 2 ∧ (bodyLength 0x3E).isSome = true := by decide +kernel
theorem test_witness_OutboundQueuePlacesEntries : (queued 15).sending = some (reply 1) ∧ (queued 15).queue.length < 16 ∧
    (queued 16).queue.length = 16 ∧ ((List.replicate 15 (reply 2)) ++ notice 3 :: []).length = 16 ∧
    (∀ y ∈ List.replicate 15 (reply 2), y.isReply = true) ∧ (notice 3).isReply = false ∧
    OrderLink.reset.sending = none ∧ OrderLink.reset.queue = [] ∧ OrderLink.reset.restart ≠ .due ∧
    canTake State.reset = true := by decide +kernel
theorem test_witness_FrameSentBeginsOldestReplyThenNotice : OrderLink.reset.sending = none ∧
    (queued 0).sending = some (reply 1) ∧ (queued 0).restart = .none ∧ (∀ y ∈ [notice 1], y.isReply = false) ∧
    (reply 2).isReply = true ∧ (queued 0).queue = [] ∧ restarting.restart = .replying ∧ (reply 1).isRestartReply = false ∧
    (⟨true, 1, 0xBE, [0]⟩ : OutFrame).isRestartReply = true := by decide +kernel
theorem test_witness_SetNoticesReplacesTheEightEnables : canTake State.reset = true ∧
    OrderLink.reset.enables.on .pass = false ∧
    (⟨true, true, true, true, true, true, true, true⟩ : NoticeEnables).on .narrow = true ∧
    restartReady restarting = true := by decide +kernel
theorem test_witness_ReadOrdersAnswerAndChangeNothing : canTake State.reset = true ∧ validEntry (96 : Byte).toNat = true ∧
    validBay (48 : Byte).toNat = true ∧ validCab (8 : Byte).toNat = true ∧ 255 < 256 ∧ 65535 < 65536 ∧
    16777215 < 16777216 ∧ 2000 % 100 = 0 ∧ 60000 % 1000 = 0 ∧ PlanEntry.free.outcome = none ∧
    ({ PlanEntry.free with outcome := some ⟨48, none, 0, 0, 1439, true⟩ } : PlanEntry).outcome =
      some ⟨48, none, 0, 0, 1439, true⟩ ∧ (enabled State.reset).env.siteCeiling = some 8000 ∧ validCab 1 = true ∧
    validModule 1 = true ∧ validModule 4 = true ∧ validPosition 1 = true ∧ validPosition 6 = true ∧
    validLine 1 = true ∧ validLine 8 = true := by decide +kernel
/-- Fields of READ SESSION and READ STATUS at the offsets of Table 10-5's widths: the van's identity and its marker, the
window's marker, the type bytes, and the state of cabinet 1's link. -/
theorem test_reply_layout :
    Layout (sessionBytes { sessionIn .active with identity := some 0x434B73 }) [(1, [0, 117]),
      (5, [0x43, 0x4B, 0x73, 1]), (13, [0, 31, 1])] ∧
    Layout (statusBytes (up 1)) [(0, [0x48, 0x01]), (18, [2])] := by
  unfold Layout
  decide +kernel
theorem test_witness_ReplyBodiesHaveOneLengthPerKind : (encodeOrder (.readReady 1)).isSome = true ∧
    (orderEffect (.readReady 1)).isSome = true := by decide +kernel
theorem test_witness_RestartTakesEffect : restartReady OrderLink.reset = false ∧ restartReady restarting = true ∧
    (State.reset.link 1).state ≠ .isolated ∧ ((linkIn 1 .isolated).link 1).state = .isolated := by decide +kernel
theorem test_witness_SetClockSetsMinuteAndRecomputes : canTake State.reset = true ∧ (1439 : U16).toNat < 1440 ∧
    State.reset.clock.setMarker = false ∧ (sessionIn .active).state = .active ∧ (sessionIn .overdue).state ≠ .active ∧
    (sessionIn .overdue).state ≠ .satisfied := by decide +kernel
theorem test_witness_CeilingOrdersWriteOnce : canTake (up 8) = true ∧ (up 8).env.siteCeiling = none ∧ (65535 : U16) ≠ 0 ∧
    (1 : U16) ≠ 0 ∧ validCab (8 : Byte).toNat = true ∧ ((up 8).ceiling 8).locked = false ∧
    ((up 8).link 8).state = .up := by decide +kernel
theorem test_witness_LimitScheduleOrders : canTake (bank1 1 0) = true ∧ (2 : Byte).toNat ≠ (bank1 1 0).env.activeBank ∧
    1 ≤ (16 : Byte).toNat ∧ (16 : Byte).toNat ≤ 16 ∧ (1439 : U16).toNat < 1440 ∧ (2 : Byte).toNat ≤ 2 := by decide +kernel
theorem test_witness_CurtailMeterAndReserveOrders : canTake State.reset = true ∧ State.reset.env.lastWindow = none ∧
    ({ Envelope.reset with lastWindow := some 65535 } : Envelope).lastWindow = some 65535 := by decide +kernel
theorem test_witness_SetMarginStoresMarginAndRecomputes : canTake State.reset = true ∧
    restartReady restarting = true := by decide +kernel
theorem test_witness_SetPeriodRestartsThePeriodTimer : canTake State.reset = true ∧
    restartReady restarting = true := by decide +kernel
theorem test_witness_OrdersRefusedRange : canTake State.reset = true ∧ 1440 ≤ (1440 : U16).toNat ∧
    State.reset.env.siteCeiling = none ∧ validCab (0 : Byte).toNat = false ∧ validCab (9 : Byte).toNat = false ∧
    (0 : Byte).toNat < 1 ∧ 2 < (3 : Byte).toNat ∧ 16 < (17 : Byte).toNat ∧ validEntry (0 : Byte).toNat = false ∧
    validEntry (97 : Byte).toNat = false ∧ 4 < ({ planOrder with kind := 5 } : PlanOrder).kind.toNat ∧
    ({ planOrder with identity := 0 } : PlanOrder).kind = 0 ∧ 999999 < (1000000 : U24).toNat ∧ 4 < (5 : Byte).toNat ∧
    validBay (0 : Byte).toNat = false ∧ validBay (49 : Byte).toNat = false ∧ 8 < (9 : Byte).toNat ∧
    validLine (0 : Byte).toNat = false ∧ validLine (9 : Byte).toNat = false ∧ 7 < (8 : Byte).toNat ∧
    1 < (2 : Byte).toNat := by decide +kernel
theorem test_witness_OrdersRefusedLockedOrState : canTake (enabled State.reset) = true ∧
    (enabled State.reset).env.siteCeiling ≠ none ∧
    (({ Envelope.reset with ceilings := Vector.replicate 8 ⟨900, true⟩ } : Envelope).ceilings.toList.all fun c => c.locked) =
      true ∧
    (1 : Byte).toNat = (bank1 1 0).env.activeBank ∧
    (acceptedKind planOrder = some .exact ∧ ((planned { entryIn .claimed with identity := 5 } State.reset).entry 31).state =
      .claimed ∧ ((planned { entryIn .claimed with identity := 5 } State.reset).entry 31).identity ≠ planOrder.identity) ∧
    (State.reset.session 48).state = .vacant ∧ allocationEnabled State.reset = false ∧
    ((linkIn 8 .isolated).link 8).state = .isolated ∧ State.reset.faults.stopMinute = none ∧
    0 < stopLinesAsserted (lineWith .stopIn true State.reset) ∧
    (lineSettingsOf ⟨4, 0, 0, 0, 0, 0, 0⟩ = some ⟨.meterPulse, false, false, .rising, .pushPull, false, false⟩ ∧
      (1 : Nat) ≠ 2 ∧ ((lineWith .meterPulse false State.reset).line 1).settings.function = .meterPulse) := by decide +kernel
/-- The depot under a lower site ceiling, with an available power of 400 steps in force. -/
def pinched (ceiling : Nat) : State :=
  { depot with env := { depot.env with siteCeiling := some ceiling, available := 400 } }

/-- A state whose available power is above, and one whose is below, the value that a computation gives. -/
theorem test_witness_AvailablePowerIsHandedOn :
    availableOf (enabled State.reset).env ≠ (enabled State.reset).env.available ∧
    (availableOf State.reset.env < ({ State.reset.env with available := 9 } : Envelope).available ∧
      inFlight (flying State.reset) = true) ∧
    commandedSum State.reset ≤ availableOf State.reset.env ∧ availableOf State.reset.env = State.reset.env.available ∧
    (enabled State.reset).env.siteCeiling = some 8000 ∧ availableOf (pinched 500).env < commandedSum (pinched 500) ∧
    (availableOf (pinched 450).env = (pinched 450).env.available ∧
      availableOf (pinched 450).env < commandedSum (pinched 450)) ∧
    (commandedSum (pinched 4000) ≤ availableOf (pinched 4000).env ∧
      availableOf (pinched 4000).env ≠ (pinched 4000).env.available) ∧
    (let s := pinched 500
     s.alloc.lastOrder.Nodup ∧ (∀ b ∈ s.alloc.lastOrder, validBay b = true) ∧
     (∀ b ∈ allBays, (s.power b).commanded ≠ 0 → b ∈ s.alloc.lastOrder ∧ (s.link (cabOf b)).state = .up) ∧
     (∀ b ∈ allBays, (s.power b).commanded ≤ (s.session b).grant)) := by decide +kernel
/-- The shed of R67, step 2: the commanded sum comes within the lower available power. -/
theorem test_shed_at_lower_power : commandedSum (recompute (pinched 500)) ≤ availableOf (pinched 500).env ∧
    availableOf (pinched 500).env < commandedSum (pinched 500) := by decide +kernel
theorem test_witness_ShedBringsCommandedSumWithinTarget : depot.alloc.lastOrder.Nodup ∧
    (∀ b ∈ depot.alloc.lastOrder, validBay b = true) ∧
    (∀ b ∈ allBays, (depot.power b).commanded ≠ 0 → b ∈ depot.alloc.lastOrder ∧ (depot.link (cabOf b)).state = .up) ∧
    (∀ b ∈ allBays, (depot.power b).commanded ≤ (depot.session b).grant) ∧ inFlight (flying depot) = true := by
  decide +kernel
/-- Table 5-5: the shed sends SETPOINT for bays 1 and 3, whose ramp timers start, and leaves bay 2 as it is. -/
theorem test_shed_sends : let t := shed .envelope 600 depot
    (t.link 1).sending = some (.setpoint 1 0) ∧ (t.link 1).outbound = [.setpoint 3 200] ∧
    t.power 1 = ⟨0, 200, some 5000⟩ ∧ t.power 3 = ⟨200, 300, some 5000⟩ ∧ t.power 2 = depot.power 2 := by decide +kernel
/-- Bay 3 on one BONDED module at 200 steps, waiting for a raise and for two modules, with a lowered grant. -/
def waiting (grant : Nat) : State :=
  putBondList 1 [⟨2, 1⟩, ⟨3, 2⟩] (putRaiseList [3] (putPower 3 ⟨200, 200, none⟩
    (putSession 3 { sessionIn .active with grant := grant } depot)))
/-- R110: the entry takes the modules that 350 steps need beyond the one bonded, and goes where that is none; at the
setpoint no SETPOINT is sent. At a link that is not UP nothing happens. -/
theorem test_lowered_grant : (let t := lowerGrant 3 (waiting 350);
      t.bondList 1 = [⟨2, 1⟩, ⟨3, 1⟩] ∧ t.bond.raiseList = [] ∧ t.link 1 = (waiting 350).link 1) ∧
    (let t := lowerGrant 3 (waiting 0);
      t.bondList 1 = [⟨2, 1⟩] ∧ t.power 3 = ⟨0, 200, some 5000⟩ ∧ (t.link 1).sending = some (.setpoint 3 0)) ∧
    (waiting 0).power 3 ≠ ⟨0, 200, some 5000⟩ ∧ lowerGrant 48 depot = depot ∧ (depot.link 8).state ≠ .up ∧
    validBay 48 = true ∧ validBay 1 = true ∧ ((waiting 0).link 1).state = .up := by decide +kernel
/-- Table 4-7: the walk of the shed to 600 stops before bay 2, the first of the list. -/
theorem test_shed_walk : depot.alloc.lastOrder = [2] ++ [3, 4, 1] ∧
    (shed .envelope 600 depot).session 2 = depot.session 2 ∧ lowered depot (shed .envelope 600 depot) = [1, 3] := by
  decide +kernel
theorem test_witness_SettlingAndMeterWindowExpiries :
    ({ Envelope.reset with settling := some 0 } : Envelope).settling.isSome = true ∧ State.reset.env.settling = none ∧
    ({ Envelope.reset with meterWindow := some 0 } : Envelope).meterWindow.isSome = true ∧
    State.reset.env.meterWindow = none := by decide +kernel
/-- The last minute of the day, with a pass in flight and the walker on step 4, whose next is step 1. -/
def midnight : State :=
  let none16 : Vector LimitStep 16 := Vector.replicate 16 LimitStep.reset
  flying { State.reset with clock := ⟨1439, true, 60, 0⟩, env := { Envelope.reset with
    siteCeiling := some 8000, available := 7950, activeBank := 1, walker := 4
    banks := #v[set1 (set1 none16 4 ⟨1290, 7500, some 1⟩) 1 ⟨0, 7000, some 2⟩, none16] } }
theorem test_witness_MinuteEventAdvancesClockSessionsAndWalker :
    ((withSession 14 { sessionIn .active with countdown := some 1 } State.reset).session 14).state ≠ .overdue ∧
    inFlight midnight = true ∧ allocationEnabled midnight = true ∧
    (midnight.env.walked 0).available < midnight.env.available ∧
    ((withSession 14 { sessionIn .satisfied with windowOpen := false } State.reset).session 14).windowOpen = false := by
  decide +kernel
/-- R50, R57, R67: after minute 1439 comes 0, at which step 1 starts; its limit of 7000 steps leaves 6950, so the pass in
flight is stale and another is asked for. -/
theorem test_midnight : leads (exec .minuteEvent midnight) (fun t => t.clock = ⟨0, true, 0, 0⟩ && t.env.walker = 1 &&
    t.env.available = 6950 && t.alloc.stale && t.alloc.again) = true := by decide +kernel
theorem test_witness_OverdrawExpiryRecordsAndSheds :
    ({ Envelope.reset with overdraw := some 0, excess := some 44 } : Envelope).overdraw.isSome = true ∧
    State.reset.env.overdraw = none ∧ inFlight (flying State.reset) = true := by decide +kernel
theorem test_witness_PutPlanWritesOrAmendsTheEntry : canTake State.reset = true ∧ validEntry (96 : Byte).toNat = true ∧
    acceptedKind planOrder = some .exact ∧ (State.reset.entry 96).state ≠ .claimed ∧
    (let s := planned (entryIn .claimed) State.reset
     (s.entry 31).state = .claimed ∧ (s.entry 31).kind = .exact ∧ (s.entry 31).identity = planOrder.identity) := by
  decide +kernel
theorem test_witness_PutPlanNextWritesAtTheCursor : canTake State.reset = true ∧
    validEntry State.reset.plans.cursor = true ∧ ({ PlanTable.reset with cursor := 97 } : PlanTable).cursor = 97 ∧
    validEntry (96 : Byte).toNat = true := by decide +kernel
theorem test_witness_ReleaseMaskAndDefaultPlanOrders : canTake State.reset = true ∧ validEntry (1 : Byte).toNat = true ∧
    1 ≤ (4 : Byte).toNat ∧ (4 : Byte).toNat ≤ 4 ∧ (1439 : U16).toNat < 1440 ∧ (999999 : U24).toNat ≤ 999999 := by
  decide +kernel
theorem test_witness_MatchChoosesLowestOpenEntryOfTopKind : matchEntry block 0x3A1233 = some 41 ∧
    ((block.entry 40).state ≠ .free ∧ entryMatches block (block.entry 40) 0x3A1233 = true) ∧
    matchEntry block 0x3A1205 = none ∧ (block.entry 41).state = .opened ∧
    entryMatches block (block.entry 41) 0x3A1205 = true ∧
    (41 < 42 ∧ matchEntry { block with plans := { block.plans with masks := #v[0, 0, 0, 0] } } 0x3A1205 = none) := by
  decide +kernel
theorem test_witness_SuspendAndResumeBay : canTake State.reset = true ∧ validBay (48 : Byte).toNat = true ∧
    ((withSession 48 (sessionIn .active) State.reset).session 48).state ≠ .vacant ∧ (sessionIn .active).holds.host = false ∧
    ({ sessionIn .active with holds := ⟨true, false, false, false⟩ } : Session).holds.host = true ∧
    (sessionIn .active).holds.any = false ∧ (⟨false, true, false, false⟩ : Holds).any = true := by decide +kernel
theorem test_witness_PlugReportsOpenAndCloseSessions : validCab 8 = true ∧ validPosition (6 : Byte).toNat = true ∧
    (State.reset.link 8).serves = false ∧ ((up 8).link 8).serves = true ∧ ((up 8).session 48).state = .vacant ∧
    ((withSession 48 (sessionIn .satisfied) (up 8)).session 48).state ≠ .vacant := by decide +kernel
theorem test_witness_IdentityAndTimerBindASession : validCab 8 = true ∧ validPosition (6 : Byte).toNat = true ∧
    (State.reset.link 8).serves = false ∧ ((up 8).link 8).serves = true ∧
    (let s := planned { entryIn .opened with claimant := none } (withSession 48 identifying (up 8))
     (s.session 48).state = .identifying ∧ (s.session 48).idTimer.isSome = true ∧ matchEntry s van = some 31 ∧ van ≠ 0 ∧
     (s.session 47).state ≠ .identifying) := by decide +kernel
theorem test_witness_LateAndRepeatedIdentities : validCab 8 = true ∧ validPosition (6 : Byte).toNat = true ∧
    ((up 8).link 8).serves = true ∧ van ≠ 0 ∧
    (let s := planned { entryIn .opened with claimant := none } (withSession 48 (sessionIn .active) (up 8))
     (s.session 48).state = .active ∧ (s.session 48).identity = none ∧ matchEntry s van = some 31) ∧
    matchEntry (withSession 48 (sessionIn .satisfied) (up 8)) van = none ∧
    ((withSession 48 (sessionIn .overdue) (up 8)).session 48).state = .overdue ∧
    ({ sessionIn .active with identity := some van } : Session).identity ≠ none ∧
    (500 : Nat) + 20 < 521 ∧ (500 : Nat) ≤ 520 + 20 := by decide +kernel
/-- Bay 48 of cabinet 8 on one BONDED and one RAMPING module, with its ramp timer running at the given setpoint. -/
def reported (commanded : Nat) : State :=
  putPower 48 ⟨commanded, 600, some 9⟩ (putModule 8 1 ⟨.bonded, some 48, none⟩
    (putModule 8 4 ⟨.ramping, some 48, none⟩ (up 8)))

theorem test_witness_StatusInServiceIsTaken : validCab 8 = true ∧ validStatus zeroStatus = true ∧
    ((up 8).link 8).serves = true ∧ ((linkIn 8 .isolated).link 8).serves = true ∧ validPosition 1 = true ∧
    validPosition 6 = true ∧
    (let s := putLinkBay 48 { LinkBay.reset with present := true } (withSession 48 (sessionIn .active) (up 8))
     (s.session 48).state ≠ .vacant ∧ (s.linkBay 48).present = true) ∧
    (((up 8).session 47).state = .vacant ∧ ((up 8).linkBay 47).present = false) ∧ (1 : Byte) ≠ 0 ∧
    (up 8).env.siteCeiling = none ∧ (enabled (up 8)).env.siteCeiling ≠ none ∧
    (up 8).env.available + max 20 ((up 8).env.available / 50) < measuredDraw (putPower 48 ⟨0, 21, none⟩ (up 8)) ∧
    measuredDraw (up 8) ≤ (up 8).env.available + max 20 ((up 8).env.available / 50) ∧ cabOf 42 ≠ 8 ∧
    (∀ p ∈ [1, 2, 3, 4, 5, 6], let l := (reported 0).linkBay (bayAt 8 p)
      l.present = ((blockOf zeroStatus p).presence ≠ 0 : Bool) ∧ (blockOf zeroStatus p).insulation = 0) ∧
    ((reported 0).link 8).state = .up ∧ ((reported 0).module 8 4).state = .ramping ∧
    ((reported 0).module 8 4).bay = some 48 ∧ cabOf 48 = 8 ∧
    ({ sessionIn .active with battery := 39999 } : Session).plan.target ≤ min 999999 (39999 + increment 1 0) ∧
    (sessionIn .active).state = .active ∧ ((up 8).linkBay 48).insulation = false ∧ ((up 8).linkBay 48).derate = false ∧
    (⟨true, true, true⟩ : ClassEnables).nonfatal = true ∧ (⟨true, true, true⟩ : ClassEnables).correctable = true := by
  decide +kernel
/-- R113, R114: at 10 steps above the setpoint the ramp timer stops and at 11 it goes on; the RAMPING module opens when
the bonded module carries what is reported, and not at one step more. -/
theorem test_ramp_and_release :
    let at48 (power : U16) : StatusMsg := ⟨set1 zeroStatus.bays 6 { zeroBlock with power := power }, Vector.replicate 4 0⟩
    leads (exec (.status 8 (at48 300)) (reported 290)) (fun t => (t.power 48).ramp = none &&
      t.module 8 4 = ⟨.opening, none, some 2000⟩ && (t.link 8).sending = some (.release 4)) = true ∧
    leads (exec (.status 8 (at48 301)) (reported 290)) (fun t => (t.power 48).ramp = some 9 &&
      (t.module 8 4).state = .ramping) = true := by decide +kernel
/-- Table 5-5, second STATUS: at 350, 200 and 0 the module of bay 1 is released and bay 3, first of the raise list, rises
to 250. -/
theorem test_status_raises :
    let s := putModule 1 4 ⟨.ramping, some 1, none⟩ (putRaiseList [3] (putPower 2 ⟨348, 400, some 9⟩ (putPower 3
      ⟨200, 200, none⟩ (putPower 1 ⟨0, 0, none⟩ (putSession 3 { sessionIn .active with grant := 252 }
        { depot with env := { depot.env with available := 600 } })))))
    let at23 : StatusMsg := ⟨set1 (set1 zeroStatus.bays 2 { zeroBlock with power := 350 }) 3 { zeroBlock with power := 200 },
      Vector.replicate 4 0⟩
    leads (exec (.status 1 at23) s) (fun t => (t.link 1).sending = some (.release 4) &&
      (t.link 1).outbound = [.setpoint 3 250] && (t.power 3).commanded = 250 && t.bond.raiseList = [3] &&
      t.module 1 4 = ⟨.opening, none, some 2000⟩ && (t.power 2).ramp = none) = true := by decide +kernel
/-- R138, R159: an insulation and a derate fault newly shown set the flags of the cabinet and the alarm. -/
theorem test_status_faults :
    let shown : StatusMsg := ⟨set1 (set1 zeroStatus.bays 6 { zeroBlock with insulation := 1 }) 5
      { zeroBlock with derate := 1, insulation := 1 }, Vector.replicate 4 0⟩
    leads (exec (.status 8 shown) { up 8 with faults := { (up 8).faults with alarms := ⟨false, true, false⟩ } }) (fun t =>
      t.cabFaults 8 = ⟨some ⟨.bayDerate, ⟨.bay, 47⟩⟩, some ⟨.bayInsulation, ⟨.bay, 47⟩⟩, none, false⟩ &&
      t.faults.alarm && t.cabFaults 7 = CabinetFaults.reset) = true ∧
    leads (exec (.status 8 shown) (putLinkBay 48 { LinkBay.reset with insulation := true } (putLinkBay 47
      { LinkBay.reset with insulation := true, derate := true } (up 8)))) (fun t => t.faults = (up 8).faults) = true := by
  decide +kernel
/-- Cabinet 8 before its adoption: a van stands at bay 47, and bay 48 waits for an identity. -/
def unadopted : State :=
  planned { entryIn .opened with claimant := none, plan := { plan40 with target := 0 } }
    (putLink 8 { served with adopted := false } (withSession 48 identifying
      (withSession 47 { sessionIn .active with identity := some van, planLink := some 40 } (enabled State.reset))))
/-- Tables 6-5 and 7-1, R20, R33, R36: the van of bay 47 has gone to bay 48, where it claims entry 31, is SATISFIED at
once, hands its record over and requests a pass; entry 40 keeps the outcome of the session closed at bay 47. -/
theorem test_adoption_claims :
    let moved : StatusMsg := ⟨set1 zeroStatus.bays 6 { zeroBlock with presence := 1, identity := van, acceptance := 500 },
      Vector.replicate 4 0⟩
    leads (exec (.status 8 moved) (putEntry 40 { entryIn .claimed with claimant := some 47 } unadopted)) (fun t =>
      t.session 47 = Session.vacant 117 && (t.session 48).state = .satisfied && (t.session 48).planLink = some 31 &&
      t.entry 31 = { entryIn .claimed with claimant := some 48, plan := { plan40 with target := 0 } } &&
      (t.entry 40).state = .spent &&
      (t.entry 40).outcome = some ⟨47, some van, 0, 0, 0, false⟩ &&
      t.ready.records = [⟨48, some van, some 31, 0, 0, 320⟩] && inFlight t) = true := by decide +kernel
/-- R14, R15, R20, R36: at a STATUS in service bay 48 meets its target and hands its record over, and the entry of the
session that leaves bay 47 opens again by its reuse marker. -/
theorem test_status_ready :
    let here : LinkBay := { LinkBay.reset with present := true }
    let s := putLinkBay 48 here (putLinkBay 47 here (withSession 48 { sessionIn .active with identity := some van }
      (withSession 47 { sessionIn .active with planLink := some 31 } (planned { entryIn .claimed with reuse := true }
        (enabled (up 8))))))
    leads (exec (.status 8 ⟨set1 zeroStatus.bays 6 { zeroBlock with presence := 1, battery := 40000 },
      Vector.replicate 4 0⟩) s) (fun t => t.ready.records = [⟨48, some van, none, 0, 40000, 31⟩] &&
      (t.entry 31).state = .opened && (t.entry 31).claimant = none && inFlight t) = true := by decide +kernel
/-- A STATUS, adopting or in service, that finds nothing to do requests no pass. -/
theorem test_status_requests_nothing : leads (exec (.status 8 zeroStatus) (enabled (up 8))) (fun t => !inFlight t) = true ∧
    leads (exec (.status 8 zeroStatus) (enabled (putLink 8 { served with adopted := false, installed := [] } State.reset)))
      (fun t => !inFlight t && (t.link 8).adopted) = true ∧
    State.reset.faults.alarm = alarmWanted State.reset := by decide +kernel
theorem test_witness_AdoptionTakesTheCabinetBack : validCab 8 = true ∧ validStatus zeroStatus = true ∧
    (let s := putLink 8 { served with adopted := false } (withSession 48 identifying
      (withSession 47 { sessionIn .active with identity := some van } State.reset))
     (s.link 8).state = .up ∧ (s.link 8).adopted = false ∧ 4 ∈ (s.link 8).installed ∧ (s.session 48).state = .identifying ∧
     (s.session 47).state ≠ .vacant ∧ (s.session 47).state ≠ .identifying ∧ (s.session 47).identity.getD 0 = van ∧
     (s.session 47).identity.getD 0 ≠ 5 ∧ (s.session 46).state = .vacant) ∧ validModule 4 = true ∧
    validPosition 6 = true ∧ van ≠ 0 ∧ cabOf 42 ≠ 8 := by decide +kernel
theorem test_witness_ReallocateAndPeriodExpiryRequestAPass : canTake (enabled State.reset) = true ∧
    allocationEnabled (enabled State.reset) = true ∧ State.reset.alloc.periodTimer.isSome = true ∧
    inFlight (flying State.reset) = true ∧ inFlight State.reset = false ∧ allocationEnabled State.reset = false ∧
    ({ Allocator.reset with periodTimer := none } : Allocator).periodTimer = none ∧ validCab 1 = true ∧ validCab 8 = true ∧
    validBay 1 = true ∧ validBay 48 = true := by decide +kernel
/-- R79: OPENING counts as healthy, and FAULTED, UNKNOWN and ABSENT do not. -/
theorem test_snapshot :
    let p := takeSnapshot (putModule 8 1 ⟨.opening, none, some 9⟩ (putModule 8 2 ⟨.faulted, none, none⟩
      (putModule 8 3 ⟨.absent, none, none⟩ (withSession 48 { sessionIn .active with battery := 7 } (up 8)))))
    get1 p.healthy 0 8 = 1 ∧ get1 p.linkUp false 8 = true ∧ get1 p.linkUp false 7 = false ∧ p.ceiling 8 = 1200 ∧
    (p.bay 48).unheld = true ∧ (p.bay 48).battery = 7 ∧ (p.bay 48).serial = 117 ∧ (p.bay 48).power = 60 := by decide +kernel
/-- Tables 4-5 and 4-6: the pass over cabinet 1 can be published, be stale, or be over A. -/
theorem test_witness_PassCompletionPublishesOrDiscards : State.reset.alloc.snapshot = none ∧
    allocationEnabled State.reset = false ∧ allocationEnabled depot = true ∧
    ({ Allocator.reset with stale := true } : Allocator).stale = true ∧
    600 < (passResult (table44 900)).total ∧ (passResult (table44 900)).total ≤ 900 ∧
    (∀ c ∈ allCabs, ((baysOf c).map (passResult (table44 900)).grant).sum ≤ (depot.ceiling c).steps) ∧
    depot.alloc.stale = false ∧ (depot.link 1).state = .up ∧ (depot.link 8).state ≠ .up := by decide +kernel
/-- Cabinet 1 with a pass over Table 4-4 complete: bay 2 on a BONDED and a RAMPING module, and two FREE modules. -/
def published : State :=
  let s (b : Nat) (s : State) : State := putSession b { sessionIn .active with serial := 0 } s
  putModule 1 1 ⟨.bonded, some 2, none⟩ (putModule 1 2 ⟨.ramping, some 2, none⟩ (putModule 1 3 ⟨.free, none, none⟩
    (putModule 1 4 ⟨.free, none, none⟩ (putPower 4 ⟨60, 60, none⟩ (s 2 (s 3 (s 1 { enabled (up 1) with
      alloc := { Allocator.reset with snapshot := some (table44 900) }
      env := { Envelope.reset with siteCeiling := some 8000, available := 900 } })))))))
/-- R107 to R109, R118: the RAMPING module is kept, the FREE modules go to bays 3 and 1 in the last order, the setpoint of
bay 4 falls, and that of bay 2 rises as far as its two modules carry its grant of 400. -/
theorem test_publication : leads (exec .passComplete published) (fun t =>
    t.module 1 2 = ⟨.bonded, some 2, none⟩ && t.module 1 3 = ⟨.closing, some 3, some 2000⟩ &&
    t.module 1 4 = ⟨.closing, some 1, some 2000⟩ && t.bond.raiseList = [3, 1] && t.bondList 1 = [] &&
    (t.link 1).sending = some (.setpoint 4 0) &&
    (t.link 1).outbound = [.bond 3 3, .bond 4 1, .setpoint 2 400]) = true ∧
    published.alloc.snapshot = some (table44 900) ∧ published.alloc.stale = false ∧ allocationEnabled published = true := by
  decide +kernel
theorem test_witness_PassResultStaysWithinItsResources :
    (∀ b ∈ allBays, ((table44 900).bay b).power = 0 ∨ (20 ≤ ((table44 900).bay b).power ∧
      ((table44 900).bay b).power ≤ 100)) ∧ ((table44 900).bay 0).power = 0 ∧ ((table44 900).bay 49).power = 0 ∧
    (passResult (table44 900)).grant 2 ≠ 0 ∧ validCab 8 = true ∧ validBay 1 = true ∧ validBay 48 = true ∧
    0 < ((table44 900).bay 1).minutes := by decide +kernel
/-- Bay 3 at the head of the raise waiting list with a grant of 252, on one module or none. -/
def raising (commanded available : Nat) (module : Module) : State :=
  putRaiseList [3] (putPower 3 ⟨commanded, commanded, none⟩ (putSession 3 { sessionIn .active with grant := 252 }
    (putModule 1 3 module { State.reset with env := { Envelope.reset with available := available } })))
/-- Table 5-5, second STATUS: bay 3 stands at 200, and the room is 50. With room for its whole grant it leaves the list,
as it does where it has its grant; without a module it stays. -/
theorem test_witness_RaisesStayWithinTheAvailablePower :
    (let on3 : Module := ⟨.bonded, some 3, none⟩
     ((examineRaises (raising 200 250 on3)).power 3).commanded = 250 ∧
     (examineRaises (raising 200 250 on3)).bond.raiseList = [3] ∧
     ((examineRaises (raising 200 300 on3)).power 3).commanded = 252 ∧
     (examineRaises (raising 200 300 on3)).bond.raiseList = [] ∧
     (examineRaises (raising 252 300 on3)).bond.raiseList = [] ∧
     examineRaises (raising 0 300 Module.reset) = raising 0 300 Module.reset ∧
     examineRaises (raising 0 19 on3) = raising 0 19 on3 ∧
     examineRaises (raising 300 400 on3) = raising 300 400 on3) ∧
    validBay 3 = true ∧ State.reset.bond.raiseList = [] ∧ State.reset.faults.stopMinute = none ∧
    (stopped State.reset).faults.stopMinute.isSome = true := by
  decide +kernel
theorem test_witness_ModuleReportsMoveModules : validCab 8 = true ∧ validModule (4 : Byte).toNat = true ∧
    (State.reset.link 8).state ≠ .up ∧ (2 : Byte).toNat ≤ 2 ∧ ((up 8).link 8).state = .up ∧
    ((up 8).link 8).adopted = true ∧ ((up 8).module 8 4).state ≠ .opening ∧ ((up 8).module 8 4).state ≠ .closing ∧
    ((putModule 8 4 ⟨.opening, none, some 9⟩ (up 8)).module 8 4).state = .opening ∧ (up 8).bondList 8 = [] ∧
    (putBondList 8 [⟨48, 1⟩] (up 8)).bondList 8 = [⟨48, 1⟩] ∧ (up 8).faults.stopMinute = none ∧
    (∀ k ∈ allModules, ((up 8).module 8 k).state ≠ .free) ∧
    ((putModule 8 4 ⟨.closing, some 48, some 9⟩ (up 8)).module 8 4).bay = some 48 ∧ cabOf 48 = 8 ∧
    ((putModule 8 4 ⟨.bonded, some 48, none⟩ (up 8)).module 8 4).state = .bonded ∧ validBay 48 = true ∧
    (∀ st ∈ [ModuleState.free, .closing, .bonded, .ramping, .opening, .absent, .unknown, .faulted],
      ((putModule 8 4 ⟨st, none, none⟩ (up 8)).module 8 4).state = st) ∧
    (stopped (up 8)).faults.stopMinute.isSome = true := by decide +kernel
/-- R121, R103: a fault of a FREE module requests a pass, and one of an ABSENT module does not. -/
theorem test_failed_requests : leads (exec (.moduleReport 1 4 2) (putModule 1 4 ⟨.free, none, none⟩ depot)) (fun t =>
      inFlight t && t.module 1 4 = ⟨.faulted, none, none⟩) = true ∧ inFlight depot = false ∧
    leads (exec (.moduleReport 1 4 2) (putModule 1 4 ⟨.absent, none, none⟩ depot)) (fun t => !inFlight t) = true := by
  decide +kernel
/-- R108: two FREE modules go to the first two bays of the list, each with its BOND. -/
theorem test_serve_bonds :
    let t := serveBonds 1 (putBondList 1 [⟨2, 1⟩, ⟨3, 2⟩] (putModule 1 3 ⟨.free, none, none⟩ (putModule 1 4
      ⟨.free, none, none⟩ (up 1))))
    t.module 1 3 = ⟨.closing, some 2, some 2000⟩ ∧ t.module 1 4 = ⟨.closing, some 3, some 2000⟩ ∧
    t.bondList 1 = [⟨3, 1⟩] ∧ (t.link 1).sending = some (.bond 3 2) ∧ (t.link 1).outbound = [.bond 4 3] := by
  decide +kernel
theorem test_witness_takesFaultHold : TakesFaultHold 8 (withSession 48 (sessionIn .active) (up 8)) :=
  ⟨48, by decide +kernel⟩
theorem test_witness_RampAndContactorExpiries : validBay 1 = true ∧ validBay 48 = true ∧
    (State.reset.power 48).ramp = none ∧ ((putPower 48 ⟨300, 400, some 0⟩ (up 8)).power 48).ramp.isSome = true ∧
    ((up 8).cabFaults 8).isolated = false ∧ ((up 8).link 8).state = .up ∧
    (let s := putPower 48 ⟨0, 0, some 0⟩ (putCabFaults 8 ⟨none, none, none, true⟩ (linkIn 8 .isolated))
     (s.cabFaults 8).isolated = true ∧ (s.link 8).state = .isolated ∧ (s.power 48).ramp.isSome = true) ∧
    cabOf 48 = 8 ∧ validCab 8 = true ∧ validModule 4 = true ∧ (State.reset.module 8 4).contactor = none ∧
    ((putModule 8 4 ⟨.opening, none, some 0⟩ (up 8)).module 8 4).contactor.isSome = true := by decide +kernel
/-- Frames of each kind that wait at a link in service while KEEP is being sent. -/
def crowded : State :=
  putLink 8 { served with sending := some .keep, outbound := [.setpoint 1 20, .zero, .bond 1 1, .ceiling 900, .keep] }
    State.reset
/-- R186: what only an UP link sends is discarded when the link leaves UP, and ISOLATE waits behind ZERO. -/
theorem test_discarding : leads (exec (.faultMessage 8 2 7 0 0) crowded) (fun t =>
      (t.link 8).outbound = [.zero, .isolate] && (t.link 8).sending = some .keep) = true ∧
    leads (exec (.silenceTimerExpiry 8) crowded) (fun t => (t.link 8).outbound = [.zero]) = true ∧
    leads (exec (.rampTimerExpiry 48) (putPower 48 ⟨0, 0, some 0⟩ crowded)) (fun t =>
      (t.link 8).outbound = [.zero, .isolate]) = true := by decide +kernel
theorem test_witness_DescriptorBringsLinkUp : validCab 8 = true ∧ validDescriptor [4] = true ∧
    validDescriptor [4, 3, 2, 1] = true ∧ ((linkIn 8 .up).link 8).state = .up ∧ ((linkIn 8 .lost).link 8).state = .lost ∧
    ((linkIn 8 .isolated).link 8).state = .isolated ∧ ((linkIn 8 .training).link 8).state = .training ∧
    ((linkIn 8 .absent).link 8).state = .absent ∧ validModule 4 = true := by decide +kernel
theorem test_witness_TrainingTimersAndRetrain : validCab 8 = true ∧ ((up 8).link 8).probe = none ∧
    ((linkIn 8 .training).link 8).probe.isSome = true ∧ ((linkIn 8 .training).link 8).state = .training ∧
    ((linkIn 8 .training).link 8).probeCount < 10 ∧ 10 ≤ ({ Link.reset with probeCount := 10 } : Link).probeCount ∧
    ((linkIn 8 .absent).link 8).state = .absent ∧ canTake State.reset = true ∧ validCab (8 : Byte).toNat = true ∧
    ((linkIn 8 .lost).link 8).state = .lost ∧ ((up 8).link 8).state = .up := by decide +kernel
theorem test_witness_SilenceLostHoldKeepAndFrameSent : validCab 8 = true ∧ (State.reset.link 8).silence = none ∧
    ((linkIn 8 .up).link 8).silence.isSome = true ∧ ((linkIn 8 .up).link 8).state = .up ∧
    ((linkIn 8 .isolated).link 8).state = .isolated ∧ (State.reset.link 8).lostTimer = none ∧
    ((linkIn 8 .training).link 8).lostTimer.isSome = true ∧ ((linkIn 8 .training).link 8).state ≠ .lost ∧
    ((linkIn 8 .lost).link 8).state = .lost ∧ (State.reset.link 8).keep = none ∧
    ((linkIn 8 .up).link 8).keep.isSome = true ∧ ((up 8).link 8).sending = none ∧
    (State.reset.link 8).sending.isSome = true ∧ (State.reset.link 8).outbound = [] ∧
    ({ Link.reset with outbound := [.probe] } : Link).outbound = [.probe] := by decide +kernel
theorem test_witness_ReadyListAddsReadsAndClears : (List.replicate 31 record).length < 32 ∧
    (List.replicate 31 record ++ [record]).length = 32 ∧ canTake State.reset = true ∧ State.reset.ready.records = [] ∧
    ({ ReadyList.reset with records := [record] } : ReadyList).records = [record] := by decide +kernel
theorem test_witness_FaultMessageIsTaken : validCab 8 = true ∧ (State.reset.link 8).state ≠ .up ∧
    (State.reset.link 8).state ≠ .isolated ∧ ((up 8).link 8).state = .up ∧
    (validFault 0 1 1 6 = true ∧ cabinetFaultCode 1 = some .bayDerate ∧ cabinetSubject 8 1 6 = some ⟨.bay, 48⟩) ∧
    (validFault 1 2 2 4 = true ∧ cabinetFaultCode 2 = some .moduleFail ∧ cabinetSubject 8 2 4 = some ⟨.module, 4⟩) ∧
    (validFault 1 4 0 0 = true ∧ cabinetFaultCode 4 = some .bayInsulation ∧ cabinetSubject 8 0 0 = some ⟨.cabinet, 8⟩) ∧
    (validFault 2 7 0 0 = true ∧ cabinetFaultCode 7 = some .cabinetInternal) ∧ ((up 8).cabFaults 8).isolated = false ∧
    ((linkIn 8 .isolated).link 8).state = .isolated ∧
    ((putCabFaults 8 ⟨none, none, none, true⟩ (linkIn 8 .isolated)).cabFaults 8).isolated = true ∧
    (∀ st ∈ [ModuleState.free, .closing, .bonded, .ramping, .opening],
      ((putModule 8 4 ⟨st, none, none⟩ (up 8)).module 8 4).state = st) := by decide +kernel
theorem test_witness_ClearFaultsSetReportingAndResumeSite : canTake (stopped State.reset) = true ∧
    validCab (8 : Byte).toNat = true ∧ (7 : Byte).getLsbD 2 = true ∧ (3 : Byte).getLsbD 2 = false ∧
    ((putCabFaults 8 ⟨none, none, none, true⟩ State.reset).cabFaults 8).isolated = true ∧
    (stopped State.reset).faults.stopMinute.isSome = true ∧ stopLinesAsserted (stopped State.reset) = 0 ∧
    (State.reset.link 8).state ≠ .up ∧ validLine 8 = true ∧
    (let s := withSession 48 { sessionIn .active with holds := ⟨false, true, false, false⟩ } (up 8)
     (s.cabFaults 8).isolated = false ∧ (s.session 48).holds.fault = true ∧ (s.session 48).state ≠ .vacant ∧
     (s.linkBay 48).insulation = false) := by
  decide +kernel
/-- R165, R166, R23: clearing NONFATAL takes the FAULT hold of bay 48 away and requests a pass; the reply holds the
record, in which the FATAL first code RAMP_TIMEOUT of cabinet 8 stands. -/
theorem test_clear_faults_reply :
    let s := putCabFaults 8 ⟨none, some ⟨.bayInsulation, ⟨.bay, 48⟩⟩, some ⟨.rampTimeout, ⟨.cabinet, 8⟩⟩, false⟩
      (withSession 48 { sessionIn .active with holds := ⟨false, true, false, false⟩ } (enabled (up 8)))
    leads (exec (.clearFaults 1 8 2) s) (fun t => !(t.session 48).holds.any && inFlight t &&
      t.order.sending = some ⟨true, 1, 0xB5, [0, 0, 0, 1, 0, 0, 0, 0, 0, 0, 0, 0, 8, 0, 8, 1, 0, 0, 0, 0]⟩) = true := by
  decide +kernel
theorem test_witness_YardInputsAreFilteredAndHandedOn : validLine 1 = true ∧ validLine 8 = true ∧
    (State.reset.line 8).pin = true ∧ (State.reset.line 8).pin ≠ false ∧
    ({ Line.reset true with filter := none } : Line).filter = none ∧ (State.reset.line 8).filter.isSome = true ∧
    (State.reset.line 8).settings.function = .generalIn ∧
    ((lineWith .curtailA false State.reset).line 1).settings.function = .curtailA ∧
    ((lineWith .meterPulse true State.reset).line 1).settings.function = .meterPulse ∧
    ((lineWith .stopIn true State.reset).line 1).level = true ∧
    (((lineWith .stopIn false State.reset).line 1).level = false ∧ State.reset.faults.stopMinute = none) ∧
    ((lineWith .alarmOut false State.reset).line 1).settings.function.isInput = false ∧
    (State.reset.line 8).blinkTimer = none ∧ (Line.reset true).startBlink.blinkTimer.isSome = true ∧
    (withSession 48 (sessionIn .active) State.reset |>.session 48).state ≠ .vacant ∧ inFlight (flying State.reset) = true := by
  decide +kernel
/-- R174: a line that becomes a blinking ALARM_OUT while the alarm is on starts with its asserted half, and one that is
taken away stops. R167: taking STOP_IN away ends no stop. -/
theorem test_set_line_alarm :
    let s : State := { stopped State.reset with faults := { (stopped State.reset).faults with alarm := true } }
    leads (exec (.setLine 1 1 ⟨6, 0, 1, 0, 0, 1, 0⟩) (lineWith .stopIn true s)) (fun t =>
      (t.line 1).blinkHalf && (t.line 1).blinkTimer = some 500 && t.faults.stopMinute = some 5) = true ∧
    leads (exec (.setLine 1 1 ⟨0, 0, 1, 0, 0, 1, 0⟩) (putLine 1 (s.line 1).startBlink s)) (fun t =>
      (t.line 1).blinkTimer = none) = true := by decide +kernel
/-- R59: taking CURTAIL_B away at stage 2 returns the stage to 0, which stops the timer where that is in effect. -/
theorem test_set_line_stage :
    let s (e : Nat) : State := lineWith .curtailB true { State.reset with env := { Envelope.reset with
      lineStage := 2, effStage := e, settling := some 9 } }
    leads (exec (.setLine 1 1 ⟨0, 0, 1, 0, 0, 0, 0⟩) (s 0)) (fun t => t.env.lineStage = 0 && t.env.settling = none) = true ∧
    leads (exec (.setLine 1 1 ⟨0, 0, 1, 0, 0, 0, 0⟩) (s 2)) (fun t => t.env.lineStage = 0 &&
      t.env.settling = some 2000) = true := by decide +kernel
theorem test_witness_SetLineReplacesTheSettings : canTake State.reset = true ∧ validLine (8 : Byte).toNat = true ∧
    lineSettingsOf ⟨4, 0, 1, 0, 0, 0, 0⟩ = some ⟨.meterPulse, false, true, .rising, .pushPull, false, false⟩ ∧
    (∀ f ∈ [LineFunction.meterPulse, .curtailA, .curtailB], ∀ k ∈ allLines, (State.reset.line k).settings.function ≠ f) ∧
    (.meterPulse : LineFunction) ≠ .generalIn ∧ (State.reset.line 8).settings.function = .generalIn ∧
    (∀ f ∈ [LineFunction.generalIn, .curtailA, .curtailB, .meterPulse, .stopIn], ∀ level ∈ [false, true],
      let s := lineWith f level State.reset
      (s.line 1).settings.function = f ∧ (s.line 1).settings.invert = false ∧ (s.line 1).level = level ∧
      (∀ k ∈ allLines, k ≠ 1 → f = .generalIn ∨ (s.line k).settings.function ≠ f) ∧ canTake s = true ∧ s.faults.stopMinute = none) ∧
    lineSettingsOf ⟨4, 1, 1, 0, 0, 0, 0⟩ = some ⟨.meterPulse, true, true, .rising, .pushPull, false, false⟩ ∧
    (stopped State.reset).faults.stopMinute.isSome = true ∧ (sessionIn .active).state ≠ .vacant ∧
    (sessionIn .active).holds.any = false ∧ inFlight (flying State.reset) = true := by decide +kernel
/-- R172, R175: an inversion of a STOP_IN line that is kept reverses its level at once, and its assertion is handed on. -/
theorem test_set_line_inverts : leads (exec (.setLine 1 1 ⟨5, 1, 1, 0, 0, 0, 0⟩) (lineWith .stopIn false depot)) (fun t =>
    (t.line 1).level && t.faults.stopMinute = some 0 && commandedSum t = 0 && (t.line 1).filter = some 0) = true := by
  decide +kernel

/-- The depot with the available power that its envelope gives: it meets every invariant of Safety.lean. -/
def steady : State := { depot with env := { depot.env with available := 7950 } }

/-- What is absent has no value that a range could shut out. -/
theorem absent {α : Type} (p : α → Prop) : ∀ v ∈ (none : Option α), p v := fun _ h => nomatch h

theorem running {limit ms : Nat} (h : ms ≤ limit) : TimerRange limit (some ms) := by
  intro v hv
  cases hv
  exact h

theorem steady_session (b : Nat) : ∃ g, steady.session b = { sessionIn .active with grant := g } ∨ steady.session b = Session.vacant 0 := by
  refine get1_forall _ _ (fun _ (x : Session) => ∃ g, x = { sessionIn .active with grant := g } ∨ x = Session.vacant 0)
    (fun _ _ => ⟨0, .inr rfl⟩) ?_ b
  intro i hi
  refine ⟨(get1 steady.sessions (Session.vacant 0) i).grant, ?_⟩
  revert i
  decide +kernel

theorem steady_entry (e : Nat) : steady.entry e = PlanEntry.free :=
  get1_forall _ _ (fun _ (x : PlanEntry) => x = PlanEntry.free) (fun _ _ => rfl) (by decide +kernel) e

theorem steady_link (c : Nat) : steady.link c = served ∨ steady.link c = Link.reset :=
  get1_forall _ _ (fun _ (x : Link) => x = served ∨ x = Link.reset) (fun _ _ => .inr rfl) (by decide +kernel) c

theorem steady_module (c m : Nat) : steady.module c m = Module.reset ∨
    (c = 1 ∧ validModule m = true ∧ ∃ b, steady.module c m = ⟨.bonded, some b, none⟩ ∧ validBay b = true ∧ cabOf b = 1) := by
  by_cases h : c = 1 ∧ validModule m = true
  · obtain ⟨rfl, hm⟩ := h
    have : m = 1 ∨ m = 2 ∨ m = 3 ∨ m = 4 := by simp [validModule] at hm; omega
    right
    refine ⟨rfl, hm, ((steady.module 1 m).bay.getD 0), ?_⟩
    obtain rfl | rfl | rfl | rfl := this <;> decide +kernel
  · left
    exact get1_forall steady.bond.modules Module.reset (fun i (x : Module) => (i = 0 ∨ 5 ≤ i) → x = Module.reset)
      (fun _ _ _ => rfl) (by decide +kernel) (moduleIndex c m) (by
        unfold moduleIndex
        split
        · next h' => simp [validModule] at h h'; omega
        · exact .inl rfl)

theorem steady_sessions_inRange (b : Nat) : (steady.session b).InRange := by
  have grant : (steady.session b).grant = 0 ∨ (20 ≤ (steady.session b).grant ∧ (steady.session b).grant ≤ 1200) :=
    get1_forall _ _ (fun _ (x : Session) => x.grant = 0 ∨ (20 ≤ x.grant ∧ x.grant ≤ 1200)) (fun _ _ => .inl rfl)
      (by decide +kernel) b
  obtain ⟨g, h | h⟩ := steady_session b <;> rw [h] at grant ⊢
  · exact {
      serial := (by decide : 117 < 65536), identity := absent _, planLink := absent _
      plan := (⟨by decide, by decide, by decide, .inr (by decide)⟩ : plan40.InRange)
      countdown := ⟨fun _ => ⟨31, rfl, by decide⟩, nofun, running (by decide : 31 ≤ 1440)⟩
      battery := (by decide : 0 ≤ 999999), auxiliary := (by decide : 0 ≤ 999999), acceptance := (by decide : 500 ≤ 3000)
      grant := grant, opened := (by decide : 0 < 1440), idTimer := ⟨absent _, nofun⟩ }
  · exact {
      serial := (by decide : 0 < 65536), identity := absent _, planLink := absent _
      plan := ⟨by decide, by decide, by decide, .inl rfl⟩
      countdown := ⟨by decide, nofun, absent _⟩
      battery := (by decide : 0 ≤ 999999), auxiliary := (by decide : 0 ≤ 999999), acceptance := (by decide : 0 ≤ 3000)
      grant := .inl rfl, opened := (by decide : 0 < 1440), idTimer := ⟨absent _, nofun⟩ }

theorem steady_env : steady.env.InRange where
  siteCeiling := by
    intro v h
    cases h
    decide
  ceilings := get1_forall _ _ (fun _ (x : CabinetCeiling) => x.steps ≤ 1200) (fun _ _ => by decide) (by decide +kernel)
  banks b k := by
    have h1 : get1 steady.env.banks (Vector.replicate 16 LimitStep.reset) b = Vector.replicate 16 LimitStep.reset :=
      get1_forall _ _ (fun _ x => x = Vector.replicate 16 LimitStep.reset) (fun _ _ => rfl) (by decide +kernel) b
    have h2 : steady.env.step b k = LimitStep.reset := by
      unfold Envelope.step
      rw [h1]
      exact get1_forall _ _ (fun _ (x : LimitStep) => x = LimitStep.reset) (fun _ _ => rfl) (by decide +kernel) k
    rw [h2]
    exact ⟨by decide, by decide, absent _⟩
  bank := by decide +kernel
  walker := by decide +kernel
  stageLimits := get1_forall _ _ (fun _ (x : Nat) => x ≤ 65535) (fun _ _ => by decide) (by decide +kernel)
  stages := by decide +kernel
  settling := absent _
  whPerPulse := by decide +kernel
  reserve := by decide +kernel
  window := ⟨by decide +kernel, absent _, absent _⟩
  building := by decide +kernel
  margin := by decide +kernel
  available := by decide +kernel
  overdraw := absent _

theorem steady_links (c : Nat) : (steady.link c).InRange := by
  have bays (p : Nat) : get1 (Vector.replicate 6 LinkBay.reset) LinkBay.reset p = LinkBay.reset :=
    get1_forall _ _ (fun _ (x : LinkBay) => x = LinkBay.reset) (fun _ _ => rfl) (by decide +kernel) p
  obtain h | h := steady_link c <;> rw [h]
  · exact {
      probes := by decide, probe := ⟨absent _, by decide⟩, keep := ⟨running (by decide), by decide⟩
      silence := ⟨running (by decide), by decide⟩, lostHold := ⟨absent _, rfl, absent _⟩, installed := by decide
      counts := fun p => by rw [show served.bay p = _ from bays p]; decide }
  · exact {
      probes := by decide, probe := ⟨running (by decide), by decide⟩, keep := ⟨absent _, by decide⟩
      silence := ⟨absent _, by decide⟩, lostHold := ⟨absent _, rfl, absent _⟩, installed := by decide
      counts := fun p => by rw [show Link.reset.bay p = _ from bays p]; decide }

theorem steady_bond : BondInRange steady where
  modules c m := by
    obtain h | ⟨rfl, -, b, h, hb, hc⟩ := steady_module c m <;> rw [h]
    · exact ⟨absent _, absent _⟩
    · refine ⟨?_, absent _⟩
      intro v hv
      cases hv
      exact ⟨hb, hc, .inr (.inl rfl)⟩
  bays b := by
    have h : (steady.power b).commanded ≤ 1200 ∧ (steady.power b).reported ≤ 65535 ∧ (steady.power b).ramp = none :=
      get1_forall _ _ (fun _ (x : BayPower) => x.commanded ≤ 1200 ∧ x.reported ≤ 65535 ∧ x.ramp = none)
        (fun _ _ => by decide) (by decide +kernel) b
    exact ⟨h.1, h.2.1, by rw [h.2.2]; exact absent _⟩
  raises := by decide +kernel
  bonds c := by
    have h : steady.bondList c = [] :=
      get1_forall _ _ (fun _ (x : List BondEntry) => x = []) (fun _ _ => rfl) (by decide +kernel) c
    rw [h]
    simp

theorem steady_bounds : BoundsInv steady where
  clock := by decide +kernel
  sessions := steady_sessions_inRange
  entries e := by
    rw [steady_entry e]
    exact ⟨fun h => absurd rfl h, ⟨by decide, by decide, by decide, .inl rfl⟩, absent _, absent _⟩
  plans := ⟨⟨by decide, by decide, by decide, .inl rfl⟩, by decide, by decide⟩
  env := steady_env
  alloc := ⟨by decide +kernel, ⟨60000, by decide +kernel, by decide⟩, by decide +kernel, absent _⟩
  bond := steady_bond
  links := steady_links
  ready := ⟨by decide +kernel, nofun⟩
  faults := ⟨absent _, absent _⟩
  lines l := by
    have h : steady.line l = Line.reset true :=
      get1_forall _ _ (fun _ (x : Line) => x = Line.reset true) (fun _ _ => rfl) (by decide +kernel) l
    rw [h]
    exact ⟨running (by decide), absent _⟩
  queue := by decide +kernel

theorem active_whole (g : Nat) : ({ sessionIn .active with grant := g } : Session).Whole :=
  ⟨nofun, nofun, fun _ => ⟨31, rfl, by decide⟩, nofun, rfl, fun _ => (by decide : 0 < 40000), nofun, fun _ => rfl⟩

theorem vacant_whole : (Session.vacant 0).Whole :=
  ⟨fun _ => rfl, nofun, by decide, nofun, rfl, nofun, nofun, fun _ => rfl⟩

theorem steady_sessions : SessionInv steady where
  whole b := by
    obtain ⟨g, h | h⟩ := steady_session b <;> rw [h]
    · exact active_whole g
    · exact vacant_whole
  claimed e h := by rw [steady_entry e] at h; cases h
  linked b e h := by
    obtain ⟨g, h' | h'⟩ := steady_session b <;> rw [h'] at h <;> cases h

theorem steady_power : PowerInv steady where
  plans := by
    refine ⟨.inl (by decide), fun e => by rw [steady_entry e]; exact .inl (by decide), fun b => ?_, ?_⟩
    · obtain ⟨g, h | h⟩ := steady_session b <;> rw [h]
      · exact .inr ((by decide : 20 ≤ 60 ∧ 60 ≤ 100))
      · exact .inl rfl
    · intro p hp
      cases hp
  grant := get1_forall _ _ (fun _ (x : Session) => x.grant = 0 ∨ (20 ≤ x.grant ∧ x.grant ≤ 1200)) (fun _ _ => .inl rfl) (by decide +kernel)
  served := get1_forall _ _ (fun (b : Nat) (x : Session) => x.grant ≠ 0 → x.state ≠ .vacant ∧ x.state ≠ .identifying ∧ x.holds.any = false ∧
    (steady.link (cabOf b)).state = .up ∧ b ∈ steady.alloc.lastOrder) (fun _ _ h => absurd rfl h) (by decide +kernel)
  order := by decide +kernel
  granted b := by
    by_cases hb : 1 ≤ b ∧ b ≤ 48
    · exact (by decide +kernel : ∀ b ∈ List.range' 1 48, (steady.power b).commanded ≤ (steady.session b).grant) b
        (by simp [List.mem_range'_1]; omega)
    · have h : (steady.power b).commanded = 0 := by
        refine get1_forall steady.bond.bays _ (fun (i : Nat) (x : BayPower) => ¬ (1 ≤ i ∧ i ≤ 48) → x.commanded = 0) (fun _ _ _ => rfl) ?_ b hb
        intro i hi h
        simp [List.mem_range'_1] at hi
        omega
      omega
  carried b := by
    by_cases hb : 1 ≤ b ∧ b ≤ 48
    · exact (by decide +kernel : ∀ b ∈ List.range' 1 48, (steady.power b).commanded ≤ 300 * bonded steady b) b
        (by simp [List.mem_range'_1]; omega)
    · have h : (steady.power b).commanded = 0 := by
        refine get1_forall steady.bond.bays _ (fun (i : Nat) (x : BayPower) => ¬ (1 ≤ i ∧ i ≤ 48) → x.commanded = 0) (fun _ _ _ => rfl) ?_ b hb
        intro i hi h
        simp [List.mem_range'_1] at hi
        omega
      omega
  modules c m := by
    obtain h | ⟨rfl, -⟩ := steady_module c m
    · exact .inr (.inl (by rw [h]; rfl))
    · exact .inl (by decide +kernel)
  isolated c := by
    have h1 : (steady.cabFaults c).isolated = false :=
      get1_forall _ _ (fun _ (x : CabinetFaults) => x.isolated = false) (fun _ _ => rfl) (by decide +kernel) c
    have h2 : (steady.link c).state ≠ .isolated :=
      get1_forall _ _ (fun _ (x : Link) => x.state ≠ .isolated) (fun _ _ => by decide) (by decide +kernel) c
    simp [h1, h2]
  contactors c m h := by
    have h1 : (steady.module c m).contactor = none :=
      get1_forall _ _ (fun _ (x : Module) => x.contactor = none) (fun _ _ => rfl) (by decide +kernel) _
    rw [h1] at h
    cases h
  available := by decide +kernel
  stop := by decide +kernel

theorem steady_envelope : EnvelopeInv steady := ⟨by decide +kernel, by decide +kernel⟩

theorem steady_steps : ∃ t, step steady = .next t := by
  have h : leads (step steady) (fun _ => true) = true := by decide +kernel
  cases e : step steady with
  | next t => exact ⟨t, rfl⟩
  | fault f => rw [e] at h; cases h
  | refused r => rw [e] at h; cases h

theorem test_witness_StepKeepsBounds : BoundsInv steady ∧ SessionInv steady ∧ ∃ t, step steady = .next t :=
  ⟨steady_bounds, steady_sessions, steady_steps⟩
theorem test_witness_StepKeepsEnvelope : EnvelopeInv steady ∧ ∃ t, step steady = .next t :=
  ⟨steady_envelope, steady_steps⟩
theorem test_witness_StepKeepsSessions : BoundsInv steady ∧ SessionInv steady ∧ ∃ t, step steady = .next t :=
  ⟨steady_bounds, steady_sessions, steady_steps⟩
theorem test_witness_StepKeepsPower : PowerInv steady ∧ ∃ t, step steady = .next t := ⟨steady_power, steady_steps⟩

end Sys2Proof.Tests
end

section
/-! The invariants of O57 and O59 in one predicate, which also describes the states between the parts of a step: a
cabinet link between two states, and a session that is leaving. What each write of one item keeps of it. -/

namespace Sys2Proof.Machine

/-! ### The ranges of the items, one by one -/

/-- The ranges of Table 6-1 that hold whatever state the link is in. -/
structure Link.Ranged (l : Link) : Prop where
  probes    : l.probeCount ≤ 10
  probe     : TimerRange 10000 l.probe
  keep      : TimerRange 500 l.keep
  silence   : TimerRange 2000 l.silence
  lostHold  : TimerRange 1000 l.lostTimer ∧ (l.lostHold.isSome = l.lostTimer.isSome) ∧
                ∀ v ∈ l.lostHold, ∀ p, get1 v 0 p ≤ 65535
  installed : l.installed.length ≤ 4 ∧ l.installed.Nodup ∧ ∀ m ∈ l.installed, validModule m = true
  counts    : ∀ p, (l.bay p).lastBattery < 16777216 ∧ (l.bay p).lastAuxiliary < 16777216

/-- Each timer of a link runs exactly in the states of Table 6-1. -/
structure Link.Timed (l : Link) : Prop where
  probe   : l.probe.isSome = true ↔ l.state = .training ∨ l.state = .absent
  keep    : l.keep.isSome = true ↔ l.state = .up
  silence : l.silence.isSome = true ↔ l.state = .up ∨ l.state = .isolated

theorem Link.inRange_iff (l : Link) : l.InRange ↔ l.Ranged ∧ l.Timed where
  mp h := ⟨⟨h.probes, h.probe.1, h.keep.1, h.silence.1, h.lostHold, h.installed, h.counts⟩,
    ⟨h.probe.2, h.keep.2, h.silence.2⟩⟩
  mpr h := ⟨h.1.probes, ⟨h.1.probe, h.2.probe⟩, ⟨h.1.keep, h.2.keep⟩, ⟨h.1.silence, h.2.silence⟩, h.1.lostHold,
    h.1.installed, h.1.counts⟩

/-- The ranges of a module of cabinet `c` (Table 5-1). -/
structure Module.Fits (c : Nat) (x : Module) : Prop where
  bay       : ∀ b ∈ x.bay, validBay b = true ∧ cabOf b = c ∧
    (x.state = .closing ∨ x.state = .bonded ∨ x.state = .ramping)
  contactor : ∀ ms ∈ x.contactor, ms ≤ 2000 ∧ (x.state = .closing ∨ x.state = .opening)

/-- The ranges of the stored values of Table 5-3. -/
structure BayPower.InRange (x : BayPower) : Prop where
  commanded : x.commanded ≤ 1200
  reported  : x.reported ≤ 65535
  ramp      : TimerRange 5000 x.ramp

/-- A list of bays as the raise waiting list and the last order hold one (R95, R109). -/
structure BaysListed (l : List Nat) : Prop where
  length : l.length ≤ 48
  nodup  : l.Nodup
  valid  : ∀ b ∈ l, validBay b = true

/-- The ranges of the bond waiting list of cabinet `c` (R108). -/
structure BondsListed (c : Nat) (l : List BondEntry) : Prop where
  length : l.length ≤ 6
  nodup  : (l.map BondEntry.bay).Nodup
  valid  : ∀ e ∈ l, validBay e.bay = true ∧ cabOf e.bay = c ∧ 1 ≤ e.wanted ∧ e.wanted ≤ 4

/-- Every quantity is in its range, and the sessions and the plan claims agree. Between the parts of a step the timers
of cabinet `k`'s link may not be those of its state, and bay `d`'s session may name an entry whose claim has ended;
`k` and `d` are 0 where nothing stands open. -/
structure Sound (k d : Nat) (s : State) : Prop where
  clock    : s.clock.minute < 1440 ∧ s.clock.prescaler ≤ 60 ∧ s.clock.fraction < 1000
  sessions : ∀ b, (s.session b).InRange
  whole    : ∀ b, (s.session b).Whole
  entries  : ∀ e, (s.entry e).InRange
  claimed  : ∀ e, (s.entry e).state = .claimed →
               ∃ b, (s.entry e).claimant = some b ∧ (s.session b).planLink = some e
  linked   : ∀ b e, b ≠ d → (s.session b).planLink = some e →
               (s.entry e).state = .claimed ∧ (s.entry e).claimant = some b ∧ (s.entry e).plan = (s.session b).plan
  plans    : s.plans.defaultPlan.InRange ∧ 1 ≤ s.plans.cursor ∧ s.plans.cursor ≤ 97
  env      : s.env.InRange
  alloc    : s.alloc.InRange
  modules  : ∀ c m, (s.module c m).Fits c
  bays     : ∀ b, (s.power b).InRange
  raises   : BaysListed s.bond.raiseList
  bonds    : ∀ c, BondsListed c (s.bondList c)
  links    : ∀ c, (s.link c).Ranged
  timed    : ∀ c, c ≠ k → (s.link c).Timed
  ready    : s.ready.records.length ≤ 32 ∧ ∀ r ∈ s.ready.records, r.InRange
  faults   : (∀ m ∈ s.faults.overdrawMinute, m < 1440) ∧ ∀ m ∈ s.faults.stopMinute, m < 1440
  lines    : ∀ l, TimerRange 20 (s.line l).filter ∧ TimerRange 500 (s.line l).blinkTimer
  queue    : s.order.queue.length ≤ 16

theorem Link.reset_timed : Link.reset.Timed := ⟨by decide, by decide, by decide⟩

/-- With nothing open between the parts of a step, the predicate is what O57 and O59 take together. -/
theorem sound_iff (s : State) : Sound 0 0 s ↔ BoundsInv s ∧ SessionInv s where
  mp h := {
    left := {
      clock := h.clock, sessions := h.sessions, entries := h.entries, plans := h.plans, env := h.env, alloc := h.alloc
      bond := ⟨fun c m => ⟨(h.modules c m).bay, (h.modules c m).contactor⟩,
        fun b => ⟨(h.bays b).commanded, (h.bays b).reported, (h.bays b).ramp⟩,
        ⟨h.raises.length, h.raises.nodup, h.raises.valid⟩,
        fun c => ⟨(h.bonds c).length, (h.bonds c).nodup, (h.bonds c).valid⟩⟩
      links := fun c => by
        refine (Link.inRange_iff _).mpr ⟨h.links c, ?_⟩
        by_cases hc : c = 0
        · subst hc; exact Link.reset_timed
        · exact h.timed c hc
      ready := h.ready, faults := h.faults, lines := h.lines, queue := h.queue }
    right := {
      whole := h.whole, claimed := h.claimed
      linked := fun b e hl => by
        by_cases hb : b = 0
        · subst hb; cases hl
        · exact h.linked b e hb hl } }
  mpr h := by
    obtain ⟨hb, hs⟩ := h
    exact {
      clock := hb.clock, sessions := hb.sessions, entries := hb.entries, plans := hb.plans, env := hb.env
      alloc := hb.alloc, whole := hs.whole, claimed := hs.claimed, linked := fun b e _ => hs.linked b e
      modules := fun c m => ⟨(hb.bond.modules c m).1, (hb.bond.modules c m).2⟩
      bays := fun b => ⟨(hb.bond.bays b).1, (hb.bond.bays b).2.1, (hb.bond.bays b).2.2⟩
      raises := ⟨hb.bond.raises.1, hb.bond.raises.2.1, hb.bond.raises.2.2⟩
      bonds := fun c => ⟨(hb.bond.bonds c).1, (hb.bond.bonds c).2.1, (hb.bond.bonds c).2.2⟩
      links := fun c => ((Link.inRange_iff _).mp (hb.links c)).1
      timed := fun c _ => ((Link.inRange_iff _).mp (hb.links c)).2
      ready := hb.ready, faults := hb.faults, lines := hb.lines, queue := hb.queue }

/-! ### What an operation over a list keeps -/

/-- What each step of an operation over a list keeps, the whole keeps. -/
theorem forEach_keeps {P : State → Prop} {f : Nat → State → State} {l : List Nat}
    (hf : ∀ i ∈ l, ∀ s, P s → P (f i s)) {s : State} (h : P s) : P (forEach l f s) := by
  induction l generalizing s with
  | nil => exact h
  | cons i l ih =>
    exact ih (fun j hj => hf j (List.mem_cons_of_mem i hj)) (hf i List.mem_cons_self s h)

/-! ### One write of one item -/

namespace Sound

variable {k d : Nat} {s : State}

/-- A session is written that keeps its plan link, and its plan with it. -/
theorem putSession (h : Sound k d s) {b : Nat} {x : Session} (hr : x.InRange) (hw : x.Whole)
    (hl : x.planLink = (s.session b).planLink)
    (hp : x.planLink = none ∨ x.plan = (s.session b).plan) : Sound k d (putSession b x s) :=
  { h with
    sessions := fun j => by rw [session_putSession]; split; exacts [hr, h.sessions j]
    whole := fun j => by rw [session_putSession]; split; exacts [hw, h.whole j]
    claimed := fun e he => by
      obtain ⟨j, hj, hjl⟩ := h.claimed e he
      refine ⟨j, hj, ?_⟩
      rw [session_putSession]
      split
      · next hi => rw [hl, hi.1, hjl]
      · exact hjl
    linked := fun j e hd hj => by
      rw [session_putSession] at hj ⊢
      split at hj
      · next hi =>
        rw [if_pos hi]
        obtain ⟨rfl, -⟩ := hi
        rw [hl] at hj
        obtain ⟨h1, h2, h3⟩ := h.linked b e hd hj
        refine ⟨h1, h2, h3.trans ?_⟩
        rcases hp with hp | hp
        · rw [hl, hj] at hp; cases hp
        · exact hp.symm
      · next hi =>
        rw [if_neg hi]
        exact h.linked j e hd hj }

/-- An entry that is not CLAIMED is written, and is not CLAIMED after it. -/
theorem putEntry (h : Sound k d s) {e : Nat} {x : PlanEntry} (hx : x.InRange) (hs : (s.entry e).state ≠ .claimed)
    (hn : x.state ≠ .claimed) : Sound k d (putEntry e x s) :=
  { h with
    entries := fun j => by rw [entry_putEntry]; split; exacts [hx, h.entries j]
    claimed := fun j hj => by
      rw [entry_putEntry] at hj ⊢
      split at hj
      · exact absurd hj hn
      · next hi => rw [if_neg hi]; exact h.claimed j hj
    linked := fun b j hd hj => by
      obtain ⟨h1, h2⟩ := h.linked b j hd hj
      rw [entry_putEntry, if_neg]
      · exact ⟨h1, h2⟩
      · rintro ⟨rfl, -⟩; exact hs h1 }

/-- An OPEN entry is claimed for a bay whose session has no plan link, and the session takes its plan (R5, R33). -/
theorem claim (h : Sound k d s) {b e : Nat} {x : Session} (hb : validBay b = true) (he : validEntry e = true)
    (ho : (s.entry e).state = .opened) (hn : (s.session b).planLink = none) (hr : x.InRange) (hw : x.Whole)
    (hl : x.planLink = some e) (hp : x.plan = (s.entry e).plan) :
    Sound k d (Machine.putSession b x (claimEntry e b s)) := by
  have hb' : 1 ≤ b ∧ b ≤ 48 := by simpa [validBay] using hb
  have he' : 1 ≤ e ∧ e ≤ 96 := by simpa [validEntry] using he
  have hself : (Machine.putSession b x (claimEntry e b s)).session b = x := session_putSession_self _ _ _ hb
  have hother : ∀ j, j ≠ b → (Machine.putSession b x (claimEntry e b s)).session j = s.session j := fun j hj => by
    rw [session_putSession, if_neg fun hi => hj hi.1.symm]; rfl
  have hentry : ∀ j, (Machine.putSession b x (claimEntry e b s)).entry j =
      if e = j ∧ 1 ≤ e ∧ e ≤ 96 then { s.entry e with state := .claimed, claimant := some b } else s.entry j :=
    fun j => entry_putEntry ..
  have hnone : ∀ j, j ≠ d → (s.session j).planLink ≠ some e := fun j hd hj => by
    have := (h.linked j e hd hj).1
    rw [ho] at this
    cases this
  exact { h with
    sessions := fun j => by
      by_cases hj : j = b
      · subst hj; rw [hself]; exact hr
      · rw [hother j hj]; exact h.sessions j
    whole := fun j => by
      by_cases hj : j = b
      · subst hj; rw [hself]; exact hw
      · rw [hother j hj]; exact h.whole j
    entries := fun j => by
      rw [hentry]
      split
      · have hx := h.entries e
        refine ⟨fun _ => hx.identity (by rw [ho]; decide), hx.plan, ?_, fun o hq => ?_⟩
        · rintro _ ⟨⟩; exact ⟨hb, rfl⟩
        · have := (hx.outcome o hq).1
          rw [ho] at this
          cases this
      · exact h.entries j
    claimed := fun j hj => by
      rw [hentry] at hj ⊢
      by_cases hej : e = j
      · subst hej
        rw [if_pos ⟨rfl, he'⟩]
        exact ⟨b, rfl, by rw [hself, hl]⟩
      · rw [if_neg fun hi => hej hi.1] at hj ⊢
        obtain ⟨i, hi, hil⟩ := h.claimed j hj
        have hib : i ≠ b := by rintro rfl; rw [hn] at hil; cases hil
        exact ⟨i, hi, by rw [hother i hib, hil]⟩
    linked := fun j i hd hj => by
      rw [hentry]
      by_cases hjb : j = b
      · subst hjb
        rw [hself, hl] at hj
        obtain rfl : e = i := by simpa using hj
        rw [if_pos ⟨rfl, he'⟩, hself, hp]
        exact ⟨rfl, rfl, rfl⟩
      · rw [hother j hjb] at hj ⊢
        have hei : e ≠ i := by rintro rfl; exact hnone j hd hj
        rw [if_neg fun hi => hei hi.1]
        exact h.linked j i hd hj }

/-- A CLAIMED entry takes a plan, and its claimant's session with it (R17, R40). -/
theorem amend (h : Sound k d s) {b e : Nat} {x : PlanEntry} {y : Session} (he : validEntry e = true) (hbd : b ≠ d)
    (hb : (s.session b).planLink = some e) (hx : x.InRange) (hc : x.state = .claimed) (hm : x.claimant = some b)
    (hr : y.InRange) (hw : y.Whole) (hl : y.planLink = some e) (hp : y.plan = x.plan) :
    Sound k d (Machine.putSession b y (Machine.putEntry e x s)) := by
  have he' : 1 ≤ e ∧ e ≤ 96 := by simpa [validEntry] using he
  have hb' : validBay b = true := (hx.claimant b (by rw [hm]; rfl)).1
  have hself : (Machine.putSession b y (Machine.putEntry e x s)).session b = y := session_putSession_self _ _ _ hb'
  have hother : ∀ j, j ≠ b → (Machine.putSession b y (Machine.putEntry e x s)).session j = s.session j :=
    fun j hj => by rw [session_putSession, if_neg fun hi => hj hi.1.symm]; rfl
  have hentry : ∀ j, (Machine.putSession b y (Machine.putEntry e x s)).entry j =
      if e = j ∧ 1 ≤ e ∧ e ≤ 96 then x else s.entry j := fun j => entry_putEntry ..
  exact { h with
    sessions := fun j => by
      by_cases hj : j = b
      · subst hj; rw [hself]; exact hr
      · rw [hother j hj]; exact h.sessions j
    whole := fun j => by
      by_cases hj : j = b
      · subst hj; rw [hself]; exact hw
      · rw [hother j hj]; exact h.whole j
    entries := fun j => by rw [hentry]; split; exacts [hx, h.entries j]
    claimed := fun j hj => by
      rw [hentry] at hj ⊢
      by_cases hej : e = j
      · subst hej
        rw [if_pos ⟨rfl, he'⟩]
        exact ⟨b, hm, by rw [hself, hl]⟩
      · rw [if_neg fun hi => hej hi.1] at hj ⊢
        obtain ⟨i, hi, hil⟩ := h.claimed j hj
        have hib : i ≠ b := by rintro rfl; rw [hb] at hil; exact hej (by simpa using hil)
        exact ⟨i, hi, by rw [hother i hib, hil]⟩
    linked := fun j i hd hj => by
      rw [hentry]
      by_cases hjb : j = b
      · subst hjb
        rw [hself, hl] at hj
        obtain rfl : e = i := by simpa using hj
        rw [if_pos ⟨rfl, he'⟩, hself]
        exact ⟨hc, hm, hp.symm⟩
      · rw [hother j hjb] at hj ⊢
        have hei : e ≠ i := by
          rintro rfl
          have h1 := (h.linked j e hd hj).2.1
          rw [(h.linked b e hbd hb).2.1] at h1
          exact hjb (by simpa using h1.symm)
        rw [if_neg fun hi => hei hi.1]
        exact h.linked j i hd hj }

/-- A CLAIMED entry ends its claim while its claimant's session still names it (R20, R36). -/
theorem endClaim (h : Sound k 0 s) {b e : Nat} {x : PlanEntry} (hb : (s.session b).planLink = some e) (hx : x.InRange)
    (hc : x.state ≠ .claimed) : Sound k b (Machine.putEntry e x s) :=
  { h with
    entries := fun j => by rw [entry_putEntry]; split; exacts [hx, h.entries j]
    claimed := fun j hj => by
      rw [entry_putEntry] at hj ⊢
      split at hj
      · exact absurd hj hc
      · next hi => rw [if_neg hi]; exact h.claimed j hj
    linked := fun j i hd hj => by
      have hj0 : j ≠ 0 := by rintro rfl; cases hj
      obtain ⟨h1, h2, h3⟩ := h.linked j i hj0 hj
      have hb0 : b ≠ 0 := by rintro rfl; cases hb
      rw [entry_putEntry, if_neg]
      · exact ⟨h1, h2, h3⟩
      · rintro ⟨rfl, -⟩
        rw [(h.linked b e hb0 hb).2.1] at h2
        exact hd (by simpa using h2.symm) }

/-- No session is leaving where none may be. -/
theorem weaken (h : Sound k 0 s) : Sound k d s :=
  { h with linked := fun b e _ hb => h.linked b e (by rintro rfl; cases hb) hb }

/-- The session that was leaving is replaced by one with no plan link, and no entry is CLAIMED for it. -/
theorem replace (h : Sound k d s) (hd : validBay d = true) {x : Session} (hr : x.InRange) (hw : x.Whole)
    (hl : x.planLink = none) (hn : ∀ e, (s.session d).planLink = some e → (s.entry e).state ≠ .claimed) :
    Sound k 0 (Machine.putSession d x s) := by
  have hself : (Machine.putSession d x s).session d = x := session_putSession_self _ _ _ hd
  have hother : ∀ j, j ≠ d → (Machine.putSession d x s).session j = s.session j :=
    fun j hj => by rw [session_putSession, if_neg fun hi => hj hi.1.symm]
  exact { h with
    sessions := fun j => by
      by_cases hj : j = d
      · subst hj; rw [hself]; exact hr
      · rw [hother j hj]; exact h.sessions j
    whole := fun j => by
      by_cases hj : j = d
      · subst hj; rw [hself]; exact hw
      · rw [hother j hj]; exact h.whole j
    claimed := fun e he => by
      obtain ⟨j, hj, hjl⟩ := h.claimed e he
      have hjd : j ≠ d := by rintro rfl; exact hn e hjl he
      exact ⟨j, hj, by rw [hother j hjd, hjl]⟩
    linked := fun j e _ hj => by
      have hjd : j ≠ d := by rintro rfl; rw [hself, hl] at hj; cases hj
      rw [hother j hjd] at hj ⊢
      exact h.linked j e hjd hj }

/-- A CLAIMED entry becomes FREE, and the claimant's session loses its plan link (R18, R42). -/
theorem release (h : Sound k 0 s) {b e : Nat} {x : PlanEntry} {y : Session} (hb : (s.session b).planLink = some e)
    (hv : validBay b = true) (hx : x.InRange) (hc : x.state ≠ .claimed) (he : validEntry e = true)
    (hr : y.InRange) (hw : y.Whole) (hl : y.planLink = none) :
    Sound k 0 (Machine.putEntry e x (Machine.putSession b y s)) := by
  have he' : 1 ≤ e ∧ e ≤ 96 := by simpa [validEntry] using he
  refine (h.endClaim hb hx hc).replace hv hr hw hl fun j hj => ?_
  rw [putEntry_at_session, hb] at hj
  obtain rfl : e = j := by simpa using hj
  rw [entry_putEntry, if_pos ⟨rfl, he'⟩]
  exact hc

/-! ### Writes of the other items -/

theorem putPower (h : Sound k d s) {b : Nat} {x : BayPower} (hx : x.InRange) : Sound k d (putPower b x s) :=
  { h with bays := fun j => by rw [power_putPower]; split; exacts [hx, h.bays j] }

theorem putBondList (h : Sound k d s) {c : Nat} {l : List BondEntry} (hl : BondsListed c l) :
    Sound k d (putBondList c l s) :=
  { h with
    bonds := fun j => by
      rw [bondList_putBondList]
      split
      · next hj => rw [← hj.1]; exact hl
      · exact h.bonds j }

theorem putRaiseList (h : Sound k d s) {l : List Nat} (hl : BaysListed l) : Sound k d (putRaiseList l s) :=
  { h with raises := hl }

theorem putCabFaults (h : Sound k d s) {c : Nat} {x : CabinetFaults} : Sound k d (putCabFaults c x s) := { h with }

theorem putLine (h : Sound k d s) {l : Nat} {x : Line} (hf : TimerRange 20 x.filter)
    (hb : TimerRange 500 x.blinkTimer) :
    Sound k d (putLine l x s) :=
  { h with lines := fun j => by rw [line_putLine]; split; exacts [⟨hf, hb⟩, h.lines j] }

theorem putEnv (h : Sound k d s) {e : Envelope} (he : e.InRange) : Sound k d { s with env := e } := { h with env := he }

theorem putAlloc (h : Sound k d s) {a : Allocator} (ha : a.InRange) : Sound k d { s with alloc := a } :=
  { h with alloc := ha }

theorem putOrder (h : Sound k d s) {o : OrderLink} (ho : o.queue.length ≤ 16) : Sound k d { s with order := o } :=
  { h with queue := ho }

/-- A link is written whose timers, unless they stand open, are those of its state. -/
theorem putLink (h : Sound k d s) {c : Nat} {x : Link} (hr : x.Ranged) (ht : c ≠ k → x.Timed) :
    Sound k d (putLink c x s) :=
  { h with
    links := fun j => by rw [link_putLink]; split; exacts [hr, h.links j]
    timed := fun j hj => by
      rw [link_putLink]
      split
      · next hi => exact ht (by rintro rfl; exact hj hi.1.symm)
      · exact h.timed j hj }

/-- A link is written whose timers may not be those of its state. -/
theorem openLink (h : Sound 0 d s) {c : Nat} {x : Link} (hr : x.Ranged) : Sound c d (Machine.putLink c x s) :=
  { h with
    links := fun j => by rw [link_putLink]; split; exacts [hr, h.links j]
    timed := fun j hj => by
      rw [link_putLink, if_neg fun hi => hj hi.1.symm]
      by_cases hj0 : j = 0
      · subst hj0; exact Link.reset_timed
      · exact h.timed j hj0 }

/-- The link that stood open takes the timers of its state. -/
theorem closeLink (h : Sound k d s) (hk : validCab k = true) {x : Link} (hr : x.Ranged) (ht : x.Timed) :
    Sound 0 d (Machine.putLink k x s) :=
  { h with
    links := fun j => by rw [link_putLink]; split; exacts [hr, h.links j]
    timed := fun j _ => by
      have hk' : 1 ≤ k ∧ k ≤ 8 := by simpa [validCab] using hk
      rw [link_putLink]
      split
      · exact ht
      · next hi => exact h.timed j (by rintro rfl; exact hi ⟨rfl, hk'⟩) }

end Sound

/-- A module that is written is read back, and every other module is as it was. -/
theorem module_putModule_cases (c m c' m' : Nat) (x : Module) (s : State) :
    (putModule c m x s).module c' m' = s.module c' m' ∨
      (c = c' ∧ m = m' ∧ (putModule c m x s).module c' m' = x) := by
  unfold putModule State.module
  simp only [get1_set1]
  split
  · next hi =>
    obtain ⟨h1, h2⟩ := moduleIndex_inj c m c' m' hi.1 (by omega)
    exact .inr ⟨h1, h2, rfl⟩
  · exact .inl rfl

theorem Sound.putModule {k d : Nat} {s : State} (h : Sound k d s) {c m : Nat} {x : Module} (hx : x.Fits c) :
    Sound k d (putModule c m x s) :=
  { h with
    modules := fun c' m' => by
      rcases module_putModule_cases c m c' m' x s with hm | ⟨rfl, rfl, hm⟩
      · rw [hm]; exact h.modules c' m'
      · rw [hm]; exact hx }

end Sys2Proof.Machine
end

section
/-! What the operations that every chapter shares keep of `Sound`: pass requests, notices, frames to a cabinet, and
the sessions' own changes. -/

namespace Sys2Proof.Machine

/-! ### Banks -/

/-- An item of a tabulated bank is what the function gives, or the bank does not have it. -/
theorem get1_tabulate_cases {α : Type} (n : Nat) (f : Nat → α) (d : α) (i : Nat) :
    get1 (tabulate n f) d i = d ∨ (1 ≤ i ∧ i ≤ n ∧ get1 (tabulate n f) d i = f i) := by
  by_cases hi : 1 ≤ i ∧ i ≤ n
  · exact .inr ⟨hi.1, hi.2, get1_tabulate f d i hi.1 hi.2⟩
  · left
    unfold get1
    split
    · rfl
    · rw [Vector.getElem?_eq_none (by omega)]; rfl

/-- What holds of the default and of every value of the function holds of every read of a tabulated bank. -/
theorem get1_tabulate_forall {α : Type} {p : α → Prop} {n : Nat} {f : Nat → α} {d : α} (hd : p d) (hf : ∀ i, p (f i))
    (i : Nat) : p (get1 (tabulate n f) d i) := by
  rcases get1_tabulate_cases n f d i with h | ⟨-, -, h⟩
  · rw [h]; exact hd
  · rw [h]; exact hf i

/-! ### Sessions -/

theorem Session.vacant_inRange {n : Nat} (h : n < 65536) : (Session.vacant n).InRange where
  serial := h
  identity := nofun
  planLink := nofun
  plan := ⟨Nat.zero_lt_succ _, Nat.zero_le _, Nat.zero_le _, .inl rfl⟩
  countdown := ⟨by simp [Session.vacant], by simp [Session.vacant], nofun⟩
  battery := Nat.zero_le _
  auxiliary := Nat.zero_le _
  acceptance := Nat.zero_le _
  grant := .inl rfl
  opened := Nat.zero_lt_succ _
  idTimer := ⟨nofun, by simp [Session.vacant]⟩

theorem Session.vacant_whole (n : Nat) : (Session.vacant n).Whole where
  vacant _ := rfl
  identifying := nofun
  bound := by rintro (h | h) <;> cases h
  overdue := nofun
  window := rfl
  active := nofun
  satisfied := nofun
  anonymous _ := rfl

/-- Whether the window is open depends on the plan, the state and the countdown. -/
theorem Session.opensWindow_congr {x y : Session} (hp : y.plan = x.plan) (hs : y.state.counts = x.state.counts)
    (hc : y.countdown = x.countdown) : y.opensWindow = x.opensWindow := by
  unfold Session.opensWindow
  rw [hp, hs, hc]

/-- A session whose holds, grant and short flags change; a VACANT one keeps those of its state. -/
theorem Session.Whole.served {x : Session} (h : x.Whole) {holds : Holds} {grant : Nat} {short preShort : Bool}
    (hv : x.state = .vacant → holds = Holds.none ∧ grant = 0 ∧ short = false ∧ preShort = false) :
    ({ x with holds := holds, grant := grant, short := short, preShort := preShort } : Session).Whole :=
  { h with
    vacant := fun hs => by
      obtain ⟨rfl, rfl, rfl, rfl⟩ := hv hs
      rw [h.vacant hs]
      rfl }

theorem Session.InRange.served {x : Session} (h : x.InRange) {holds : Holds} {grant : Nat} {short preShort : Bool}
    (hg : grant = 0 ∨ (20 ≤ grant ∧ grant ≤ 1200)) :
    ({ x with holds := holds, grant := grant, short := short, preShort := preShort } : Session).InRange :=
  { h with grant := hg }

/-- The countdown formula gives a countdown (R9). -/
theorem countdownFrom_range (departure minute : Nat) : 1 ≤ countdownFrom departure minute ∧
    countdownFrom departure minute ≤ 1440 := by
  unfold countdownFrom
  dsimp only
  split <;> omega

theorem stateFor_cases (battery target : Nat) :
    (target ≤ battery ∧ stateFor battery target = .satisfied) ∨
      (battery < target ∧ stateFor battery target = .active) := by
  unfold stateFor
  split
  · next h => exact .inl ⟨h, rfl⟩
  · next h => exact .inr ⟨by omega, rfl⟩

/-- The state of a bound session counts down. -/
theorem stateFor_counts (battery target : Nat) : (stateFor battery target).counts = true := by
  rcases stateFor_cases battery target with ⟨-, h⟩ | ⟨-, h⟩ <;> rw [h] <;> rfl

/-- A counting state is ACTIVE or SATISFIED. -/
theorem SessionState.counts_iff (x : SessionState) : x.counts = true ↔ x = .active ∨ x = .satisfied := by
  cases x <;> decide

/-- A session with a countdown whose state is the one its battery energy gives is whole, whatever it was before. -/
theorem Session.Whole.ofCounting {x : Session} {c : Nat} (hc : x.countdown = some c) (h1 : 1 ≤ c) (h2 : c ≤ 1440)
    (hs : x.state = stateFor x.battery x.plan.target) (hw : x.windowOpen = x.opensWindow)
    (ha : x.identity = none → x.planLink = none) : x.Whole := by
  rcases stateFor_cases x.battery x.plan.target with ⟨hb, he⟩ | ⟨hb, he⟩ <;> rw [he] at hs
  · exact ⟨by simp [hs], by simp [hs], fun _ => ⟨c, hc, h1, h2⟩, by simp [hs], hw, by simp [hs], fun _ => hb, ha⟩
  · exact ⟨by simp [hs], by simp [hs], fun _ => ⟨c, hc, h1, h2⟩, by simp [hs], hw, fun _ => hb, by simp [hs], ha⟩

/-- What a whole record that is in range becomes with another countdown, in a state that counts. -/
theorem Session.InRange.ofCounting {x y : Session} {c : Nat} (h : x.InRange) (hp : y.plan.InRange)
    (hl : ∀ e ∈ y.planLink, validEntry e = true) (hc : y.countdown = some c) (h1 : 1 ≤ c) (h2 : c ≤ 1440)
    (hs : y.state.counts = true) (hi : y.idTimer = none)
    (hy : y.serial = x.serial ∧ y.identity = x.identity ∧ y.battery = x.battery ∧ y.auxiliary = x.auxiliary ∧
      y.acceptance = x.acceptance ∧ y.grant = x.grant ∧ y.opened = x.opened) : y.InRange := by
  obtain ⟨e1, e2, e3, e4, e5, e6, e7⟩ := hy
  refine ⟨e1 ▸ h.serial, e2 ▸ h.identity, hl, hp, ⟨fun _ => ⟨c, hc, h1, h2⟩, ?_, ?_⟩, e3 ▸ h.battery, e4 ▸ h.auxiliary,
    e5 ▸ h.acceptance, e6 ▸ h.grant, e7 ▸ h.opened, ?_⟩
  · intro ho; rw [ho] at hs; cases hs
  · intro v hv; rw [hc] at hv; obtain rfl : c = v := by simpa using hv
    exact h2
  · rw [hi]; exact ⟨nofun, nofun⟩

/-- Binding leaves a whole record (R5). -/
theorem Session.rebound_sound {x : Session} {p : Plan} {l : Option Nat} {m : Nat} (h : x.InRange) (hp : p.InRange)
    (hl : ∀ e ∈ l, validEntry e = true) (ha : x.identity = none → l = none) :
    (x.rebound p l m).InRange ∧ (x.rebound p l m).Whole := by
  obtain ⟨h1, h2⟩ := countdownFrom_range p.departure m
  exact ⟨h.ofCounting hp hl rfl h1 h2 (stateFor_counts ..) rfl ⟨rfl, rfl, rfl, rfl, rfl, rfl, rfl⟩,
    .ofCounting rfl h1 h2 rfl rfl ha⟩

/-- A session that counts holds no identity timer. -/
theorem Session.InRange.idTimer_none {x : Session} (h : x.InRange) (hs : x.state ≠ .identifying) :
    x.idTimer = none := by
  cases ht : x.idTimer with
  | none => rfl
  | some v => exact absurd (h.idTimer.2 (by rw [ht]; rfl)) hs

theorem Session.Whole.state_eq {x : Session} (h : x.Whole) (hs : x.state.counts = true) :
    x.state = stateFor x.battery x.plan.target := by
  rcases (SessionState.counts_iff _).mp hs with ha | ha
  · have := h.active ha
    rw [ha]; unfold stateFor; rw [if_neg (by omega)]
  · have := h.satisfied ha
    rw [ha]; unfold stateFor; rw [if_pos this]

/-- SET CLOCK leaves a whole record (R11). -/
theorem Session.reclocked_sound {x : Session} {m : Nat} (h : x.InRange) (hw : x.Whole) :
    (x.reclocked m).InRange ∧ (x.reclocked m).Whole := by
  unfold Session.reclocked
  dsimp only
  split
  · next hs =>
    obtain ⟨h1, h2⟩ := countdownFrom_range x.plan.departure m
    have hi : x.state ≠ .identifying := by rintro hi; rw [hi] at hs; cases hs
    exact ⟨h.ofCounting h.plan h.planLink rfl h1 h2 hs (h.idTimer_none hi) ⟨rfl, rfl, rfl, rfl, rfl, rfl, rfl⟩,
      .ofCounting rfl h1 h2 (hw.state_eq hs) rfl hw.anonymous⟩
  · exact ⟨h, hw⟩

/-- An amendment leaves a whole record of an open session that is bound (R17). -/
theorem Session.amended_sound {x : Session} {p : Plan} {m : Nat} (h : x.InRange) (hw : x.Whole) (hp : p.InRange)
    (hl : x.planLink ≠ none) : (x.amended p m).InRange ∧ (x.amended p m).Whole := by
  have hv : x.state ≠ .vacant := fun hv => hl (by rw [hw.vacant hv]; rfl)
  have hi : x.state ≠ .identifying := fun hi => hl (hw.identifying hi).2.1
  have hid : x.identity ≠ none := fun ha => hl (hw.anonymous ha)
  obtain ⟨h1, h2⟩ := countdownFrom_range p.departure m
  by_cases hd : p.departure ≠ x.plan.departure
  · have hy : x.amended p m = { x with
        plan := p, countdown := some (countdownFrom p.departure m), state := stateFor x.battery p.target
        windowOpen := ({ x with plan := p, countdown := some (countdownFrom p.departure m),
                                state := stateFor x.battery p.target } : Session).opensWindow } := by
      unfold Session.amended
      rw [if_pos hd]
      cases hs : x.state <;> simp_all [SessionState.counts]
    rw [hy]
    exact ⟨h.ofCounting hp h.planLink rfl h1 h2 (stateFor_counts ..) (h.idTimer_none hi) ⟨rfl, rfl, rfl, rfl, rfl,
      rfl, rfl⟩,
      .ofCounting rfl h1 h2 rfl rfl fun ha => absurd ha hid⟩
  · by_cases hc : x.state.counts = true
    · have hy : x.amended p m = { x with
          plan := p, state := stateFor x.battery p.target
          windowOpen := ({ x with plan := p, state := stateFor x.battery p.target } : Session).opensWindow } := by
        unfold Session.amended
        rw [if_neg hd]
        simp [hc]
      obtain ⟨c, hcd, c1, c2⟩ := hw.bound ((SessionState.counts_iff _).mp hc)
      rw [hy]
      exact ⟨h.ofCounting hp h.planLink hcd c1 c2 (stateFor_counts ..) (h.idTimer_none hi) ⟨rfl, rfl, rfl, rfl, rfl,
        rfl, rfl⟩,
        .ofCounting hcd c1 c2 rfl rfl fun ha => absurd ha hid⟩
    · have hs : x.state = .overdue := by cases hs : x.state <;> simp_all [SessionState.counts]
      have hy : x.amended p m = { x with plan := p, windowOpen := ({ x with plan := p } : Session).opensWindow } := by
        unfold Session.amended
        rw [if_neg hd]
        simp [hs, SessionState.counts]
      rw [hy]
      refine ⟨{ h with plan := hp }, ?_⟩
      exact ⟨by simp [hs], by simp [hs], by simp [hs], fun _ => hw.overdue hs, rfl, by simp [hs], by simp [hs],
        fun ha => absurd ha hid⟩

/-- The fields of an amended session that the claim speaks of (R17). -/
theorem Session.amended_fields (x : Session) (p : Plan) (m : Nat) :
    (x.amended p m).planLink = x.planLink ∧ (x.amended p m).plan = p := by
  unfold Session.amended
  dsimp only
  (repeat' split) <;> exact ⟨rfl, rfl⟩

theorem PlanEntry.free_inRange : PlanEntry.free.InRange :=
  ⟨fun h => absurd rfl h, ⟨by decide, by decide, by decide, .inl rfl⟩, nofun, nofun⟩

end Sys2Proof.Machine
end

section
namespace Sys2Proof.Machine

/-! ### Numbering -/

theorem validBay_iff {b : Nat} : validBay b = true ↔ 1 ≤ b ∧ b ≤ 48 := by simp [validBay]

theorem validCab_iff {c : Nat} : validCab c = true ↔ 1 ≤ c ∧ c ≤ 8 := by simp [validCab]

theorem validModule_iff {m : Nat} : validModule m = true ↔ 1 ≤ m ∧ m ≤ 4 := by simp [validModule]

theorem validEntry_iff {e : Nat} : validEntry e = true ↔ 1 ≤ e ∧ e ≤ 96 := by simp [validEntry]

theorem validPosition_iff {p : Nat} : validPosition p = true ↔ 1 ≤ p ∧ p ≤ 6 := by simp [validPosition]

theorem validLine_iff {l : Nat} : validLine l = true ↔ 1 ≤ l ∧ l ≤ 8 := by simp [validLine]

theorem cabOf_bayAt {c p : Nat} (hc : validCab c = true) (hp : validPosition p = true) : cabOf (bayAt c p) = c := by
  rw [validCab_iff] at hc
  rw [validPosition_iff] at hp
  unfold cabOf bayAt ceilDiv
  omega

theorem posOf_bayAt {c p : Nat} (hp : validPosition p = true) : posOf (bayAt c p) = p := by
  rw [validPosition_iff] at hp
  unfold posOf bayAt
  omega

theorem validBay_bayAt {c p : Nat} (hc : validCab c = true) (hp : validPosition p = true) :
    validBay (bayAt c p) = true := by
  rw [validCab_iff] at hc
  rw [validPosition_iff] at hp
  rw [validBay_iff]
  unfold bayAt
  omega

/-- The bays of a cabinet are the numbered ones whose cabinet it is (Table 0-2). -/
theorem mem_baysOf {c b : Nat} (hc : validCab c = true) : b ∈ baysOf c ↔ validBay b = true ∧ cabOf b = c := by
  rw [validCab_iff] at hc
  rw [validBay_iff]
  simp [baysOf, bayAt, cabOf, ceilDiv]
  omega

theorem mem_allBays {b : Nat} : b ∈ allBays ↔ validBay b = true := by
  rw [validBay_iff]; simp [allBays, List.mem_range'_1]; omega

theorem mem_allCabs {c : Nat} : c ∈ allCabs ↔ validCab c = true := by
  rw [validCab_iff]; simp [allCabs, List.mem_range'_1]; omega

theorem mem_allLines {l : Nat} : l ∈ allLines ↔ validLine l = true := by
  rw [validLine_iff]; simp [allLines, List.mem_range'_1]; omega

theorem mem_allModules {m : Nat} : m ∈ allModules ↔ validModule m = true := by
  rw [validModule_iff]; simp [allModules]; omega

theorem cabOf_valid {b : Nat} (hb : validBay b = true) : validCab (cabOf b) = true := by
  rw [validBay_iff] at hb
  rw [validCab_iff]
  unfold cabOf ceilDiv
  omega

/-! ### The outbound queue -/

theorem takeFirst_length {α : Type} {p : α → Bool} {l : List α} {a : α} {r : List α} (h : takeFirst p l = some (a, r)) :
    r.length + 1 = l.length := by
  have hs := takeFirst_spec p l
  rw [h] at hs
  obtain ⟨-, l1, l2, rfl, rfl, -⟩ := hs
  simp
  omega

theorem OrderLink.transmit_queue (o : OrderLink) (f : OutFrame) (r : List OutFrame) : (o.transmit f r).queue = r := by
  unfold OrderLink.transmit
  split <;> rfl

theorem OrderLink.startNext_queue (o : OrderLink) : o.startNext.queue.length ≤ o.queue.length := by
  unfold OrderLink.startNext
  split
  · exact Nat.le_refl _
  · split
    · next h => rw [transmit_queue]; have := takeFirst_length h; omega
    · split
      · next h => rw [transmit_queue]; have := takeFirst_length h; omega
      · exact Nat.le_refl _

/-- The queue holds at most 16 entries after a notice (R182). -/
theorem OrderLink.placeNotice_queue {o : OrderLink} (h : o.queue.length ≤ 16) (kind : Byte) (body : List Byte) :
    (o.placeNotice kind body).queue.length ≤ 16 := by
  unfold OrderLink.placeNotice queueSize
  split
  · refine Nat.le_trans (OrderLink.startNext_queue _) ?_
    simp; omega
  · exact h

/-- The queue holds at most 16 entries after a reply (R182). -/
theorem OrderLink.placeReply_queue {o : OrderLink} (h : o.queue.length ≤ 16) (tag kind : Byte) (body : List Byte) :
    (o.placeReply tag kind body).queue.length ≤ 16 := by
  unfold OrderLink.placeReply queueSize
  dsimp only
  split
  · refine Nat.le_trans (OrderLink.startNext_queue _) ?_
    simp; omega
  · split
    · next hf =>
      refine Nat.le_trans (OrderLink.startNext_queue _) ?_
      have := takeFirst_length hf
      simp; omega
    · exact h

/-! ### Cabinet links -/

theorem Link.Ranged.hand {l : Link} (h : l.Ranged) (m : CabMsg) : (l.hand m).Ranged := by
  unfold Link.hand Link.begin
  split
  · refine { h with keep := ?_ }
    dsimp only
    split
    · rintro _ ⟨⟩; decide
    · exact h.keep
  · exact { h with }

theorem Link.Timed.hand {l : Link} (h : l.Timed) (m : CabMsg) : (l.hand m).Timed := by
  unfold Link.hand Link.begin
  split
  · refine { h with keep := ?_ }
    dsimp only
    split
    · next hu => simp [hu]
    · exact h.keep
  · exact { h with }

theorem Link.hand_state (l : Link) (m : CabMsg) : (l.hand m).state = l.state := by
  rw [l.hand_kept m]

/-! ### Lists of bays -/

theorem BaysListed.tail {b : Nat} {l : List Nat} (h : BaysListed (b :: l)) : BaysListed l :=
  ⟨Nat.le_of_succ_le h.length, h.nodup.of_cons, fun i hi => h.valid i (List.mem_cons_of_mem b hi)⟩

theorem BaysListed.filter {l : List Nat} (h : BaysListed l) (p : Nat → Bool) : BaysListed (l.filter p) :=
  ⟨Nat.le_trans (List.length_filter_le ..) h.length, h.nodup.filter _, fun i hi =>
    h.valid i (List.mem_of_mem_filter hi)⟩

/-- A list of different bays is listed, since there are 48 bays. -/
theorem BaysListed.ofNodup {l : List Nat} (hn : l.Nodup) (hv : ∀ b ∈ l, validBay b = true) : BaysListed l :=
  ⟨(hn.subperm fun b hb => mem_allBays.mpr (hv b hb)).length_le, hn, hv⟩

/-- A bond waiting list of different bays of one cabinet is listed, since a cabinet has six bays. -/
theorem BondsListed.ofNodup {c : Nat} {l : List BondEntry} (hc : validCab c = true) (hn : (l.map BondEntry.bay).Nodup)
    (hv : ∀ e ∈ l, validBay e.bay = true ∧ cabOf e.bay = c ∧ 1 ≤ e.wanted ∧ e.wanted ≤ 4) : BondsListed c l where
  length := by
    have hsub : l.map BondEntry.bay ⊆ baysOf c := by
      intro b hb
      obtain ⟨e, he, rfl⟩ := List.mem_map.mp hb
      exact (mem_baysOf hc).mpr ⟨(hv e he).1, (hv e he).2.1⟩
    simpa [baysOf] using (hn.subperm hsub).length_le
  nodup := hn
  valid := hv

theorem BondsListed.nil (c : Nat) : BondsListed c [] := ⟨Nat.zero_le _, List.nodup_nil, nofun⟩

/-- Entries that keep their bays, some left out, keep the order of the bays. -/
theorem filterMap_bays_sublist {f : BondEntry → Option BondEntry} (hf : ∀ e e', f e = some e' → e'.bay = e.bay)
    (l : List BondEntry) : ((l.filterMap f).map BondEntry.bay).Sublist (l.map BondEntry.bay) := by
  induction l with
  | nil => exact List.Sublist.refl _
  | cons e l ih =>
    cases h : f e with
    | none => rw [List.filterMap_cons_none h]; exact ih.cons _
    | some e' =>
      rw [List.filterMap_cons_some h, List.map_cons, List.map_cons, hf e e' h]
      exact ih.cons_cons _

/-! ### Counts of modules -/

theorem modulesOf_length (s : State) (b : Nat) (st : ModuleState) : (modulesOf s b st).length ≤ 4 :=
  List.length_filter_le ..

theorem mem_modulesOf {s : State} {b m : Nat} {st : ModuleState} : m ∈ modulesOf s b st ↔
    validModule m = true ∧ (s.module (cabOf b) m).state = st ∧ (s.module (cabOf b) m).bay = some b := by
  unfold modulesOf
  rw [List.mem_filter, mem_allModules]
  simp

theorem targetCount_le {g : Nat} (h : g ≤ 1200) : targetCount g ≤ 4 := by
  unfold targetCount ceilDiv
  omega

/-- The target modules carry the grant. -/
theorem le_targetCount (g : Nat) : g ≤ 300 * targetCount g := by
  unfold targetCount ceilDiv
  omega

/-- A raise ends at or below the grant and what the bonded modules carry (R111). -/
theorem raiseOf_le (s : State) (b : Nat) (h : 0 < raiseOf s b) :
    (s.power b).commanded + (raiseOf s b).toNat ≤ raiseLimit s b := by
  unfold raiseOf at h ⊢
  dsimp only at h ⊢
  split at h
  · omega
  · next hc => rw [if_neg hc]; omega

/-- A raise ends at or below the available power, whatever the bays draw (R111). -/
theorem raiseOf_le_available (s : State) (b : Nat) (h : 0 < raiseOf s b) :
    siteExposure s + (raiseOf s b).toNat ≤ s.env.available := by
  unfold raiseOf at h ⊢
  dsimp only at h ⊢
  split at h
  · omega
  · next hc => rw [if_neg hc]; omega

end Sys2Proof.Machine
end

section
namespace Sys2Proof.Machine

theorem bonded_le (s : State) (b : Nat) : bonded s b ≤ 4 := modulesOf_length s b .bonded

/-- A module takes another state that has a bay, or no contactor timer, with it. -/
theorem Module.Fits.none {c : Nat} {st : ModuleState} : Module.Fits c { state := st, bay := none, contactor := none } :=
  ⟨nofun, nofun⟩

theorem BayPower.InRange.command {x : BayPower} (h : x.InRange) {v : Nat} (hv : v ≤ 1200) :
    ({ x with commanded := v } : BayPower).InRange := { h with commanded := hv }

theorem BayPower.InRange.report {x : BayPower} (h : x.InRange) {v : Nat} (hv : v ≤ 65535) :
    ({ x with reported := v } : BayPower).InRange := { h with reported := hv }

theorem BayPower.InRange.time {x : BayPower} (h : x.InRange) {t : Timer} (ht : TimerRange 5000 t) :
    ({ x with ramp := t } : BayPower).InRange := { h with ramp := ht }

theorem TimerRange.none {n : Nat} : TimerRange n Option.none := nofun

theorem TimerRange.some {n v : Nat} (h : v ≤ n) : TimerRange n (Option.some v) := by rintro _ ⟨⟩; exact h

namespace Sound

variable {k d : Nat} {s : State}

/-! ### Passes and notices -/

theorem grant_le (h : Sound k d s) (b : Nat) : (s.session b).grant ≤ 1200 := by
  have := (h.sessions b).grant
  omega

theorem snapshot (h : Sound k d s) : (takeSnapshot s).InRange where
  available := h.env.available
  ceilings := get1_tabulate_forall (p := (· ≤ 1200)) (Nat.zero_le _) fun c => h.env.ceilings c
  healthy := get1_tabulate_forall (p := (· ≤ 4)) (Nat.zero_le _) fun c => List.length_filter_le _ allModules
  bays b := by
    refine get1_tabulate_forall (p := fun x : SnapBay => x.serial < 65536 ∧ x.target ≤ 999999 ∧ x.battery ≤ 999999 ∧
      x.acceptance ≤ 3000 ∧ PowerRange x.power ∧ ∀ c ∈ x.countdown, c ≤ 1440) ?_ (fun b => ?_) b
    · exact ⟨by decide, by decide, by decide, by decide, .inl rfl, nofun⟩
    · have hb := h.sessions b
      exact ⟨hb.serial, hb.plan.target, hb.battery, hb.acceptance, hb.plan.power, hb.countdown.2.2⟩

theorem startPeriod (h : Sound k d s) : Sound k d (startPeriod s) :=
  h.putAlloc { h.alloc with
    periodTimer := ⟨_, rfl, Nat.mul_le_mul_right 1000 h.alloc.period.2⟩ }

theorem startPass (h : Sound k d s) : Sound k d (startPass s) :=
  h.putAlloc { h.alloc with
    periodTimer := ⟨_, rfl, Nat.mul_le_mul_right 1000 h.alloc.period.2⟩
    snapshot := by rintro _ ⟨⟩; exact h.snapshot }

theorem requestPass (h : Sound k d s) : Sound k d (requestPass s) := by
  rcases requestPass_cases s with ⟨-, e⟩ | ⟨-, -, e⟩ | ⟨-, -, e⟩ <;> rw [e]
  · exact h
  · exact h.putAlloc { h.alloc with }
  · exact h.startPass

theorem markStale (h : Sound k d s) : Sound k d (markStale s) := by
  unfold Machine.markStale
  split
  · exact h.putAlloc { h.alloc with }
  · exact h

theorem becomeIdle (h : Sound k d s) : Sound k d (becomeIdle s) := h.putAlloc { h.alloc with snapshot := nofun }

theorem notify (h : Sound k d s) {n : NoticeKind} {body : List Byte} : Sound k d (notify n body s) := by
  unfold Machine.notify
  split
  · exact h.putOrder (OrderLink.placeNotice_queue h.queue _ _)
  · exact h

/-! ### Frames and setpoints -/

theorem sendCab (h : Sound k d s) {c : Nat} {m : CabMsg} : Sound k d (sendCab c m s) :=
  h.putLink ((h.links c).hand m) fun hc => (h.timed c hc).hand m

theorem sendIfUp (h : Sound k d s) {c : Nat} {m : CabMsg} : Sound k d (sendIfUp c m s) := by
  unfold Machine.sendIfUp
  split
  · exact h.sendCab
  · exact h

theorem sendSetpoint (h : Sound k d s) {b v : Nat} (hv : v ≤ 1200) : Sound k d (sendSetpoint b v s) :=
  (h.putPower ((h.bays b).command hv)).sendIfUp

theorem reduce (h : Sound k d s) {b v : Nat} (hv : v ≤ 1200) : Sound k d (reduce b v s) :=
  (h.sendSetpoint hv).putPower (((h.sendSetpoint hv).bays b).time (.some (Nat.le_refl _)))

theorem examineFrom {l : List Nat} (hl : BaysListed l) (h : Sound k d s) : Sound k d (examineFrom l s) := by
  induction l generalizing s with
  | nil => exact h.putRaiseList hl
  | cons b rest ih =>
    unfold Machine.examineFrom
    dsimp only
    split
    · exact ih hl.tail h
    · split
      · exact h.putRaiseList hl
      · split
        · exact h.putRaiseList hl
        · next hy =>
          have hv : (s.power b).commanded + (raiseOf s b).toNat ≤ 1200 := by
            have h1 := raiseOf_le s b (by omega)
            have h2 := h.grant_le b
            unfold raiseLimit at h1
            omega
          split
          · exact ih hl.tail (h.sendSetpoint hv)
          · exact (h.sendSetpoint hv).putRaiseList hl

theorem examineRaises (h : Sound k d s) : Sound k d (examineRaises s) := by
  unfold Machine.examineRaises
  split
  · exact h
  · exact examineFrom h.raises h

/-! ### Bond waiting lists -/

theorem serveHead (h : Sound k d s) {c : Nat} : Sound k d (serveHead c s) := by
  unfold Machine.serveHead
  have hl := h.bonds c
  split
  · exact h
  · next e rest he =>
    rw [he] at hl
    obtain ⟨hv, hc, h1, h4⟩ := hl.valid e List.mem_cons_self
    split
    · exact h
    · split
      · exact h
      · have hm : Module.Fits c { state := .closing, bay := some e.bay, contactor := some contactorMs } :=
          ⟨by rintro _ ⟨⟩; exact ⟨hv, hc, .inl rfl⟩, by rintro _ ⟨⟩; exact ⟨Nat.le_refl _, .inl rfl⟩⟩
        refine (h.sendIfUp.putModule hm).putBondList ?_
        split
        · exact ⟨Nat.le_of_succ_le hl.length, hl.nodup.of_cons, fun i hi => hl.valid i (List.mem_cons_of_mem e hi)⟩
        · refine ⟨hl.length, hl.nodup, fun i hi => ?_⟩
          rcases List.mem_cons.mp hi with rfl | hi
          · exact ⟨hv, hc, by dsimp only; omega, by dsimp only; omega⟩
          · exact hl.valid i (List.mem_cons_of_mem e hi)

theorem serveBonds (h : Sound k d s) {c : Nat} : Sound k d (serveBonds c s) := h.serveHead.serveHead.serveHead.serveHead

theorem trimBondList (h : Sound k d s) {b : Nat} : Sound k d (trimBondList b s) := by
  have hl := h.bonds (cabOf b)
  have ht := targetCount_le (h.grant_le b)
  refine h.putBondList ⟨?_, ?_, fun e he => ?_⟩
  · exact Nat.le_trans (List.length_filterMap_le ..) hl.length
  · refine List.Nodup.sublist (filterMap_bays_sublist (fun e e' he => ?_) _) hl.nodup
    split at he
    · split at he
      · cases he
      · cases he; rfl
    · cases he; rfl
  · obtain ⟨i, hi, hie⟩ := List.mem_filterMap.mp he
    have hv := hl.valid i hi
    split at hie
    · split at hie
      · cases hie
      · cases hie
        exact ⟨hv.1, hv.2.1, by dsimp only; omega, by dsimp only; omega⟩
    · cases hie; exact hv

theorem lowerGrant (h : Sound k d s) {b : Nat} : Sound k d (lowerGrant b s) := by
  unfold Machine.lowerGrant
  dsimp only
  split
  · have h1 : Sound k d (if (s.session b).grant < (s.power b).commanded then Machine.reduce b (s.session b).grant s
        else s) := by
      split
      · exact h.reduce (h.grant_le b)
      · exact h
    exact ((h1.putRaiseList (h1.raises.filter _)).trimBondList).examineRaises
  · exact h

/-! ### Modules -/

theorem cancelRamps (h : Sound k d s) {b : Nat} : Sound k d (cancelRamps b s) := by
  refine forEach_keeps (P := Sound k d) (fun m _ s h => ?_) h
  dsimp only
  split
  · next hm =>
    have hf := h.modules (cabOf b) m
    refine h.putModule ⟨fun i hi => ⟨(hf.bay i hi).1, (hf.bay i hi).2.1, .inr (.inl rfl)⟩, fun ms hms => ?_⟩
    have := (hf.contactor ms hms).2
    rw [hm.1] at this
    simp at this
  · exact h

theorem releaseExcess (h : Sound k d s) {b : Nat} : Sound k d (releaseExcess b s) := by
  refine forEach_keeps (P := Sound k d) (fun m _ s h => ?_) h
  dsimp only
  split
  · next hm =>
    have hf := h.modules (cabOf b) m
    refine h.putModule ⟨fun i hi => ⟨(hf.bay i hi).1, (hf.bay i hi).2.1, .inr (.inr rfl)⟩, fun ms hms => ?_⟩
    have := (hf.contactor ms hms).2
    rw [hm.1] at this
    simp at this
  · exact h

theorem releaseTest (h : Sound k d s) {b : Nat} : Sound k d (releaseTest b s) := by
  unfold Machine.releaseTest
  split
  · refine forEach_keeps (P := Sound k d) (fun m _ s h => ?_) h
    exact h.sendIfUp.putModule ⟨nofun, by rintro _ ⟨⟩; exact ⟨Nat.le_refl _, .inr rfl⟩⟩
  · exact h

theorem rampTest (h : Sound k d s) {b : Nat} : Sound k d (rampTest b s) := by
  unfold Machine.rampTest
  dsimp only
  split
  · exact h.putPower ((h.bays b).time .none)
  · exact h

theorem takeReported (h : Sound k d s) {c : Nat} {reported : Nat → Nat} (hr : ∀ p, reported p ≤ 65535) :
    Sound k d (takeReported c reported s) := by
  have h1 : Sound k d (forEach (baysOf c)
      (fun b s => Machine.putPower b { s.power b with reported := reported (posOf b) } s) s) :=
    forEach_keeps (fun b _ s h => h.putPower ((h.bays b).report (hr _))) h
  unfold Machine.takeReported
  dsimp only
  split
  · exact (forEach_keeps (fun _ _ _ h => h.releaseTest) (forEach_keeps (fun _ _ _ h => h.rampTest) h1)).examineRaises
  · exact h1.examineRaises

/-! ### A publication -/

theorem rebuildBonds (h : Sound k d s) : Sound k d (rebuildBonds s) := by
  have hn := h.alloc.order.2.1
  have hvalid := h.alloc.order.2.2
  have key : ∀ t : State, (Sound k d t ∧ t.alloc.lastOrder = s.alloc.lastOrder) →
      ∀ c ∈ allCabs, (fun t => Sound k d t ∧ t.alloc.lastOrder = s.alloc.lastOrder) (Machine.putBondList c
        (if (t.link c).state = .up then (t.alloc.lastOrder.filter fun b => cabOf b = c).filterMap (bondEntry t)
          else []) t) := by
    rintro t ⟨h, ho⟩ c hc
    refine ⟨h.putBondList ?_, ho⟩
    split
    · have hcab : validCab c = true := mem_allCabs.mp hc
      have hbay : ∀ b e, bondEntry t b = some e → e.bay = b ∧ 1 ≤ e.wanted ∧ e.wanted ≤ 4 := by
        intro b e he
        unfold bondEntry at he
        have ht := targetCount_le (h.grant_le b)
        dsimp only at he
        split at he
        · cases he
          exact ⟨rfl, by dsimp only; omega, by dsimp only; omega⟩
        · cases he
      rw [ho]
      refine .ofNodup hcab ?_ fun e he => ?_
      · refine List.Nodup.sublist ?_ (hn.filter fun b => cabOf b = c)
        generalize (s.alloc.lastOrder.filter fun b => cabOf b = c) = l
        induction l with
        | nil => exact List.Sublist.refl _
        | cons b l ih =>
          cases hb : bondEntry t b with
          | none => rw [List.filterMap_cons_none hb]; exact ih.cons _
          | some e =>
            rw [List.filterMap_cons_some hb, List.map_cons, (hbay b e hb).1]
            exact ih.cons_cons _
      · obtain ⟨b, hb, hbe⟩ := List.mem_filterMap.mp he
        obtain ⟨rfl, hw⟩ := hbay b e hbe
        rw [List.mem_filter] at hb
        exact ⟨hvalid _ hb.1, by simpa using hb.2, hw⟩
    · exact .nil c
  exact (forEach_keeps (P := fun t => Sound k d t ∧ t.alloc.lastOrder = s.alloc.lastOrder)
    (fun c hc t h => key t h c hc) ⟨h, rfl⟩).1

theorem rebuildRaises (h : Sound k d s) : Sound k d (rebuildRaises s) :=
  h.putRaiseList ((BaysListed.mk h.alloc.order.1 h.alloc.order.2.1 h.alloc.order.2.2).filter _)

theorem each {l : List Nat} {f : Nat → State → State} (hf : ∀ i s, Sound k d s → Sound k d (f i s)) (h : Sound k d s) :
    Sound k d (forEach l f s) :=
  forEach_keeps (fun i _ => hf i) h

theorem bondPublication (h : Sound k d s) : Sound k d (bondPublication s) := by
  have lower : ∀ b t, Sound k d t → Sound k d
      (if (t.session b).grant < (t.power b).commanded then Machine.reduce b (t.session b).grant t else t) := by
    intro b t h
    split
    · exact h.reduce (h.grant_le b)
    · exact h
  exact Sound.examineRaises (.each (fun _ _ h => h.serveBonds) (.rebuildRaises (.rebuildBonds
    (.each (fun _ _ h => h.releaseExcess) (.each lower (.each (fun _ _ h => h.cancelRamps) h))))))

/-! ### Reports and faults of modules -/

theorem moduleOpened (h : Sound k d s) {c m : Nat} : Sound k d (moduleOpened c m s) := by
  unfold Machine.moduleOpened
  split
  · exact (h.putModule .none).serveBonds
  · exact (h.putModule .none).requestPass.serveBonds
  · exact h

theorem moduleClosed (h : Sound k d s) {c m : Nat} : Sound k d (moduleClosed c m s) := by
  unfold Machine.moduleClosed
  dsimp only
  split
  · have hf := h.modules c m
    refine (Sound.releaseExcess (h.putModule ⟨fun i hi => ?_, by rintro _ ⟨⟩⟩)).requestPass.examineRaises
    exact ⟨(hf.bay i hi).1, (hf.bay i hi).2.1, .inr (.inl rfl)⟩
  · exact h

theorem clipSetpoint (h : Sound k d s) {b : Nat} : Sound k d (clipSetpoint b s) := by
  unfold Machine.clipSetpoint
  split
  · exact h.reduce (by have := bonded_le s b; omega)
  · exact h

theorem moduleFault (h : Sound k d s) {c m : Nat} : Sound k d (moduleFault c m s) := by
  have h1 : Sound k d (Machine.putModule c m { state := .faulted, bay := none, contactor := none } s) :=
      h.putModule .none
  unfold Machine.moduleFault
  dsimp only
  split
  · exact (notify h1.clipSetpoint).requestPass.examineRaises
  · exact (notify h1).requestPass
  · exact h1.requestPass
  · exact h1.requestPass
  · exact h1.requestPass
  · exact h1
  · exact h1
  · exact h

/-! ### Cabinet links and the bond controller -/

theorem holdReported (h : Sound k d s) {c : Nat} : Sound k d (holdReported c s) := by
  refine forEach_keeps (P := Sound k d) (fun b _ s h => h.putPower ((h.bays b).report (Nat.zero_le _)))
    (h.putLink ?_ fun hc => ?_)
  · have hl := h.links c
    refine { hl with lostHold := ⟨by rintro _ ⟨⟩; decide, rfl, ?_⟩ }
    rintro _ ⟨⟩
    refine get1_tabulate_forall (p := (· ≤ 65535)) (Nat.zero_le _) fun p => ?_
    have hr := (h.bays (bayAt c p)).reported
    split
    · exact hr
    · next v hv => exact Nat.max_le.mpr ⟨hl.lostHold.2.2 v hv p, hr⟩
  · exact { h.timed c hc with }

theorem forgetModules (h : Sound k d s) {c : Nat} : Sound k d (forgetModules c s) := by
  refine forEach_keeps (P := Sound k d) (fun m _ s h => ?_) h
  split
  · exact h
  · exact h.putModule .none

theorem bondLeavesUp (h : Sound k d s) {held : Bool} {c : Nat} : Sound k d (bondLeavesUp held c s) := by
  have h2 : Sound k d (forEach (baysOf c)
      (fun b s => Machine.putPower b { s.power b with commanded := 0, ramp := none } s)
      (Machine.forgetModules c s)) :=
    forEach_keeps (P := Sound k d)
      (fun b _ s h => h.putPower (((h.bays b).command (Nat.zero_le _)).time .none)) h.forgetModules
  have h3 := (h2.putBondList (BondsListed.nil c)).putRaiseList (h2.raises.filter fun b => cabOf b ≠ c)
  unfold Machine.bondLeavesUp
  dsimp only
  cases held <;> simp only [Bool.false_eq_true, if_false, if_true] <;> split
  · exact h3.examineRaises
  · exact h3.examineRaises.requestPass
  · exact h3.holdReported.examineRaises
  · exact h3.holdReported.examineRaises.requestPass

theorem sendCeiling (h : Sound k d s) {c : Nat} : Sound k d (sendCeiling c s) := h.sendIfUp

theorem bondDescriptor (h : Sound k d s) {c : Nat} {l : List Nat} : Sound k d (bondDescriptor c l s) := by
  refine (forEach_keeps (P := Sound k d) (fun m _ s h => ?_) h).sendIfUp
  split
  · exact h
  · exact h.putModule .none

theorem adoptModules (h : Sound k d s) {c : Nat} (hc : validCab c = true) {l : List Nat} {v : Vector Byte 4} :
    Sound k d (adoptModules c l v s) := by
  have h1 : Sound k d (forEach allModules (fun m s =>
      if l.contains m then Machine.putModule c m (adoptedModule c (get1 v 0 m)) s else s) s) := by
    refine forEach_keeps (P := Sound k d) (fun m _ s h => ?_) h
    split
    · refine h.putModule ?_
      unfold adoptedModule
      split
      · exact .none
      · next h0 =>
        split
        · next h6 =>
          have hp : validPosition (get1 v 0 m).toNat = true := by
            rw [validPosition_iff]
            refine ⟨?_, h6⟩
            have : (get1 v 0 m).toNat ≠ 0 := fun h => h0 (BitVec.eq_of_toNat_eq (by simpa using h))
            omega
          exact ⟨by rintro _ ⟨⟩; exact ⟨validBay_bayAt hc hp, cabOf_bayAt hc hp, .inr (.inl rfl)⟩, nofun⟩
        · exact .none
    · exact h
  unfold Machine.adoptModules
  dsimp only
  split
  · exact h1.requestPass
  · exact h1

end Sound
end Sys2Proof.Machine
end

section
/-! The result of a pass: each grant is 0 or 20 to 1200 steps, only bays of the order have one, and the order lists
different bays (R84 to R92). -/

namespace Sys2Proof.Machine

/-! ### The order -/

theorem Snapshot.insert_perm (p : Snapshot) (a : Nat) (l : List Nat) : (p.insert a l).Perm (a :: l) := by
  induction l with
  | nil => exact .refl _
  | cons b l ih =>
    unfold Snapshot.insert
    split
    · exact .refl _
    · exact (ih.cons b).trans (.swap a b l)

/-- The key order holds the bays that take part, each once (R81, R84). -/
theorem Snapshot.keyOrder_perm (p : Snapshot) : p.keyOrder.Perm (allBays.filter p.inKeyOrder) := by
  unfold Snapshot.keyOrder
  generalize allBays.filter p.inKeyOrder = l
  induction l with
  | nil => exact .refl _
  | cons b l ih => exact (p.insert_perm b _).trans (ih.cons b)

theorem allBays_nodup : allBays.Nodup := List.nodup_range' 1

theorem Snapshot.keyOrder_nodup (p : Snapshot) : p.keyOrder.Nodup :=
  p.keyOrder_perm.nodup_iff.mpr (allBays_nodup.filter _)

theorem Snapshot.mem_keyOrder (p : Snapshot) (b : Nat) : b ∈ p.keyOrder ↔ validBay b = true ∧
    p.inKeyOrder b = true := by
  rw [p.keyOrder_perm.mem_iff, List.mem_filter, mem_allBays]

theorem Snapshot.mem_stageC (p : Snapshot) (b : Nat) : b ∈ p.stageC ↔ validBay b = true ∧ p.inStageC b = true := by
  unfold Snapshot.stageC
  rw [List.mem_filter, mem_allBays]

/-- A session takes part in the key order or in stage C, not in both (R81). -/
theorem Snapshot.not_inKeyOrder_of_inStageC (p : Snapshot) (b : Nat) (h : p.inStageC b = true) :
    p.inKeyOrder b = false := by
  unfold Snapshot.inStageC at h
  unfold Snapshot.inKeyOrder
  have hs : (p.bay b).state = .overdue := by
    simp only [Bool.and_eq_true, decide_eq_true_eq] at h
    exact h.1.1.1
  rw [hs]
  rfl

/-- The new last order lists different bays (R92). -/
theorem passResult_order (p : Snapshot) : BaysListed (passResult p).order := by
  refine .ofNodup (List.nodup_append.mpr ⟨p.keyOrder_nodup, allBays_nodup.filter _, ?_⟩) fun b hb => ?_
  · rintro a ha b hb rfl
    have h1 := ((p.mem_keyOrder a).mp ha).2
    have h2 := p.not_inKeyOrder_of_inStageC a ((p.mem_stageC a).mp hb).2
    rw [h1] at h2
    cases h2
  · rcases List.mem_append.mp hb with hb | hb
    · exact ((p.mem_keyOrder b).mp hb).1
    · exact ((p.mem_stageC b).mp hb).1

/-! ### What a stage does to one bay -/

/-- The working grant of a bay, and the precondition part of it. -/
def Work.at (w : Work) (b : Nat) : Nat × Nat := (w.grant b, w.pre b)

theorem Work.give_at (w : Work) (a y b : Nat) :
    (w.give a y).at b = if a = b ∧ validBay a = true then (w.grant a + y, w.pre a) else w.at b := by
  unfold Work.at Work.grant Work.pre Work.give
  dsimp only
  simp only [get1_set1, validBay_iff]
  split
  · next h => obtain ⟨rfl, -⟩ := h; rfl
  · rfl

/-- An operation that visits a bay leaves the other bays' grants. -/
def Local (f : Work → Nat → Work) : Prop := ∀ w a b, a ≠ b → (f w a).at b = w.at b

theorem Work.ask_local (k x : Work → Nat → Nat) : Local fun w b => w.ask b (k w b) (x w b) := fun w a b h => by
  unfold Work.ask
  rw [Work.give_at, if_neg fun e => h e.1]

/-- Visiting different bays in turn, a bay that is visited is visited once, from the grant it has. -/
theorem foldl_at {f : Work → Nat → Work} (hf : Local f) {l : List Nat} (hl : l.Nodup) (w : Work) (b : Nat) :
    (b ∉ l → (l.foldl f w).at b = w.at b) ∧
      (b ∈ l → ∃ v, v.at b = w.at b ∧ (l.foldl f w).at b = (f v b).at b) := by
  induction l generalizing w with
  | nil => exact ⟨fun _ => rfl, nofun⟩
  | cons a l ih =>
    obtain ⟨ha, ht⟩ := List.nodup_cons.mp hl
    rw [List.foldl_cons]
    constructor
    · intro hb
      have hab : a ≠ b := by rintro rfl; exact hb List.mem_cons_self
      rw [(ih ht (f w a)).1 fun h => hb (List.mem_cons_of_mem a h), hf w a b hab]
    · intro hb
      rcases List.mem_cons.mp hb with rfl | hb
      · exact ⟨w, rfl, (ih ht (f w b)).1 ha⟩
      · have hab : a ≠ b := by rintro rfl; exact ha hb
        obtain ⟨v, hv, he⟩ := (ih ht (f w a)).2 hb
        exact ⟨v, hv.trans (hf w a b hab), he⟩

/-- The increment given is what is asked for at most, or the 20 steps of the minimum rule (R86, R87). -/
theorem Work.ask_at (w : Work) (b k x : Nat) (hb : validBay b = true) :
    ∃ y, (w.ask b k x).at b = (w.grant b + y, w.pre b) ∧ (y ≤ x ∨ (w.grant b = 0 ∧ y = 20 ∧ 20 ≤ k)) ∧
      (w.grant b = 0 → y = 0 ∨ 20 ≤ y) := by
  refine ⟨w.adjusted b k (w.increment b x), ?_, ?_⟩
  · unfold Work.ask
    rw [Work.give_at, if_pos ⟨rfl, hb⟩]
  · have hx : w.increment b x ≤ x := by unfold Work.increment; omega
    generalize w.increment b x = y at *
    unfold Work.adjusted
    split
    · next h =>
      simp only [Bool.and_eq_true, decide_eq_true_eq] at h
      split
      · next hk =>
        simp only [Bool.and_eq_true, decide_eq_true_eq] at hk
        exact ⟨.inr ⟨h.1.1, rfl, hk.2⟩, fun _ => .inr (Nat.le_refl _)⟩
      · exact ⟨.inl (Nat.zero_le _), fun _ => .inl rfl⟩
    · next h =>
      simp only [Bool.and_eq_true, decide_eq_true_eq] at h
      exact ⟨.inl hx, fun h0 => by omega⟩

theorem Snapshot.bayCap_le (p : Snapshot) (b pre : Nat) : p.bayCap b pre ≤ 1200 := by
  unfold Snapshot.bayCap
  omega

/-! ### The four stages -/

theorem stage0_local (p : Snapshot) : Local (stage0 p) := fun w a b h => by
  unfold stage0
  dsimp only
  split
  · rfl
  · split
    · have hgive := w.give_at a (p.bay a).pre b
      rw [if_neg fun e => h e.1] at hgive
      unfold Work.at Work.pre Work.grant at hgive ⊢
      dsimp only at hgive ⊢
      rw [get1_set1_other _ _ _ _ _ h]
      exact hgive
    · rfl

theorem stageA_local (p : Snapshot) : Local (stageA p) := fun w a b h => by
  unfold stageA
  dsimp only
  split
  · rfl
  · exact Work.ask_local (fun _ b => p.bayCap b (p.bay b).pre)
      (fun _ b => min (p.bay b).need (p.chargeCap b (p.bay b).pre)) w a b h

theorem stageB_local (p : Snapshot) : Local (stageB p) := fun w a b h => by
  unfold stageB
  dsimp only
  split
  · rfl
  · exact Work.ask_local (fun _ b => p.bayCap b (p.bay b).pre)
      (fun w b => p.chargeCap b (p.bay b).pre - w.charge b) w a b h

theorem stageCStep_local (p : Snapshot) : Local (stageCStep p) :=
  Work.ask_local (fun _ b => p.bayCap b 0) (fun _ b => p.chargeCap b 0)

/-- A precondition power that a window gives is 0, or 20 to 100 steps. -/
theorem SnapBay.pre_range {x : SnapBay} (h : PowerRange x.power) : PowerRange x.pre := by
  unfold SnapBay.pre
  split
  · exact h
  · exact .inl rfl

/-- Stage 0 gives the precondition power or nothing (R88). -/
theorem stage0_at (p : Snapshot) (w : Work) (b : Nat) (hb : validBay b = true) (h : w.at b = (0, 0)) :
    (stage0 p w b).at b = (0, 0) ∨ (stage0 p w b).at b = ((p.bay b).pre, (p.bay b).pre) := by
  have hg : w.grant b = 0 := congrArg Prod.fst h
  unfold stage0
  dsimp only
  split
  · exact .inl h
  · split
    · right
      have hgive := Work.give_at w b (p.bay b).pre b
      rw [if_pos ⟨rfl, hb⟩, hg] at hgive
      unfold Work.at Work.pre Work.grant
      dsimp only
      obtain ⟨h1, h2⟩ := validBay_iff.mp hb
      rw [get1_set1_self _ _ _ _ h1 h2]
      have hfst := congrArg Prod.fst hgive
      simp only [Nat.zero_add] at hfst
      exact Prod.ext hfst rfl
    · exact .inl h

/-- A bay's working grant between the stages: 0 or 20 to 1200, with no more of it received than P_pre. -/
def Capped (pre : Nat) (x : Nat × Nat) : Prop := (x.1 = 0 ∨ (20 ≤ x.1 ∧ x.1 ≤ 1200)) ∧ x.2 ≤ x.1 ∧ x.2 ≤ pre

theorem stageA_at (p : Snapshot) (w : Work) (b : Nat) (hb : validBay b = true) (hp : PowerRange (p.bay b).pre)
    (h : w.at b = (0, 0) ∨ w.at b = ((p.bay b).pre, (p.bay b).pre)) : Capped (p.bay b).pre ((stageA p w b).at b) := by
  have hc := p.bayCap_le b (p.bay b).pre
  have hw : w.grant b = w.pre b ∧ (w.pre b = 0 ∨ w.pre b = (p.bay b).pre) := by
    rcases h with h | h <;> obtain ⟨h1, h2⟩ := Prod.mk.inj h <;> omega
  unfold PowerRange at hp
  unfold stageA
  dsimp only
  split
  · unfold Capped Work.at
    omega
  · obtain ⟨y, hy, hle, hmin⟩ := w.ask_at b (p.bayCap b (p.bay b).pre)
      (min (p.bay b).need (p.chargeCap b (p.bay b).pre)) hb
    rw [hy]
    unfold Snapshot.chargeCap at hle
    unfold Capped
    omega

theorem stageB_at (p : Snapshot) (w : Work) (b : Nat) (hb : validBay b = true)
    (h : Capped (p.bay b).pre (w.at b)) : Capped (p.bay b).pre ((stageB p w b).at b) := by
  have hc := p.bayCap_le b (p.bay b).pre
  unfold stageB
  dsimp only
  split
  · exact h
  · obtain ⟨y, hy, hle, hmin⟩ := w.ask_at b (p.bayCap b (p.bay b).pre)
      (p.chargeCap b (p.bay b).pre - w.charge b) hb
    rw [hy]
    unfold Capped Work.at at h
    unfold Snapshot.chargeCap Work.charge at hle
    unfold Capped
    dsimp only at h ⊢
    omega

theorem stageCStep_at (p : Snapshot) (w : Work) (b : Nat) (hb : validBay b = true) (h : w.at b = (0, 0)) :
    Capped 0 ((stageCStep p w b).at b) := by
  have hc := p.bayCap_le b 0
  obtain ⟨h1, h2⟩ := Prod.mk.inj h
  obtain ⟨y, hy, hle, hmin⟩ := w.ask_at b (p.bayCap b 0) (p.chargeCap b 0) hb
  unfold stageCStep
  rw [hy]
  unfold Snapshot.chargeCap at hle
  unfold Capped
  dsimp only
  omega

/-! ### The result -/

theorem Work.start_at (p : Snapshot) (b : Nat) : (Work.start p).at b = (0, 0) := by
  have h : get1 (Vector.replicate 48 0) 0 b = 0 :=
    get1_forall _ _ (fun _ (x : Nat) => x = 0) (fun _ _ => rfl) (by decide) b
  exact Prod.ext h h

/-- The working grants after stages 0, A and B. -/
theorem stages0AB_at (p : Snapshot) (hp : ∀ b, PowerRange (p.bay b).power) (b : Nat) :
    let wB := p.keyOrder.foldl (stageB p) (p.keyOrder.foldl (stageA p) (p.keyOrder.foldl (stage0 p) (Work.start p)))
    (b ∈ p.keyOrder → Capped (p.bay b).pre (wB.at b)) ∧ (b ∉ p.keyOrder → wB.at b = (0, 0)) := by
  have hn := p.keyOrder_nodup
  have f0 := foldl_at (stage0_local p) hn (Work.start p) b
  have fA := foldl_at (stageA_local p) hn (p.keyOrder.foldl (stage0 p) (Work.start p)) b
  have fB := foldl_at (stageB_local p) hn (p.keyOrder.foldl (stageA p) (p.keyOrder.foldl (stage0 p) (Work.start p))) b
  refine ⟨fun hb => ?_, fun hb => ?_⟩
  · have hv := ((p.mem_keyOrder b).mp hb).1
    have hpre := SnapBay.pre_range (hp b)
    obtain ⟨v0, h0, e0⟩ := f0.2 hb
    obtain ⟨vA, hA, eA⟩ := fA.2 hb
    obtain ⟨vB, hB, eB⟩ := fB.2 hb
    have h0' := stage0_at p v0 b hv (h0.trans (Work.start_at p b))
    rw [← e0, ← hA] at h0'
    have hA' := stageA_at p vA b hv hpre h0'
    rw [← eA, ← hB] at hA'
    rw [eB]
    exact stageB_at p vB b hv hA'
  · rw [fB.1 hb, fA.1 hb, f0.1 hb, Work.start_at]

/-- Each grant of a result is 0 or 20 to 1200 steps, and a bay that is not of the order has none (R87, R92). -/
theorem passResult_grant (p : Snapshot) (hp : ∀ b, PowerRange (p.bay b).power) (b : Nat) :
    ((passResult p).grant b = 0 ∨ (20 ≤ (passResult p).grant b ∧ (passResult p).grant b ≤ 1200)) ∧
      (b ∉ (passResult p).order → (passResult p).grant b = 0) := by
  have hAB := stages0AB_at p hp b
  have fC := foldl_at (stageCStep_local p) (allBays_nodup.filter p.inStageC)
    (p.keyOrder.foldl (stageB p) (p.keyOrder.foldl (stageA p) (p.keyOrder.foldl (stage0 p) (Work.start p)))) b
  have hg : (passResult p).grant b = ((runStages p).at b).1 := rfl
  have hr : runStages p = p.stageC.foldl (stageCStep p) (p.keyOrder.foldl (stageB p)
    (p.keyOrder.foldl (stageA p) (p.keyOrder.foldl (stage0 p) (Work.start p)))) := rfl
  rw [hg, hr]
  by_cases hC : b ∈ p.stageC
  · have hv := ((p.mem_stageC b).mp hC).1
    have hk : b ∉ p.keyOrder := fun hk => by
      have h1 := ((p.mem_keyOrder b).mp hk).2
      rw [p.not_inKeyOrder_of_inStageC b ((p.mem_stageC b).mp hC).2] at h1
      cases h1
    obtain ⟨v, hv0, e⟩ := fC.2 hC
    have := stageCStep_at p v b hv (hv0.trans (hAB.2 hk))
    rw [← e] at this
    exact ⟨this.1, fun hno => absurd (List.mem_append_right _ hC) hno⟩
  · have e : (p.stageC.foldl (stageCStep p) _).at b = _ := fC.1 hC
    rw [e]
    by_cases hk : b ∈ p.keyOrder
    · exact ⟨(hAB.1 hk).1, fun hno => absurd (List.mem_append_left _ hk) hno⟩
    · rw [hAB.2 hk]
      exact ⟨.inl rfl, fun _ => rfl⟩

end Sys2Proof.Machine
end

section
namespace Sys2Proof.Machine

/-! ### The envelope -/

theorem availableOf_le {e : Envelope} (h : e.InRange) : availableOf e ≤ 65535 := by
  unfold availableOf
  split
  · exact Nat.zero_le _
  · next v hv => have := (h.siteCeiling v hv).2; omega

theorem Envelope.InRange.computed {e : Envelope} (h : e.InRange) :
    ({ e with available := availableOf e } : Envelope).InRange := { h with available := availableOf_le h }

theorem Allocator.InRange.ordered {a : Allocator} (h : a.InRange) {l : List Nat} (hl : BaysListed l) :
    ({ a with lastOrder := l } : Allocator).InRange := { h with order := ⟨hl.length, hl.nodup, hl.valid⟩ }

theorem buildingOf_le {e : Envelope} (h : e.InRange) (assigned : Bool) : buildingOf assigned e ≤ 65535 := by
  unfold buildingOf
  have := h.reserve
  split
  · split
    · exact Nat.min_le_left ..
    · exact this
  · exact this

/-- A grant after a shed's visit is 0, or 20 at least (R98). -/
theorem shedGrant_min (g c : Nat) (t : Int) : shedGrant g c t = 0 ∨ 20 ≤ shedGrant g c t := by
  unfold shedGrant
  dsimp only
  split <;> omega

theorem functionLevel_le (s : State) (f : LineFunction) : functionLevel s f ≤ 1 := by
  unfold functionLevel
  split <;> decide

theorem stageOfLines_le (s : State) : stageOfLines s ≤ 3 := by
  have h1 := functionLevel_le s .curtailA
  have h2 := functionLevel_le s .curtailB
  unfold stageOfLines
  omega

namespace Sound

variable {k d : Nat} {s : State}

/-! ### Grants, holds and sheds -/

/-- A session's grant and short flags are written. -/
theorem putGrant (h : Sound k d s) {b : Nat} {grant : Nat} {short preShort : Bool}
    (hg : grant = 0 ∨ (20 ≤ grant ∧ grant ≤ 1200))
    (hv : (s.session b).state = .vacant → grant = 0 ∧ short = false ∧ preShort = false) :
    Sound k d (Machine.putSession b { s.session b with grant := grant, short := short, preShort := preShort } s) := by
  refine h.putSession ((h.sessions b).served hg) ((h.whole b).served fun hs => ⟨?_, hv hs⟩) rfl (.inr rfl)
  rw [(h.whole b).vacant hs]
  rfl

theorem visit {w : ShedWalk} (h : Sound k d w.state) (b : Nat) : Sound k d (w.visit b).state := by
  unfold ShedWalk.visit
  dsimp only
  split
  · exact h
  · have hle := shedGrant_le (w.state.session b).grant (w.state.power b).commanded w.deficit
    have hmin := shedGrant_min (w.state.session b).grant (w.state.power b).commanded w.deficit
    have hg := (h.sessions b).grant
    refine h.putGrant (by omega) fun hs => ?_
    rw [(h.whole b).vacant hs] at hle ⊢
    exact ⟨Nat.le_zero.mp hle, rfl, rfl⟩

theorem shedWalk {w : ShedWalk} (h : Sound k d w.state) (cause : ShedCause) (l : List Nat) :
    Sound k d (shedWalk cause l w).state := by
  induction l generalizing w with
  | nil => exact h
  | cons b l ih =>
    unfold Machine.shedWalk
    split
    · exact h
    · exact ih (h.visit b)

theorem shed (h : Sound k d s) {cause : ShedCause} {target : Int} : Sound k d (shed cause target s) :=
  .requestPass (.notify (.markStale (.each (fun _ _ h => h.lowerGrant) (shedWalk (w := ⟨s, _, 0, []⟩) h cause _))))

theorem handOnAvailable (h : Sound k d s) {old : Nat} : Sound k d (handOnAvailable old s) := by
  unfold Machine.handOnAvailable
  dsimp only
  have h1 : Sound k d (if s.env.available < old then Machine.markStale s else s) := by
    split
    · exact h.markStale
    · exact h
  generalize (if s.env.available < old then Machine.markStale s else s) = u at *
  have h2 : Sound k d (if s.env.available < commandedSum u then Machine.shed .envelope s.env.available u else u) := by
    split
    · exact h1.shed
    · exact h1
  split
  · exact h2
  · exact h2.requestPass.examineRaises

/-- The envelope takes values in range, and the available power is computed from them and handed on (R66, R67). -/
theorem recompute (h : Sound k d s) : Sound k d (recompute s) :=
  (h.putEnv h.env.computed).handOnAvailable

theorem recomputeBuilding (h : Sound k d s) : Sound k d (recomputeBuilding s) :=
  h.putEnv { h.env with building := buildingOf_le h.env _ }

/-! ### Publication -/

theorem publishBay (h : Sound k d s) {p : Snapshot} (hp : p.InRange) {b : Nat} :
    Sound k d (publishBay p (passResult p) b s) := by
  unfold Machine.publishBay
  dsimp only
  split
  · exact h.putGrant (.inl rfl) fun _ => ⟨rfl, rfl, rfl⟩
  · next hw =>
    refine h.putGrant (passResult_grant p (fun b => (hp.bays b).2.2.2.2.1) b).1 fun hs => ?_
    exact absurd (by simp [withdrawn, hs]) hw

theorem publish (h : Sound k d s) {p : Snapshot} (hp : p.InRange) : Sound k d (publish p (passResult p) s) := by
  have ho := passResult_order p
  have h1 : Sound k d (forEach allBays (Machine.publishBay p (passResult p)) s) :=
      .each (fun _ _ h => h.publishBay hp) h
  have h2 : Sound k d (passNotice p (writePublication p (passResult p) s)) :=
    .notify (.bondPublication (h1.putAlloc (h1.alloc.ordered ho)))
  unfold Machine.publish
  dsimp only
  split
  · exact h2.startPass
  · exact h2.becomeIdle

theorem completePass (h : Sound k d s) : Sound k d (completePass s) := by
  unfold Machine.completePass
  split
  · exact h
  · next p hp =>
    dsimp only
    split
    · exact h.becomeIdle
    · split
      · exact h.startPass
      · split
        · exact h.startPass
        · exact h.publish (h.alloc.snapshot p hp)

/-! ### The session table -/

/-- A SATISFIED session's ready record is in range, and the list takes it (R15, R148). -/
theorem addReady (h : Sound k d s) {b : Nat} (hb : validBay b = true) (hs : (s.session b).state = .satisfied) :
    Sound k d (addReady b s) := by
  have hx := h.sessions b
  have hr : (readyRecordOf s b).InRange := by
    refine ⟨hb, hx.identity, hx.planLink, h.clock.1, hx.battery, ?_⟩
    obtain ⟨c, hc, h1, h2⟩ := hx.countdown.1 (.inr hs)
    show 1 ≤ (s.session b).countdown.getD 0 ∧ (s.session b).countdown.getD 0 ≤ 1440
    rw [hc]
    exact ⟨h1, h2⟩
  have hl : (s.ready.add (readyRecordOf s b)).records.length ≤ 32 ∧
      ∀ r ∈ (s.ready.add (readyRecordOf s b)).records, r.InRange := by
    unfold ReadyList.add readySize
    split
    · refine ⟨by simp; omega, fun r h' => ?_⟩
      rcases List.mem_append.mp h' with h' | h'
      · exact h.ready.2 r h'
      · rw [List.mem_singleton.mp h']; exact hr
    · refine ⟨by simp, fun r h' => ?_⟩
      rcases List.mem_append.mp h' with h' | h'
      · exact h.ready.2 r (List.mem_of_mem_take h')
      · rw [List.mem_singleton.mp h']; exact hr
  exact notify (s := { s with ready := s.ready.add (readyRecordOf s b) }) { h with ready := hl }

theorem putLinkBay (h : Sound k d s) {b : Nat} {x : LinkBay}
    (hx : x.lastBattery < 16777216 ∧ x.lastAuxiliary < 16777216) : Sound k d (putLinkBay b x s) := by
  have hl := h.links (cabOf b)
  refine h.putLink { hl with counts := fun p => ?_ } fun hc => { h.timed _ hc with }
  unfold Link.bay
  rw [get1_set1]
  split
  · exact hx
  · exact hl.counts p

theorem linkBay_counts (h : Sound k d s) (b : Nat) :
    (s.linkBay b).lastBattery < 16777216 ∧ (s.linkBay b).lastAuxiliary < 16777216 := (h.links _).counts _

theorem plugPresent (h : Sound k d s) {b : Nat} : Sound k d (plugPresent b s) := by
  unfold Machine.plugPresent
  split
  · exact h
  · next ho =>
    have hv : (s.session b).state = .vacant := by
      simpa [Session.isOpen] using ho
    have hn : (s.session b).planLink = none := by rw [(h.whole b).vacant hv]; rfl
    have hr := Session.vacant_inRange (n := ((s.session b).serial + 1) % 65536) (by omega)
    refine .notify (.putLinkBay (h.putSession ?_ ?_ ?_ (.inl rfl)) ⟨?_, ?_⟩)
    · exact { hr with
        countdown := ⟨by simp [openedSession, Session.vacant], by simp [openedSession], nofun⟩
        opened := h.clock.1
        idTimer := ⟨.some (Nat.le_refl _), fun _ => rfl⟩ }
    · exact ⟨nofun, fun _ => ⟨rfl, rfl, rfl, rfl⟩, by simp [openedSession], nofun, rfl, nofun, nofun, fun _ => rfl⟩
    · exact hn.symm
    · exact Nat.zero_lt_succ _
    · exact Nat.zero_lt_succ _

/-- A session takes another acceptance, and another identity where it had none and is bound. -/
theorem putAcceptance (h : Sound k d s) {b a : Nat} (ha : a ≤ 3000) (ho : (s.session b).state ≠ .vacant) :
    Sound k d (Machine.putSession b { s.session b with acceptance := a } s) := by
  have hw := h.whole b
  exact h.putSession { h.sessions b with acceptance := ha } { hw with vacant := fun hs => absurd hs ho } rfl (.inr rfl)

theorem updateAcceptance (h : Sound k d s) {b v : Nat} : Sound k d (updateAcceptance b v s) := by
  unfold Machine.updateAcceptance
  dsimp only
  split
  · next ho =>
    have h1 := h.putAcceptance (b := b) (Nat.min_le_right v 3000) (by simpa [Session.isOpen] using ho)
    split
    · exact h1.requestPass
    · exact h1
  · exact h

/-- A bound session with no identity takes one (R6). -/
theorem putIdentity (h : Sound k d s) {b : Nat} {v : U24} (hv : v ≠ 0) (ho : (s.session b).state ≠ .vacant)
    (hi : (s.session b).state ≠ .identifying) :
    Sound k d (Machine.putSession b { s.session b with identity := some v } s) := by
  have hw := h.whole b
  refine h.putSession { h.sessions b with identity := ?_ } ?_ rfl (.inr rfl)
  · rintro _ ⟨⟩; exact hv
  · exact { hw with vacant := fun hs => absurd hs ho, identifying := fun hs => absurd hs hi, anonymous := nofun }

end Sound
end Sys2Proof.Machine
end

section
namespace Sys2Proof.Machine

/-! ### Matching -/

/-- An entry that a match request is answered with is OPEN (R32). -/
theorem matchEntry_opened {s : State} {v : U24} {e : Nat} (h : matchEntry s v = some e) :
    validEntry e = true ∧ (s.entry e).state = .opened := by
  unfold matchEntry at h
  refine ⟨?_, by simpa using List.find?_some h⟩
  have hm := List.mem_of_find?_eq_some h
  generalize kindRank = ks at hm
  induction ks with
  | nil => cases hm
  | cons k ks ih =>
    unfold topCandidates at hm
    split at hm
    · exact ih hm
    · have := List.mem_of_mem_filter hm
      rw [validEntry_iff]
      simp [allEntries, List.mem_range'_1] at this
      omega

/-! ### Sessions after the shared operations -/

@[simp] theorem requestPass_sessions (s : State) : (requestPass s).sessions = s.sessions :=
  (requestPass_quiet s).power.sessions

@[simp] theorem requestPass_session (s : State) (b : Nat) : (requestPass s).session b = s.session b := by
  unfold State.session; rw [requestPass_sessions]

theorem noticeClosed_quiet (cause : CloseCause) (b : Nat) (s : State) : Quiet s (noticeClosed cause b s) :=
  notify_quiet ..

/-- An open session's acceptance is recorded (R8). -/
theorem updateAcceptance_session {s : State} {b v : Nat} (hb : validBay b = true) (ho : (s.session b).state ≠ .vacant) :
    (updateAcceptance b v s).session b = { s.session b with acceptance := min v 3000 } := by
  unfold updateAcceptance Session.isOpen
  dsimp only
  rw [if_pos (by simpa using ho)]
  split
  · rw [requestPass_session, session_putSession_self _ _ _ hb]
  · rw [session_putSession_self _ _ _ hb]

/-- A claim and a write of a session do not meet. -/
theorem putSession_claimEntry_putSession (b e c : Nat) (x y : Session) (s : State) :
    putSession b y (claimEntry e c (putSession b x s)) = putSession b y (claimEntry e c s) :=
  putSession_putSession b x y (claimEntry e c s)

/-- A session whose countdown has run out is whole (R16). -/
theorem Session.overdue_sound {x : Session} (h : x.InRange) (hw : x.Whole) (hs : x.state.counts = true) :
    ({ x with state := .overdue, countdown := some 0, windowOpen := false } : Session).InRange ∧
      ({ x with state := .overdue, countdown := some 0, windowOpen := false } : Session).Whole := by
  have hni : x.state ≠ .identifying := by rintro e; rw [e] at hs; cases hs
  have hcd : ∀ v ∈ some 0, v ≤ 1440 := by rintro _ ⟨⟩; exact Nat.zero_le _
  refine ⟨{ h with
    countdown := ⟨by simp, fun _ => rfl, hcd⟩
    idTimer := ⟨h.idTimer.1, by simp [h.idTimer_none hni]⟩ }, ?_⟩
  exact ⟨by simp, by simp, by simp, fun _ => rfl, by simp [Session.opensWindow, SessionState.counts], by simp, by simp,
    hw.anonymous⟩

namespace Sound

variable {k d : Nat} {s : State}

/-! ### Binding -/

/-- What binding writes is kept, and the rest of it with it (R5). -/
theorem bindOf {b : Nat} {p : Plan} {l : Option Nat} (hb : validBay b = true)
    (h : Sound k d (Machine.putSession b ((s.session b).rebound p l s.clock.minute) s)) : Sound k d (bind b p l s) := by
  unfold bind
  dsimp only
  split
  · next hs => exact (h.addReady hb (by rw [session_putSession_self _ _ _ hb]; exact hs)).requestPass
  · exact h.requestPass

/-- Binding to the default plan (R3, R4). -/
theorem bindDefault (h : Sound k d s) {b : Nat} (hb : validBay b = true) (hi : (s.session b).state = .identifying) :
    Sound k d (bind b s.plans.defaultPlan none s) := by
  obtain ⟨hr, hw⟩ := Session.rebound_sound (m := s.clock.minute) (h.sessions b) h.plans.1 (l := none) nofun fun _ => rfl
  exact bindOf hb (h.putSession hr hw ((h.whole b).identifying hi).2.1.symm (.inl rfl))

/-- An identity is recorded for an IDENTIFYING session, which is bound to what it matches (R3, R32, R33). -/
theorem matchAndBind (h : Sound k d s) {b : Nat} (hb : validBay b = true) (hi : (s.session b).state = .identifying)
    {v : U24} (hv : v ≠ 0) :
    Sound k d (matchAndBind b v (Machine.putSession b { s.session b with identity := some v, idTimer := none } s)) := by
  have hx : ({ s.session b with identity := some v, idTimer := none } : Session).InRange :=
    { h.sessions b with
      identity := by rintro _ ⟨⟩; exact hv
      idTimer := ⟨.none, nofun⟩ }
  have hn := ((h.whole b).identifying hi).2.1
  have hs := session_putSession_self b { s.session b with identity := some v, idTimer := none } s hb
  have hm : matchEntry (Machine.putSession b { s.session b with identity := some v, idTimer := none } s) v =
    matchEntry s v := rfl
  unfold Machine.matchAndBind
  rw [hm]
  split
  · next e he =>
    obtain ⟨hve, ho⟩ := matchEntry_opened he
    obtain ⟨hr, hw⟩ := Session.rebound_sound (p := (s.entry e).plan) (l := some e) (m := s.clock.minute) hx
      (h.entries e).plan (by rintro _ ⟨⟩; exact hve) nofun
    refine bindOf hb ?_
    have hc : (claimEntry e b (Machine.putSession b { s.session b with identity := some v, idTimer := none }
        s)).session b =
      { s.session b with identity := some v, idTimer := none } := hs
    rw [hc, putSession_claimEntry_putSession]
    exact h.claim hb hve ho hn hr hw rfl rfl
  · obtain ⟨hr, hw⟩ := Session.rebound_sound (l := none) (m := s.clock.minute) hx h.plans.1 nofun fun _ => rfl
    refine bindOf hb ?_
    rw [hs, putSession_putSession]
    exact h.putSession hr hw hn.symm (.inl rfl)

/-- A late identity that finds an entry (R6). -/
theorem lateClaim (h : Sound k d s) {b e : Nat} (hb : validBay b = true) {v : U24} (he : matchEntry s v = some e)
    (hi : (s.session b).identity ≠ none) (hn : (s.session b).planLink = none) : Sound k d (lateClaim b e s) := by
  obtain ⟨hve, ho⟩ := matchEntry_opened he
  obtain ⟨hr, hw⟩ := Session.rebound_sound (p := (s.entry e).plan) (l := some e) (m := s.clock.minute) (h.sessions b)
    (h.entries e).plan (by rintro _ ⟨⟩; exact hve) fun ha => absurd ha hi
  have h1 := (h.claim hb hve ho hn hr hw rfl rfl).requestPass
  unfold Machine.lateClaim
  dsimp only
  split
  · next hs =>
    refine h1.addReady hb ?_
    rw [requestPass_session, session_putSession_self _ _ _ hb]
    exact hs.1
  · exact h1

/-- An identity report for a bay (R3, R6, R7). -/
theorem takeIdentity (h : Sound k d s) {b : Nat} (hb : validBay b = true) {v : U24} {a : Nat} :
    Sound k d (takeIdentity b v a s) := by
  have late : (s.session b).state = .active ∨ (s.session b).state = .satisfied ∨ (s.session b).state = .overdue →
      ¬ ((s.session b).identity.isSome = true ∨ v = 0) →
      let s1 := Machine.updateAcceptance b a (Machine.putSession b { s.session b with identity := some v } s)
      Sound k d s1 ∧ (s1.session b).identity ≠ none ∧ (s1.session b).planLink = none := by
    intro hs hv
    have hv' : v ≠ 0 := fun e => hv (.inr e)
    have hid : (s.session b).identity = none := by simpa using fun e => hv (.inl e)
    have hvac : (s.session b).state ≠ .vacant := by rintro e; simp [e] at hs
    have hi : (s.session b).state ≠ .identifying := by rintro e; simp [e] at hs
    have hself := session_putSession_self b { s.session b with identity := some v } s hb
    refine ⟨(h.putIdentity hv' hvac hi).updateAcceptance, ?_⟩
    rw [updateAcceptance_session hb (by rw [hself]; exact hvac), hself]
    exact ⟨nofun, (h.whole b).anonymous hid⟩
  unfold Machine.takeIdentity
  dsimp only
  split
  · exact h
  · next hi =>
    split
    · exact h.updateAcceptance
    · next hv =>
      have hx := updateAcceptance_session (v := a) hb (by rw [hi]; decide : (s.session b).state ≠ .vacant)
      exact h.updateAcceptance.matchAndBind hb (by rw [hx]; exact hi) hv
  · next hs =>
    split
    · exact h.updateAcceptance
    · next hv =>
      obtain ⟨h1, hid, hl⟩ := late (.inl hs) hv
      split
      · next he => exact h1.lateClaim hb he hid hl
      · exact h1
  · next hs =>
    split
    · exact h.updateAcceptance
    · next hv =>
      obtain ⟨h1, hid, hl⟩ := late (.inr (.inl hs)) hv
      split
      · next he => exact h1.lateClaim hb he hid hl
      · exact h1
  · next hs =>
    split
    · exact h.updateAcceptance
    · next hv => exact (late (.inr (.inr hs)) hv).1

/-! ### Energy and countdowns -/

/-- An energy that grows stays at or above what it was (R13). -/
theorem le_addEnergy {e i : Nat} (h : e ≤ 999999) : e ≤ addEnergy e i := by
  unfold addEnergy
  omega

theorem countEnergy (h : Sound k d s) {b battery auxiliary : Nat} (hb : validBay b = true) :
    Sound k d (countEnergy b battery auxiliary s) := by
  have hx := h.sessions b
  have hw := h.whole b
  unfold Machine.countEnergy
  dsimp only
  split
  · next ho =>
    have ho : (s.session b).state ≠ .vacant := by simpa [Session.isOpen] using ho
    have hr : ∀ st, (st = .active ∨ st = .satisfied → (s.session b).state.counts = true) →
        (st = .overdue → (s.session b).state = .overdue) → (st ≠ .identifying → (s.session b).state ≠ .identifying) →
        ({ s.session b with
          battery := addEnergy (s.session b).battery (increment battery (s.linkBay b).lastBattery)
          auxiliary := addEnergy (s.session b).auxiliary (increment auxiliary (s.linkBay b).lastAuxiliary)
          state := st } : Session).InRange := fun st hs ho hi =>
      { hx with
        battery := Nat.min_le_left ..
        auxiliary := Nat.min_le_left ..
        countdown := ⟨fun e => hx.countdown.1 ((SessionState.counts_iff _).mp (hs e)), fun e => hx.countdown.2.1 (ho e),
          hx.countdown.2.2⟩
        idTimer := ⟨hx.idTimer.1, fun e => by
          have := hx.idTimer.2 e
          by_contra hc
          exact hi hc this⟩ }
    split
    · next hs =>
      have ha : (s.session b).state = .active := hs.1
      refine requestPass (addReady (h.putSession (hr .satisfied (fun _ => by rw [ha]; rfl) nofun fun _ =>
        by rw [ha]; nofun)
        ?_ rfl (.inr rfl)) hb (by rw [session_putSession_self _ _ _ hb]))
      have hwin := hw.window
      exact ⟨nofun, nofun, fun _ => hw.bound (.inl ha), nofun,
        hwin.trans (Session.opensWindow_congr rfl (by rw [ha]; rfl) rfl), nofun, fun _ => hs.2, hw.anonymous⟩
    · next hs =>
      refine h.putSession (hr (s.session b).state (SessionState.counts_iff _).mpr id id) ?_ rfl (.inr rfl)
      refine ⟨fun e => absurd e ho, hw.identifying, hw.bound, hw.overdue, hw.window, fun e => ?_, fun e => ?_,
        hw.anonymous⟩
      · by_contra hc
        exact hs ⟨e, by simpa using hc⟩
      · exact Nat.le_trans (hw.satisfied e) (le_addEnergy hx.battery)
  · exact h

theorem noticeOverdue (h : Sound k d s) {b : Nat} : Sound k d (noticeOverdue b s) := h.notify

/-- The minute event at one session (R10, R16). -/
theorem minuteAt (h : Sound k d s) {b : Nat} : Sound k d (minuteAt b s) := by
  have hx := h.sessions b
  have hw := h.whole b
  unfold Machine.minuteAt
  dsimp only
  split
  · next hs =>
    have hni : (s.session b).state ≠ .identifying := by rintro e; rw [e] at hs; cases hs
    obtain ⟨c, hc, h1, h2⟩ := hw.bound ((SessionState.counts_iff _).mp hs)
    have hg : (s.session b).countdown.getD 0 = c := by rw [hc]; rfl
    rw [hg]
    have ht := hx.idTimer_none hni
    split
    · obtain ⟨hr, hwo⟩ := Session.overdue_sound hx hw hs
      exact (h.putSession hr hwo rfl (.inr rfl)).requestPass.noticeOverdue
    · next h0 =>
      have h1 := h.putSession (b := b)
        (hx.ofCounting (y := { s.session b with
            countdown := some (c - 1)
            windowOpen := ({ s.session b with countdown := some (c - 1) } : Session).opensWindow })
          hx.plan hx.planLink rfl (by omega) (by omega) hs ht ⟨rfl, rfl, rfl, rfl, rfl, rfl, rfl⟩)
        (.ofCounting rfl (by omega) (by omega) (hw.state_eq hs) rfl hw.anonymous) rfl (.inr rfl)
      split
      · exact h1.requestPass
      · exact h1
  · exact h

theorem reclockSessions (h : Sound k d s) : Sound k d (reclockSessions s) := by
  have h1 : Sound k d (forEach allBays (fun b s => Machine.putSession b ((s.session b).reclocked s.clock.minute) s) s) := by
    refine .each (fun b t h => ?_) h
    obtain ⟨hr, hw⟩ := Session.reclocked_sound (m := t.clock.minute) (h.sessions b) (h.whole b)
    have hp : ((t.session b).reclocked t.clock.minute).planLink = (t.session b).planLink ∧
        ((t.session b).reclocked t.clock.minute).plan = (t.session b).plan := by
      unfold Session.reclocked
      dsimp only
      split <;> exact ⟨rfl, rfl⟩
    exact h.putSession hr hw hp.1 (.inr hp.2)
  unfold Machine.reclockSessions
  dsimp only
  split
  · exact h1.requestPass
  · exact h1

/-! ### Closing and holds -/

theorem withdrawGrant (h : Sound k d s) {b : Nat} : Sound k d (withdrawGrant b s) :=
  (h.putGrant (.inl rfl) fun _ => ⟨rfl, rfl, rfl⟩).lowerGrant

theorem setHold (h : Sound k d s) {r : HoldReason} {b : Nat} : Sound k d (setHold r b s) := by
  unfold Machine.setHold
  dsimp only
  split
  · next ho =>
    have ho : (s.session b).state ≠ .vacant := by
      simp only [Bool.and_eq_true] at ho
      simpa [Session.isOpen] using ho.1
    have hw := h.whole b
    have h1 := h.putSession (b := b) (x := { s.session b with holds := (s.session b).holds.set r true })
      { h.sessions b with } { hw with vacant := fun e => absurd e ho } rfl (.inr rfl)
    split
    · exact h1.requestPass
    · exact h1.withdrawGrant.requestPass
  · exact h

theorem clearHold (h : Sound k d s) {r : HoldReason} {b : Nat} : Sound k d (clearHold r b s) := by
  rcases clearHold_cases r b s with ⟨ho, -, e⟩ | ⟨-, e⟩ <;> rw [e]
  · have ho : (s.session b).state ≠ .vacant := by simpa [Session.isOpen] using ho
    have hw := h.whole b
    exact (h.putSession (x := { s.session b with holds := (s.session b).holds.set r false })
      { h.sessions b with } { hw with vacant := fun e => absurd e ho } rfl (.inr rfl)).requestPass
  · exact h

/-- An entry whose claimant's session is closed is in range (R36). -/
theorem endedEntry (h : Sound k 0 s) {b e : Nat} (hb : (s.session b).planLink = some e) :
    ∃ x : PlanEntry, x.InRange ∧ x.state ≠ .claimed ∧
      Machine.endClaim e (outcomeOf s b) s = Machine.putEntry e x s := by
  have hb0 : b ≠ 0 := by rintro rfl; cases hb
  obtain ⟨hc, hm, -⟩ := h.linked b e hb0 hb
  have hx := h.entries e
  have hbay : validBay b = true := (hx.claimant b (by rw [hm]; rfl)).1
  have hs := h.sessions b
  unfold Machine.endClaim
  dsimp only
  split
  · refine ⟨_, ?_, by simp, rfl⟩
    refine { hx with
      identity := fun _ => hx.identity (by rw [hc]; decide)
      claimant := nofun
      outcome := fun o ho => ?_ }
    have := (hx.outcome o ho).1
    rw [hc] at this
    cases this
  · refine ⟨_, ?_, by simp, rfl⟩
    refine { hx with identity := fun _ => hx.identity (by rw [hc]; decide), claimant := nofun, outcome := ?_ }
    rintro _ ⟨⟩
    exact ⟨rfl, hbay, hs.identity, hs.battery, hs.auxiliary, h.clock.1⟩

theorem noticeClosed (h : Sound k d s) {cause : CloseCause} {b : Nat} : Sound k d (noticeClosed cause b s) := h.notify

/-- A session is closed (R20). -/
theorem closeSession (h : Sound k 0 s) {cause : CloseCause} {b : Nat} (hb : validBay b = true) :
    Sound k 0 (closeSession cause b s) := by
  -- after the claim has ended the session still names its entry, which is not CLAIMED any more
  have h1 : Sound k b (endSessionClaim b s) ∧ ∀ e, ((endSessionClaim b s).session b).planLink = some e →
      ((endSessionClaim b s).entry e).state ≠ .claimed := by
    unfold endSessionClaim
    split
    · next e he =>
      obtain ⟨x, hx, hc, hq⟩ := h.endedEntry he
      rw [hq]
      refine ⟨h.endClaim he hx hc, fun j hj => ?_⟩
      rw [putEntry_at_session, he] at hj
      obtain rfl : e = j := by simpa using hj
      rw [entry_putEntry, if_pos ⟨rfl, validEntry_iff.mp ((h.sessions b).planLink e he)⟩]
      exact hc
    · next he => exact ⟨h.weaken, fun e he' => by rw [he] at he'; cases he'⟩
  have h2 := (h1.1.noticeClosed (cause := cause) (b := b)).withdrawGrant (b := b)
  have hq := (noticeClosed_quiet cause b (endSessionClaim b s)).ripple
  have hw := withdrawGrant_ripple b (Machine.noticeClosed cause b (endSessionClaim b s))
  refine requestPass (h2.replace hb (Session.vacant_inRange (h2.sessions b).serial) (Session.vacant_whole _)
    rfl fun e he => ?_)
  have hsession := (hw.session b).1
  rw [session_putSession_self _ _ _ hb] at hsession
  have hl : ((Machine.withdrawGrant b (Machine.noticeClosed cause b (endSessionClaim b s))).session b).planLink =
      ((Machine.noticeClosed cause b (endSessionClaim b s)).session b).planLink := by rw [hsession]
  have hl2 : ((Machine.noticeClosed cause b (endSessionClaim b s)).session b).planLink =
      ((endSessionClaim b s).session b).planLink := by rw [(hq.session b).1]
  have hentry : (Machine.withdrawGrant b (Machine.noticeClosed cause b (endSessionClaim b s))).entry e =
      (endSessionClaim b s).entry e := by
    unfold State.entry
    rw [hw.plans, putSession_plans, hq.plans]
  rw [hentry]
  exact h1.2 e (by rw [← hl2, ← hl, he])

theorem plugAbsent (h : Sound k 0 s) {b : Nat} (hb : validBay b = true) : Sound k 0 (plugAbsent b s) := by
  unfold Machine.plugAbsent
  split
  · exact h.closeSession hb
  · exact h

end Sound
end Sys2Proof.Machine
end

section
namespace Sys2Proof.Machine

/-! ### Links -/

/-- A link whose training begins is in range (R131). -/
theorem Link.Ranged.train {l : Link} (h : l.Ranged) : l.train.Ranged := by
  have h1 : ({ l with state := .training, probeCount := 0, keep := none, silence := none } : Link).Ranged :=
    { h with probes := Nat.zero_le _, keep := .none, silence := .none }
  exact { h1.hand .probe with probes := Nat.le_add_left 1 9, probe := .some (by decide) }

theorem Link.train_state (l : Link) : l.train.state = .training :=
  Link.hand_state { l with state := .training, probeCount := 0, keep := none, silence := none } .probe

theorem Link.train_timed (l : Link) : l.train.Timed := by
  have hs := l.train_state
  have hk : l.train.keep = none ∧ l.train.silence = none ∧ l.train.probe = some probeMs := by
    unfold Link.train Link.sendProbe Link.hand Link.begin
    dsimp only
    cases l.sending <;> exact ⟨rfl, rfl, rfl⟩
  obtain ⟨h1, h2, h3⟩ := hk
  exact ⟨by simp [hs, h3], by simp [hs, h1], by simp [hs, h2]⟩

theorem Link.Ranged.sendProbe {l : Link} (h : l.Ranged) (hc : l.probeCount < 10) : l.sendProbe.Ranged :=
  { h.hand .probe with
    probes := hc
    probe := .some (by decide) }

/-- What waits to be sent and the state of a link do not bear on its ranges. -/
theorem Link.Ranged.leaveUp {l : Link} (h : l.Ranged) (st : LinkState) : (l.leaveUp st).Ranged :=
    { h with keep := .none }

theorem Link.Ranged.endLostHold {l : Link} (h : l.Ranged) : l.endLostHold.Ranged :=
  { h with lostHold := ⟨.none, rfl, nofun⟩ }

theorem Link.Ranged.unheard {l : Link} (h : l.Ranged) : ({ l with silence := none } : Link).Ranged :=
  { h with silence := .none }

theorem Link.Ranged.heard {l : Link} (h : l.Ranged) : l.heard.Ranged := by
  unfold Link.heard
  split
  · exact { h with silence := .some (Nat.le_refl _) }
  · exact { h with silence := .some (Nat.le_refl _) }
  all_goals exact h

theorem Link.Timed.heard {l : Link} (h : l.Timed) : l.heard.Timed := by
  unfold Link.heard
  split
  · next hs => exact { h with silence := by simp [hs] }
  · next hs => exact { h with silence := by simp [hs] }
  all_goals exact h

/-! ### Yard lines -/

theorem filterTime_le (f : LineFunction) : filterTime f ≤ 20 := by
  unfold filterTime
  split <;> decide

theorem filterFor_range (f : LineFunction) (differs : Bool) : TimerRange 20 (filterFor f differs) := by
  unfold filterFor
  split
  · exact .some (filterTime_le f)
  · exact .none

theorem Line.start_range (x : Line) (alarm : Bool) :
    TimerRange 20 (x.start alarm).filter ∧ TimerRange 500 (x.start alarm).blinkTimer := by
  have hr : TimerRange 20 (if x.settings.function.isInput then filterFor x.settings.function x.pinAsserted
      else none) := by
    split
    · exact filterFor_range _ _
    · exact .none
  unfold Line.start
  generalize (if x.settings.function.isInput then filterFor x.settings.function x.pinAsserted else none) = t at *
  dsimp only
  split
  · exact ⟨hr, .some (Nat.le_refl _)⟩
  · exact ⟨hr, .none⟩

theorem Line.retune_range {x : Line} (hf : TimerRange 20 x.filter) (hb : TimerRange 500 x.blinkTimer)
    (n : LineSettings) (alarm : Bool) :
    TimerRange 20 (x.retune n alarm).filter ∧ TimerRange 500 (x.retune n alarm).blinkTimer := by
  unfold Line.retune
  generalize (if n.function.isInput && (n.invert != x.settings.invert) then !x.level else x.level) = v
  dsimp only
  split
  · split
    · exact ⟨hf, hb⟩
    · exact ⟨hf, .some (Nat.le_refl _)⟩
  · exact ⟨hf, .none⟩

theorem Line.takeAlarm_range {x : Line} (hf : TimerRange 20 x.filter) (hb : TimerRange 500 x.blinkTimer)
    (alarm : Bool) :
    TimerRange 20 (x.takeAlarm alarm).filter ∧ TimerRange 500 (x.takeAlarm alarm).blinkTimer := by
  unfold Line.takeAlarm
  split
  · split
    · exact ⟨hf, .some (Nat.le_refl _)⟩
    · exact ⟨hf, .none⟩
  · exact ⟨hf, hb⟩

theorem Line.takePin_range {x : Line} (hf : TimerRange 20 x.filter) (high : Bool) :
    TimerRange 20 (x.takePin high).filter ∧ (x.takePin high).blinkTimer = x.blinkTimer := by
  unfold Line.takePin
  split
  · exact ⟨hf, rfl⟩
  · dsimp only
    split
    · exact ⟨filterFor_range _ _, rfl⟩
    · exact ⟨hf, rfl⟩

namespace Sound

variable {k d : Nat} {s : State}

theorem linkChanged (h : Sound k d s) {c : Nat} {before : LinkState} {cause : LinkCause} :
    Sound k d (linkChanged c before cause s) := h.requestPass.notify

/-- A link that stood open, or none did, begins to train (R131). -/
theorem enterTraining (h : Sound k d s) (hk : validCab k = true) : Sound 0 d (enterTraining k s) :=
  h.closeLink hk (h.links k).train (Link.train_timed _)

theorem holdCabinet (h : Sound k d s) {r : HoldReason} {c : Nat} : Sound k d (holdCabinet r c s) :=
  .each (fun _ _ h => h.setHold) h

theorem retrainFromUp (h : Sound 0 d s) {c : Nat} (hc : validCab c = true) : Sound 0 d (retrainFromUp c s) :=
  have h1 := (h.sendCab (c := c) (m := .zero)).holdCabinet (r := .link) (c := c)
  linkChanged (enterTraining (bondLeavesUp (h1.openLink ((h1.links c).leaveUp .training))) hc)

theorem isolateLink (h : Sound 0 d s) {c : Nat} (hc : c ≠ 0) : Sound 0 d (isolateLink c s) := by
  have hr := h.links c
  have ht := h.timed c hc
  unfold Machine.isolateLink
  dsimp only
  split
  · next hs =>
    refine linkChanged (bondLeavesUp (h.putLink ((hr.leaveUp .isolated).hand .isolate) fun _ => Link.Timed.hand ?_ _))
    have hp := ht.probe
    have hsil := ht.silence
    simp only [hs] at hp hsil
    exact ⟨by simpa [Link.leaveUp, Link.discardQueued] using hp, by simp [Link.leaveUp],
      by simpa [Link.leaveUp, Link.discardQueued] using hsil⟩
  · exact h
  · next hu hi =>
    have hk : (s.link c).keep = none := by
      have := ht.keep
      cases hk : (s.link c).keep with
      | none => rfl
      | some v => rw [hk] at this; exact absurd (this.mp rfl) hu
    have hk' : ((s.link c).hand .isolate).keep = none := by
      unfold Link.hand Link.begin
      split
      · dsimp only; rw [if_neg hu]; exact hk
      · exact hk
    refine linkChanged (h.putLink ?_ fun _ => ?_)
    · exact { hr.hand .isolate with probe := .none, silence := .some (Nat.le_refl _) }
    · exact ⟨by simp, by simp [hk'], by simp⟩

theorem leaveIsolation (h : Sound 0 d s) {c : Nat} (hc : validCab c = true) : Sound 0 d (leaveIsolation c s) :=
  linkChanged (enterTraining (holdCabinet (holdReported (h.openLink (h.links c).unheard))) hc)

theorem goodFrame (h : Sound k d s) {c : Nat} : Sound k d (goodFrame c s) :=
  h.putLink (h.links c).heard fun hc => (h.timed c hc).heard

/-! ### Faults -/

theorem evaluateAlarm (h : Sound k d s) : Sound k d (evaluateAlarm s) := by
  unfold Machine.evaluateAlarm
  dsimp only
  split
  · exact h
  · refine .each (fun l t h => h.putLine ?_ ?_) (s := { s with faults := { s.faults with alarm := alarmWanted s } })
        { h with }
    · exact (Line.takeAlarm_range (h.lines l).1 (h.lines l).2 _).1
    · exact (Line.takeAlarm_range (h.lines l).1 (h.lines l).2 _).2

theorem isolateCabinet (h : Sound 0 d s) {c : Nat} (hc : c ≠ 0) : Sound 0 d (isolateCabinet c s) := by
  unfold Machine.isolateCabinet
  dsimp only
  split
  · exact h.holdCabinet
  · exact (h.putCabFaults.isolateLink hc).holdCabinet

theorem recordFault (h : Sound k d s) {c : Nat} {first : FirstCode} : Sound k d (recordFault c first s) := by
  unfold Machine.recordFault
  dsimp only
  split
  · exact h
  · exact h.putCabFaults

theorem faultEffect (h : Sound 0 d s) {source : FaultSource} {c : Nat} (hc : c ≠ 0) {first : FirstCode} :
    Sound 0 d (faultEffect source c first s) := by
  unfold Machine.faultEffect
  split
  · split
    · exact h.moduleFault
    · exact h
  · exact h.setHold
  · exact h.holdCabinet
  · exact h.isolateCabinet hc
  · exact h.isolateCabinet hc
  · exact h

theorem faultNotice (h : Sound k d s) {c : Nat} {first : FirstCode} {setFlag : Bool} :
    Sound k d (faultNotice c first setFlag s) := by
  unfold Machine.faultNotice
  dsimp only
  split
  · exact h.notify
  · exact h

theorem takeFault (h : Sound 0 d s) {source : FaultSource} {c : Nat} (hc : c ≠ 0) {code : FaultCode} {x : Subject} :
    Sound 0 d (takeFault source c code x s) := (h.recordFault.faultEffect hc).faultNotice.evaluateAlarm

/-- A minute within the day is recorded (R161, R167). -/
theorem putMinutes (h : Sound k d s) {f : FaultUnit} (ho : ∀ m ∈ f.overdrawMinute, m < 1440)
    (hs : ∀ m ∈ f.stopMinute, m < 1440) : Sound k d { s with faults := f } := { h with faults := ⟨ho, hs⟩ }

theorem overdrawNotice (h : Sound k d s) {setFlag : Bool} : Sound k d (overdrawNotice setFlag s) := by
  unfold Machine.overdrawNotice
  split
  · exact h.notify
  · exact h

theorem takeOverdraw (h : Sound k d s) : Sound k d (takeOverdraw s) := by
  have h1 : Sound k d (if s.faults.overdrawMinute.isNone
      then { s with faults := { s.faults with overdrawMinute := some s.clock.minute } } else s) := by
    split
    · exact h.putMinutes (by rintro _ ⟨⟩; exact h.clock.1) h.faults.2
    · exact h
  exact h1.overdrawNotice.evaluateAlarm

theorem linkFrameFault (h : Sound 0 d s) {c : Nat} (hc : c ≠ 0) : Sound 0 d (linkFrameFault c s) := h.takeFault hc

theorem beginStop (h : Sound k d s) : Sound k d (beginStop s) := by
  unfold Machine.beginStop
  split
  · exact h
  · refine evaluateAlarm (each (fun _ _ h => h.setHold) (shed ?_))
    exact h.putMinutes h.faults.1 (by rintro _ ⟨⟩; exact h.clock.1)

theorem endStop (h : Sound k d s) : Sound k d (endStop s) := by
  unfold Machine.endStop
  refine evaluateAlarm (requestPass
    (examineRaises (each (fun _ _ h => h.serveBonds) (each (fun _ _ h => h.clearHold) ?_))))
  exact h.putMinutes h.faults.1 nofun

theorem holdTest (h : Sound k d s) {c : Nat} : Sound k d (holdTest c s) := by
  refine each (fun b t h => ?_) h
  split
  · exact h.clearHold
  · exact h

theorem clearSite (h : Sound k d s) {classes : Byte} : Sound k d (clearSite classes s) := by
  unfold Machine.clearSite
  split
  · exact h.putMinutes nofun h.faults.2
  · exact h

theorem clearCabinet (h : Sound 0 d s) {c : Nat} (hc : validCab c = true) {classes : Byte} :
    Sound 0 d (clearCabinet c classes s) := by
  unfold Machine.clearCabinet
  dsimp only
  split
  · split
    · exact (h.putCabFaults.putCabFaults.leaveIsolation hc).holdTest
    · exact h.putCabFaults.holdTest
  · split
    · exact h.putCabFaults.putCabFaults.leaveIsolation hc
    · exact h.putCabFaults

/-! ### Yard lines -/

theorem updateStage (h : Sound k d s) : Sound k d (updateStage s) := by
  unfold Machine.updateStage
  dsimp only
  split
  · exact h
  · refine h.putEnv { h.env with stages := ⟨stageOfLines_le s, h.env.stages.2⟩, settling := ?_ }
    dsimp only
    split
    · exact .none
    · exact .some (Nat.le_refl _)

theorem meterChanged (h : Sound k d s) : Sound k d (meterChanged s) := by
  refine recompute (recomputeBuilding (h.putEnv { h.env with window := ⟨Nat.zero_le _, nofun, ?_⟩ }))
  unfold restartWindow
  dsimp only
  split
  · exact .some (Nat.le_refl _)
  · exact .none

theorem countPulse (h : Sound k d s) : Sound k d (countPulse s) :=
  h.putEnv { h.env with window := ⟨Nat.min_le_left .., h.env.window.2⟩ }

theorem handLevel (h : Sound k d s) {l : Nat} : Sound k d (handLevel l s) := by
  unfold Machine.handLevel
  dsimp only
  split
  · split
    · exact h.notify
    · exact h
  · exact h.updateStage
  · exact h.updateStage
  · split
    · exact h.countPulse
    · exact h
  · split
    · exact h.beginStop
    · exact h
  all_goals exact h

theorem handFunction (h : Sound k d s) {f : LineFunction} : Sound k d (handFunction f s) := by
  unfold Machine.handFunction
  split
  · exact h.updateStage
  · exact h.updateStage
  · exact h.meterChanged
  all_goals exact h

theorem applyLine (h : Sound k d s) {l : Nat} {n : LineSettings} : Sound k d (applyLine l n s) := by
  obtain ⟨hf, hb⟩ := h.lines l
  unfold Machine.applyLine
  dsimp only
  split
  · have hr := Line.retune_range hf hb n s.faults.alarm
    split
    · exact h.putLine hr.1 hr.2
    · exact (h.putLine hr.1 hr.2).handLevel
  · have hr := Line.start_range { s.line l with settings := n } s.faults.alarm
    exact handFunction (handFunction (h.putLine hr.1 hr.2))

end Sound
end Sys2Proof.Machine
end

section
/-! What each order's effect keeps of `Sound`. -/

namespace Sys2Proof.Machine

/-! ### The envelope's settings -/

theorem num16_le (w : U16) : num w ≤ 65535 := Nat.le_of_lt_succ w.isLt

/-- The steps of the banks after one of them is written (R55). -/
theorem step_write (e : Envelope) (bank step : Nat) (x : LimitStep) (b k : Nat) :
    ({ e with banks := set1 e.banks bank (set1 (get1 e.banks (Vector.replicate 16 LimitStep.reset) bank) step x) } :
      Envelope).step b k = x ∨
    ({ e with banks := set1 e.banks bank (set1 (get1 e.banks (Vector.replicate 16 LimitStep.reset) bank) step x) } :
      Envelope).step b k = e.step b k := by
  unfold Envelope.step
  dsimp only
  rw [get1_set1]
  split
  · next h =>
    rw [get1_set1]
    split
    · exact .inl rfl
    · exact .inr (by rw [h.1])
  · exact .inr rfl

theorem placeWalker_env {e : Envelope} (h : e.InRange) :
    ({ e with walker := if e.activeBank = 0 then 0 else 1 } : Envelope).InRange :=
  { h with walker := by dsimp only; split <;> decide }

theorem clampPower_range (p : Nat) : PowerRange (clampPower p) := by
  unfold clampPower PowerRange
  split <;> omega

/-- The plan of an accepted order is in range (R37). -/
theorem planOf_inRange {f : PlanOrder} (h : badTimes f.departure f.target = false) : (planOf f).InRange := by
  simp only [badTimes, Bool.or_eq_false_iff, decide_eq_false_iff_not] at h
  exact ⟨Nat.lt_of_not_le h.1, Nat.le_of_not_lt h.2, Nat.min_le_left .., clampPower_range _⟩

theorem defaultPlanOf_inRange {f : DefaultOrder} (h : badTimes f.departure f.target = false) :
    (defaultPlanOf f).InRange := by
  simp only [badTimes, Bool.or_eq_false_iff, decide_eq_false_iff_not] at h
  exact ⟨Nat.lt_of_not_le h.1, Nat.le_of_not_lt h.2, Nat.min_le_left .., clampPower_range _⟩

/-- What R37 accepts: an EXACT kind has an identity, and the times are in range. -/
theorem acceptedKind_some {f : PlanOrder} {k : PlanKind} (h : acceptedKind f = some k) :
    (k = .exact → f.identity ≠ 0) ∧ badTimes f.departure f.target = false := by
  unfold acceptedKind at h
  split at h
  · cases h
  · next j hj =>
    split at h
    · cases h
    · next hb =>
      cases h
      rw [not_or] at hb
      exact ⟨fun e he => hb.1 ⟨e, he⟩, by simpa using hb.2⟩

/-- The entry that an accepted write leaves OPEN is in range (R38). -/
theorem openEntryOf_inRange {f : PlanOrder} {k : PlanKind} (h : acceptedKind f = some k) : (openEntryOf f k).InRange :=
  ⟨fun _ hk => (acceptedKind_some h).1 hk, planOf_inRange (acceptedKind_some h).2, nofun, nofun⟩

namespace Sound

variable {s : State} {k d : Nat}

theorem placeWalker (h : Sound k d s) : Sound k d (placeWalker s) := h.putEnv (placeWalker_env h.env)

theorem applyClock (h : Sound k d s) {m : Nat} (hm : m < 1440) : Sound k d (applyClock m s) := by
  have h1 : Sound k d { s with clock := { minute := m, setMarker := true, prescaler := 0, fraction := 0 } } :=
    { h with clock := ⟨hm, Nat.zero_le _, Nat.zero_lt_succ _⟩ }
  unfold Machine.applyClock
  dsimp only
  split
  · exact h1.reclockSessions.placeWalker.recompute
  · exact h1.reclockSessions.placeWalker.recompute.requestPass

theorem applySiteCeiling (h : Sound k d s) {v : Nat} (h1 : v ≠ 0) (h2 : v ≤ 65535) :
    Sound k d (applySiteCeiling v s) := by
  refine requestPass (recompute (h.putEnv ?_))
  refine { h.env with siteCeiling := ?_ }
  rintro _ ⟨⟩
  omega

theorem applyCabinetCeiling (h : Sound k d s) {c v : Nat} (hv : v ≤ 1200) : Sound k d (applyCabinetCeiling c v s) := by
  refine requestPass (sendCeiling (h.putEnv ?_))
  refine { h.env with ceilings := fun j => ?_ }
  dsimp only
  rw [get1_set1]
  split
  · exact hv
  · exact h.env.ceilings j

theorem writeLimitStep (h : Sound k d s) {b i : Nat} {x : LimitStep}
    (hx : x.start < 1440 ∧ x.limit ≤ 65535 ∧ ∀ n ∈ x.nextStep, 1 ≤ n ∧ n ≤ 16) :
      Sound k d (writeLimitStep b i x s) := by
  refine h.putEnv { h.env with banks := fun b' i' => ?_ }
  rcases step_write s.env b i x b' i' with e | e <;> rw [e]
  · exact hx
  · exact h.env.banks b' i'

/-! ### Plans -/

/-- A claimant's session takes the plan that its entry takes (R17, R40). -/
theorem amendSession (h : Sound k 0 s) {b e : Nat} {x : PlanEntry} (he : validEntry e = true)
    (hb : (s.session b).planLink = some e) (hx : x.InRange) (hc : x.state = .claimed) (hm : x.claimant = some b) :
    Sound k 0 (amendSession b x.plan (Machine.putEntry e x s)) := by
  have hb0 : b ≠ 0 := by rintro rfl; cases hb
  have hv : validBay b = true := (hx.claimant b (by rw [hm]; rfl)).1
  obtain ⟨hr, hw⟩ := Session.amended_sound (m := s.clock.minute) (h.sessions b) (h.whole b) hx.plan (by rw [hb]; nofun)
  obtain ⟨hl, hp⟩ := Session.amended_fields (s.session b) x.plan s.clock.minute
  have h1 := h.amend he hb0 hb hx hc hm hr hw (hl.trans hb) hp
  unfold Machine.amendSession
  dsimp only
  have hs := session_putSession_self b ((s.session b).amended x.plan s.clock.minute) (Machine.putEntry e x s) hv
  split
  · next hst =>
    split
    · exact h1.requestPass.addReady hv (by rw [requestPass_session]; exact (congrArg Session.state hs).trans hst.1)
    · exact h1.addReady hv ((congrArg Session.state hs).trans hst.1)
  · split
    · exact h1.requestPass
    · exact h1

/-- A write to an entry (R38, R40). -/
theorem writePlan (h : Sound k 0 s) {e : Nat} (he : validEntry e = true) (f : PlanOrder) :
    Sound k 0 (writePlan e f s).1 := by
  unfold Machine.writePlan
  split
  · exact h
  · next j hj =>
    dsimp only
    split
    · next hs => exact h.putEntry (openEntryOf_inRange hj) (by rw [hs]; decide) (by simp [openEntryOf])
    · next hs => exact h.putEntry (openEntryOf_inRange hj) (by rw [hs]; decide) (by simp [openEntryOf])
    · next hs => exact h.putEntry (openEntryOf_inRange hj) (by rw [hs]; decide) (by simp [openEntryOf])
    · next hs =>
      split
      · obtain ⟨b, hm, hb⟩ := h.claimed e hs
        have hx := h.entries e
        have hg : (s.entry e).claimant.getD 0 = b := by rw [hm]; rfl
        rw [hg]
        exact amendSession (x := { s.entry e with plan := planOf f, reuse := f.reuse ≠ 0 }) h he hb
          { hx with plan := planOf_inRange (acceptedKind_some hj).2 } hs hm
      · exact h

theorem putPlans (h : Sound k d s) {p : PlanTable} (he : p.entries = s.plans.entries)
    (hp : p.defaultPlan.InRange ∧ 1 ≤ p.cursor ∧ p.cursor ≤ 97) : Sound k d { s with plans := p } := by
  have hq : ∀ e, ({ s with plans := p } : State).entry e = s.entry e := fun e => by unfold State.entry; rw [he]
  exact { h with
    entries := fun e => by rw [hq]; exact h.entries e
    claimed := fun e => by rw [hq]; exact h.claimed e
    linked := fun b e => by rw [hq]; exact h.linked b e
    plans := hp }

theorem setCursor (h : Sound k d s) {c : Nat} (h1 : 1 ≤ c) (h2 : c ≤ 97) : Sound k d (setCursor c s) :=
  h.putPlans rfl ⟨h.plans.1, h1, h2⟩

theorem releaseEntry (h : Sound k 0 s) {e : Nat} (he : validEntry e = true) : Sound k 0 (releaseEntry e s) := by
  unfold Machine.releaseEntry
  dsimp only
  split
  · next hs =>
    obtain ⟨b, hm, hb⟩ := h.claimed e hs
    have hv := ((h.entries e).claimant b (by rw [hm]; rfl)).1
    have hg : (s.entry e).claimant.getD 0 = b := by rw [hm]; rfl
    have hw := h.whole b
    rw [hg]
    refine h.release (y := { s.session b with planLink := none }) hb hv PlanEntry.free_inRange (by decide) he
      { h.sessions b with planLink := nofun } ?_ rfl
    exact { hw with
      vacant := fun hv => by rw [hw.vacant hv] at hb; cases hb
      identifying := fun hi => ⟨(hw.identifying hi).1, rfl, (hw.identifying hi).2.2⟩
      anonymous := fun _ => rfl }
  · next hs => exact h.putEntry PlanEntry.free_inRange hs (by decide)

/-! ### Links and faults -/

theorem retrainLink (h : Sound 0 d s) {c : Nat} (hc : validCab c = true) : Sound 0 d (retrainLink c s) := by
  have train : Sound 0 d (Machine.enterTraining c s) :=
    h.putLink (h.links c).train fun _ => Link.train_timed _
  unfold Machine.retrainLink
  split
  · exact h.retrainFromUp hc
  · exact train
  · exact train.linkChanged
  · exact train.linkChanged
  · exact h

/-! ### Each order (Table 10-4) -/

/-- A flag of the order link, its held order or its assembler changes. -/
theorem putOrderKept (h : Sound k d s) {o : OrderLink} (hq : o.queue = s.order.queue) :
    Sound k d { s with order := o } := h.putOrder (by rw [hq]; exact h.queue)

theorem effectSetClock (h : Sound k d s) (m : U16) : Sound k d (effectSetClock m s).1 := by
  unfold Machine.effectSetClock
  split
  · exact h
  · exact h.applyClock (by omega)

theorem effectSetSiteCeiling (h : Sound k d s) (v : U16) : Sound k d (effectSetSiteCeiling v s).1 := by
  unfold Machine.effectSetSiteCeiling
  split
  · exact h
  · split
    · exact h
    · next hv => exact h.applySiteCeiling hv (num16_le v)

theorem effectSetCabinetCeiling (h : Sound k d s) (c : Byte) (v : U16) :
    Sound k d (effectSetCabinetCeiling c v s).1 := by
  unfold Machine.effectSetCabinetCeiling
  split
  · exact h
  · split
    · exact h
    · exact h.applyCabinetCeiling (Nat.min_le_left ..)

theorem effectPutLimitStep (h : Sound k d s) (b i : Byte) (a l : U16) (n : Byte) :
    Sound k d (effectPutLimitStep b i a l n s).1 := by
  unfold Machine.effectPutLimitStep
  split
  · exact h
  · next hr =>
    split
    · exact h
    · simp only [Bool.or_eq_true, decide_eq_true_eq, not_or] at hr
      obtain ⟨⟨-, ha⟩, hn⟩ := hr
      refine h.writeLimitStep ⟨by dsimp only; omega, num16_le l, fun j hj => ?_⟩
      unfold nextOf at hj
      split at hj
      · cases hj
      · cases hj; omega

theorem effectSelectLimitBank (h : Sound k d s) (b : Byte) : Sound k d (effectSelectLimitBank b s).1 := by
  unfold Machine.effectSelectLimitBank
  split
  · exact h
  · next hb =>
    refine recompute (placeWalker (h.putEnv ?_))
    exact { h.env with bank := Nat.le_of_not_lt hb }

theorem effectSetCurtailStages (h : Sound k d s) (a b c : U16) : Sound k d (effectSetCurtailStages a b c s).1 := by
  refine recompute (h.putEnv ?_)
  refine { h.env with stageLimits := ?_ }
  refine get1_forall _ _ (fun _ (x : Nat) => x ≤ 65535) (fun _ _ => Nat.le_refl _) fun i hi => ?_
  have hi' : i = 1 ∨ i = 2 ∨ i = 3 := by
    rw [List.mem_range'_1] at hi
    omega
  rcases hi' with rfl | rfl | rfl
  · exact num16_le a
  · exact num16_le b
  · exact num16_le c

theorem effectSetMeter (h : Sound k d s) (w : U16) : Sound k d (effectSetMeter w s).1 := by
  refine recompute (recomputeBuilding (h.putEnv ?_))
  refine { h.env with whPerPulse := ?_ }
  unfold clampMeter
  dsimp only
  omega

theorem effectSetMargin (h : Sound k d s) (v : U16) : Sound k d (effectSetMargin v s).1 := by
  refine recompute (h.putEnv ?_)
  exact { h.env with margin := Nat.min_le_left .. }

theorem effectSetReserve (h : Sound k d s) (v : U16) : Sound k d (effectSetReserve v s).1 := by
  refine recompute (recomputeBuilding (h.putEnv ?_))
  exact { h.env with reserve := num16_le v }

theorem effectPutPlan (h : Sound k 0 s) (e : Byte) (f : PlanOrder) : Sound k 0 (effectPutPlan e f s).1 := by
  unfold Machine.effectPutPlan
  split
  · exact h
  · next he =>
    have h1 := h.writePlan (e := num e) (by simpa using he) f
    dsimp only
    split <;> exact h1

theorem effectSetPlanCursor (h : Sound k d s) (e : Byte) : Sound k d (effectSetPlanCursor e s).1 := by
  unfold Machine.effectSetPlanCursor
  split
  · next he =>
    have := validEntry_iff.mp he
    exact h.setCursor this.1 (by omega)
  · exact h

theorem effectPutPlanNext (h : Sound k 0 s) (f : PlanOrder) : Sound k 0 (effectPutPlanNext f s).1 := by
  unfold Machine.effectPutPlanNext
  dsimp only
  split
  · exact h
  · next hc =>
    have h1 := h.writePlan (validEntry_iff.mpr ⟨h.plans.2.1, Nat.le_of_not_lt hc⟩) f
    split
    · exact h1.setCursor (by omega) (by omega)
    · exact h1

theorem effectReleasePlan (h : Sound k 0 s) (e : Byte) : Sound k 0 (effectReleasePlan e s).1 := by
  unfold Machine.effectReleasePlan
  split
  · next he => exact h.releaseEntry he
  · exact h

theorem effectSetGroupMask (h : Sound k d s) (g : Byte) (m : U24) : Sound k d (effectSetGroupMask g m s).1 := by
  unfold Machine.effectSetGroupMask
  split
  · exact h.putPlans rfl h.plans
  · exact h

theorem effectSetDefaultPlan (h : Sound k d s) (f : DefaultOrder) : Sound k d (effectSetDefaultPlan f s).1 := by
  unfold Machine.effectSetDefaultPlan
  split
  · exact h
  · next hb => exact h.putPlans rfl ⟨defaultPlanOf_inRange (by simpa using hb), h.plans.2⟩

theorem effectSuspendBay (h : Sound k d s) (b : Byte) : Sound k d (effectSuspendBay b s).1 := by
  unfold Machine.effectSuspendBay
  split
  · exact h
  · split
    · exact h
    · exact h.setHold

theorem effectResumeBay (h : Sound k d s) (b : Byte) : Sound k d (effectResumeBay b s).1 := by
  unfold Machine.effectResumeBay
  split
  · exact h
  · split
    · exact h
    · exact h.clearHold

theorem effectReallocate (h : Sound k d s) : Sound k d (effectReallocate s).1 := by
  unfold Machine.effectReallocate
  split
  · exact h.requestPass
  · exact h

theorem effectSetPeriod (h : Sound k d s) (p : U16) : Sound k d (effectSetPeriod p s).1 := by
  refine startPeriod (h.putAlloc ?_)
  refine { h.alloc with period := ?_ }
  unfold clampPeriod
  dsimp only
  omega

theorem effectReadReady (h : Sound k d s) : Sound k d (effectReadReady s).1 := by
  unfold Machine.effectReadReady
  split
  · exact h
  · next r rest hr =>
    have hlen := h.ready.1
    have hall := h.ready.2
    rw [hr] at hlen hall
    exact { h with ready := ⟨Nat.le_of_succ_le hlen, fun x hx => hall x (List.mem_cons_of_mem r hx)⟩ }

theorem effectRetrain (h : Sound 0 d s) (c : Byte) : Sound 0 d (effectRetrain c s).1 := by
  unfold Machine.effectRetrain
  split
  · exact h
  · next hc =>
    split
    · exact h
    · exact h.retrainLink (by simpa using hc)

theorem effectClearFaults (h : Sound 0 d s) (x c : Byte) : Sound 0 d (effectClearFaults x c s).1 := by
  unfold Machine.effectClearFaults
  split
  · exact h.clearSite.evaluateAlarm
  · split
    · next hc => exact (h.clearCabinet hc).evaluateAlarm
    · exact h

theorem effectSetReporting (h : Sound k d s) (e : ReportingOrder) : Sound k d (effectSetReporting e s).1 := by
  unfold Machine.effectSetReporting applyReporting
  exact evaluateAlarm (h.putMinutes h.faults.1 h.faults.2)

theorem effectResumeSite (h : Sound k d s) : Sound k d (effectResumeSite s).1 := by
  unfold Machine.effectResumeSite
  split
  · exact h
  · dsimp only
    exact h.endStop

theorem effectSetLine (h : Sound k d s) (l : Byte) (o : LineOrder) : Sound k d (effectSetLine l o s).1 := by
  unfold Machine.effectSetLine
  split
  · exact h
  · split
    · exact h
    · split
      · exact h
      · exact h.applyLine

/-- The effect of every order at its owner keeps what holds between steps. -/
theorem orderEffect (h : Sound 0 0 s) {i : Instr} {f : State → State × List Byte} (hi : orderEffect i = some f) :
    Sound 0 0 (f s).1 := by
  cases i <;> cases hi
  case setClock => exact h.effectSetClock _
  case setSiteCeiling => exact h.effectSetSiteCeiling _
  case setCabinetCeiling => exact h.effectSetCabinetCeiling _ _
  case putLimitStep => exact h.effectPutLimitStep _ _ _ _ _
  case selectLimitBank => exact h.effectSelectLimitBank _
  case setCurtailStages => exact h.effectSetCurtailStages _ _ _
  case setMeter => exact h.effectSetMeter _
  case setMargin => exact h.effectSetMargin _
  case setReserve => exact h.effectSetReserve _
  case readEnvelope => exact h
  case putPlan => exact h.effectPutPlan _ _
  case setPlanCursor => exact h.effectSetPlanCursor _
  case putPlanNext => exact h.effectPutPlanNext _
  case releasePlan => exact h.effectReleasePlan _
  case readPlan => unfold effectReadPlan; split <;> exact h
  case setGroupMask => exact h.effectSetGroupMask _ _
  case setDefaultPlan => exact h.effectSetDefaultPlan _
  case readSession => unfold effectReadSession; split <;> exact h
  case suspendBay => exact h.effectSuspendBay _
  case resumeBay => exact h.effectResumeBay _
  case reallocate => exact h.effectReallocate
  case setPeriod => exact h.effectSetPeriod _
  case readReady => exact h.effectReadReady
  case clearReadyOverflow => exact { h with }
  case readCabinet => unfold effectReadCabinet; split <;> exact h
  case retrain => exact h.effectRetrain _
  case readFaults => exact h
  case clearFaults => exact h.effectClearFaults _ _
  case setReporting => exact h.effectSetReporting _
  case resumeSite => exact h.effectResumeSite
  case setLine => exact h.effectSetLine _ _
  case readLines => exact h
  case setNotices => exact h.putOrderKept rfl
  case readStatus => exact h.putOrderKept rfl
  case restart => exact h.putOrderKept rfl

end Sound
end Sys2Proof.Machine
end

section
/-! What the messages from a cabinet, the timers and the passing of time keep of `Sound`. -/

namespace Sys2Proof.Machine

theorem installedOf_listed (ms : List Byte) :
    (installedOf ms).length ≤ 4 ∧ (installedOf ms).Nodup ∧ ∀ m ∈ installedOf ms, validModule m = true :=
  ⟨List.length_filter_le .., List.Nodup.filter _ (by decide), fun _ hm => mem_allModules.mp (List.mem_of_mem_filter hm)⟩

/-- A link that a descriptor brings up is in range, with the timers of UP (R132). -/
theorem Link.trained_sound {l : Link} (h : l.Ranged) (ms : List Byte) :
    (l.trained (installedOf ms)).Ranged ∧ (l.trained (installedOf ms)).Timed := by
  refine ⟨{ h with
    probe := .none, keep := .some (Nat.le_refl _), silence := .some (Nat.le_refl _), installed := installedOf_listed ms
    counts := fun p => ?_ }, by simp [Link.trained, Link.eachBay], by simp [Link.trained, Link.eachBay],
    by simp [Link.trained, Link.eachBay]⟩
  refine get1_tabulate_forall (p := fun x : LinkBay => x.lastBattery < 16777216 ∧ x.lastAuxiliary < 16777216) ?_
    (fun p => ?_) p
  · exact ⟨by decide, by decide⟩
  · exact h.counts p

/-- A link whose training has found no cabinet probes on (R131). -/
theorem Link.Ranged.probeAbsent {l : Link} (h : l.Ranged) (st : LinkState) :
    ({ l with state := st, probe := some absentProbeMs } : Link).Ranged := { h with probe := .some (Nat.le_refl _) }

theorem Link.Ranged.unlost {l : Link} (h : l.Ranged) : ({ l.endLostHold with adopted := true } : Link).Ranged :=
  { h.endLostHold with }

namespace Sound

variable {s : State} {k d : Nat}

/-! ### STATUS (R137, R138) -/

theorem handIdentity (h : Sound k d s) {b : Nat} (hb : validBay b = true) {x : BayBlock} :
    Sound k d (handIdentity b x s) := by
  unfold Machine.handIdentity
  split
  · exact h
  · exact h.takeIdentity hb

theorem adoptBay (h : Sound k 0 s) {b : Nat} (hb : validBay b = true) {x : BayBlock} : Sound k 0 (adoptBay b x s) := by
  have rebind : ∀ st : State, Sound k 0 st → Sound k 0 (if ((s.session b).identity.getD 0 = x.identity)
      then Machine.clearHold .link b st
      else Machine.handIdentity b x (Machine.plugPresent b (Machine.closeSession .reconnectMismatch b st))) := by
    intro st h
    split
    · exact h.clearHold
    · exact ((h.closeSession hb).plugPresent).handIdentity hb
  unfold Machine.adoptBay
  dsimp only
  split
  · split
    · exact h.plugPresent.handIdentity hb
    · exact h.clearHold.handIdentity hb
    all_goals exact rebind s h
  · split
    · exact h.closeSession hb
    · exact h

theorem takeBayFaults (h : Sound 0 d s) {b : Nat} (hb : validBay b = true) {x : BayBlock} :
    Sound 0 d (takeBayFaults b x s) := by
  have hc : cabOf b ≠ 0 := by have := validCab_iff.mp (cabOf_valid hb); omega
  have h1 : Sound 0 d (if blockInsulation x && !(s.linkBay b).insulation then
      Machine.takeFault .block (cabOf b) .bayInsulation ⟨.bay, b⟩ s else s) := by
    split
    · exact h.takeFault hc
    · exact h
  unfold Machine.takeBayFaults
  dsimp only
  generalize (if blockInsulation x && !(s.linkBay b).insulation then
      Machine.takeFault .block (cabOf b) .bayInsulation ⟨.bay, b⟩ s else s) = u at *
  split
  · exact (h1.takeFault hc).putLinkBay (linkBay_counts (h1.takeFault hc) b)
  · exact h1.putLinkBay (h1.linkBay_counts b)

theorem takeEnergy (h : Sound k d s) {b : Nat} (hb : validBay b = true) {x : BayBlock} : Sound k d (takeEnergy b x s) :=
  ((h.countEnergy hb).updateAcceptance).putLinkBay ⟨x.battery.isLt, x.auxiliary.isLt⟩

theorem takePresence (h : Sound k 0 s) {b : Nat} (hb : validBay b = true) {x : BayBlock} :
    Sound k 0 (takePresence b x s) := by
  have h1 : Sound k 0 (Machine.putLinkBay b { s.linkBay b with present := blockPresent x, identitySeen := x.identity }
      s) :=
    h.putLinkBay (h.linkBay_counts b)
  unfold Machine.takePresence
  dsimp only
  split
  · exact h1
  · split
    · exact h1.plugPresent
    · exact h1.plugAbsent hb

theorem evaluateOverdraw (h : Sound k d s) : Sound k d (evaluateOverdraw s) := by
  unfold Machine.evaluateOverdraw
  split
  · exact h
  · split
    · refine h.putEnv { h.env with overdraw := ?_ }
      dsimp only
      split
      · exact h.env.overdraw
      · exact .some (Nat.le_refl _)
    · exact h.putEnv { h.env with overdraw := .none }

theorem takePower (h : Sound k d s) {c : Nat} {m : StatusMsg} : Sound k d (takePower c m s) :=
  (h.takeReported fun _ => num16_le _).evaluateOverdraw

theorem serveStatus (h : Sound 0 0 s) {c : Nat} (hc : validCab c = true) {m : StatusMsg} :
    Sound 0 0 (serveStatus c m s) := by
  refine takePower (forEach_keeps (fun b hb t h => ?_) h)
  have hv := ((mem_baysOf hc).mp hb).1
  exact ((h.takePresence hv).takeBayFaults hv).takeEnergy hv

theorem markAdopted (h : Sound k d s) {c : Nat} : Sound k d (markAdopted c s) := by
  have h1 : Sound k d (Machine.putLink c { (s.link c).endLostHold with adopted := true } s) :=
    h.putLink (h.links c).unlost fun hc => { h.timed c hc with }
  unfold Machine.markAdopted
  dsimp only
  split
  · exact h1.examineRaises
  · exact h1

theorem storeSeen (h : Sound k d s) {b : Nat} {x : BayBlock} : Sound k d (storeSeen b x s) :=
  h.putLinkBay (x := { s.linkBay b with present := blockPresent x, identitySeen := x.identity }) (h.linkBay_counts b)

theorem adoptStatus (h : Sound 0 0 s) {c : Nat} (hc : validCab c = true) {m : StatusMsg} :
    Sound 0 0 (adoptStatus c m s) := by
  have hv : ∀ b ∈ baysOf c, validBay b = true := fun b hb => ((mem_baysOf hc).mp hb).1
  unfold Machine.adoptStatus
  refine takePower ?_
  refine forEach_keeps (P := Sound 0 0) (fun b hb t h => h.takeEnergy (hv b hb)) ?_
  refine forEach_keeps (P := Sound 0 0) (fun b hb t h => h.storeSeen.takeBayFaults (hv b hb)) ?_
  exact forEach_keeps (P := Sound 0 0) (fun b hb t h => h.adoptBay (hv b hb)) (h.markAdopted.adoptModules hc)

theorem actStatus (h : Sound 0 0 s) {c : Nat} (hc : validCab c = true) {m : StatusMsg} :
    Sound 0 0 (actStatus c m s) := by
  unfold Machine.actStatus
  dsimp only
  split
  · split
    · exact h.serveStatus hc
    · exact h.adoptStatus hc
  · exact h.serveStatus hc
  all_goals exact h

/-! ### The other messages -/

/-- A message is acted on after a good frame, or is a frame error (R135). -/
theorem takeChecked (h : Sound 0 0 s) {c : Nat} (hc : validCab c = true) {good : Bool} {act : State → State}
    (ha : good = true → ∀ t, Sound 0 0 t → Sound 0 0 (act t)) : Sound 0 0 (takeChecked c good act s) := by
  unfold Machine.takeChecked
  split
  · next hg => exact ha hg _ h.goodFrame
  · exact h.linkFrameFault (by have := validCab_iff.mp hc; omega)

theorem actDescriptor (h : Sound k d s) {c : Nat} {ms : List Byte} : Sound k d (actDescriptor c ms s) := by
  have up : Sound k d (bringUp c (installedOf ms) s) := by
    obtain ⟨hr, ht⟩ := Link.trained_sound (h.links c) ms
    exact linkChanged (bondDescriptor (h.putLink hr fun _ => ht))
  unfold Machine.actDescriptor
  split
  · exact up
  · exact up
  all_goals exact h

theorem actPlug (h : Sound k 0 s) {c : Nat} (hc : validCab c = true) {p x : Byte}
    (hp : validPosition (num p) = true) : Sound k 0 (actPlug c p x s) := by
  have hb := validBay_bayAt hc hp
  unfold Machine.actPlug
  split
  · have h1 : Sound k 0 (Machine.putLinkBay (bayAt c (num p))
        { s.linkBay (bayAt c (num p)) with present := x ≠ 0 } s) := h.putLinkBay (h.linkBay_counts _)
    dsimp only
    split
    · exact h1.plugPresent
    · exact h1.plugAbsent hb
  · exact h

theorem actIdentity (h : Sound k d s) {c : Nat} (hc : validCab c = true) {p : Byte} {v : U24} {a : U16}
    (hp : validPosition (num p) = true) : Sound k d (actIdentity c p v a s) := by
  unfold Machine.actIdentity
  split
  · exact h.takeIdentity (validBay_bayAt hc hp)
  · exact h

theorem actModuleReport (h : Sound 0 d s) {c : Nat} (hc : validCab c = true) {m r : Byte} :
    Sound 0 d (actModuleReport c m r s) := by
  unfold Machine.actModuleReport
  dsimp only
  split
  · split
    · exact h.moduleOpened
    · exact h.moduleClosed
    · exact h.moduleFault.takeFault (by have := validCab_iff.mp hc; omega)
  · exact h

theorem actFault (h : Sound 0 d s) {c : Nat} (hc : validCab c = true) {code kind number : Byte} :
    Sound 0 d (actFault c code kind number s) := by
  unfold Machine.actFault
  dsimp only
  split
  · split
    · exact h.takeFault (by have := validCab_iff.mp hc; omega)
    · exact h
  · exact h

/-- What a message from a numbered cabinet does. -/
theorem messageEffect (h : Sound 0 0 s) {i : Instr} {f : State → State} (hi : messageEffect i = some f)
    {c : Nat} (hc : validCab c = true) (hm : ∀ x, encodeMessage i = some x → x.1 = c) : Sound 0 0 (f s) := by
  cases i <;> cases hi
  case descriptor c' ms =>
    obtain rfl : c' = c := hm _ rfl
    exact h.takeChecked hc fun _ _ h => h.actDescriptor
  case status c' m =>
    obtain rfl : c' = c := hm _ rfl
    exact h.takeChecked hc fun _ _ h => h.actStatus hc
  case plug c' p x =>
    obtain rfl : c' = c := hm _ rfl
    refine h.takeChecked hc fun hv _ h => h.actPlug hc ?_
    unfold validPlug at hv
    exact (Bool.and_eq_true _ _ ▸ hv).1
  case identity c' p v a =>
    obtain rfl : c' = c := hm _ rfl
    exact h.takeChecked hc fun hv _ h => h.actIdentity hc hv
  case moduleReport c' m r =>
    obtain rfl : c' = c := hm _ rfl
    exact h.takeChecked hc fun _ _ h => h.actModuleReport hc
  case faultMessage c' k n x y =>
    obtain rfl : c' = c := hm _ rfl
    exact h.takeChecked hc fun _ _ h => h.actFault hc

/-! ### Frames -/

theorem setCabAssembler (h : Sound k d s) {c : Nat} {a : Assembler} : Sound k d (setCabAssembler c a s) :=
  h.putLink { h.links c with } fun hc => { h.timed c hc with }

theorem dropFrame (h : Sound 0 d s) {c : Nat} (hc : validCab c = true) : Sound 0 d (dropFrame c s) :=
  h.setCabAssembler.linkFrameFault (by have := validCab_iff.mp hc; omega)

end Sound

/-- A message that a frame spells comes from the cabinet of the frame's link. -/
theorem messageOf_cab {c : Nat} {kind : Byte} {body : List Byte} {i : Instr} (h : messageOf c kind body = some i) :
    ∀ x, encodeMessage i = some x → x.1 = c := by
  unfold messageOf at h
  split at h
  · split at h
    · cases h; rintro _ ⟨⟩; rfl
    · cases h
  · obtain ⟨m, -, rfl⟩ := Option.map_eq_some_iff.mp h
    rintro _ ⟨⟩; rfl
  all_goals first | (cases h; rintro _ ⟨⟩; rfl) | cases h

namespace Sound

variable {s : State} {k d : Nat}

theorem receiveCabinetByte (h : Sound 0 0 s) {c : Nat} (hc : validCab c = true) {b : Byte} :
    Sound 0 0 (receiveCabinetByte c b s) := by
  have hc0 : c ≠ 0 := by have := validCab_iff.mp hc; omega
  unfold Machine.receiveCabinetByte
  split
  · exact h.setCabAssembler
  · exact h.dropFrame hc
  · unfold takeCabinetFrame
    split
    · exact h.setCabAssembler.linkFrameFault hc0
    · split
      · next kind body f hf =>
        obtain ⟨i, hi, hfi⟩ := Option.bind_eq_some_iff.mp hf
        exact h.setCabAssembler.messageEffect hfi hc (messageOf_cab hi)
      · exact h.setCabAssembler.linkFrameFault hc0

/-- A completed order is held, discarded, or carried out and answered (R180, R182). -/
theorem takeFrame (h : Sound 0 0 s) {f : OrderFrame} {kind : Byte} {e : State → State × List Byte}
    (he : Sound 0 0 (e s).1) : Sound 0 0 (takeFrame f kind e s) := by
  unfold Machine.takeFrame
  split
  · exact he.putOrder (OrderLink.placeReply_queue he.queue _ _ _)
  · split
    · exact h.putOrderKept rfl
    · exact h

theorem takeCompleted (h : Sound 0 0 s) {f : OrderFrame} : Sound 0 0 (takeCompleted f s) := by
  unfold Machine.takeCompleted
  split
  · exact h.takeFrame h
  · exact h.takeFrame h
  · split
    · next he => exact h.takeFrame (h.orderEffect he)
    · exact h

theorem receiveOrderByte (h : Sound 0 0 s) {b : Byte} : Sound 0 0 (receiveOrderByte b s) := by
  have ha : ∀ a, Sound 0 0 (setAssembler a s) := fun a => h.putOrderKept rfl
  unfold Machine.receiveOrderByte
  split
  · exact ha _
  · exact ha _
  · split
    · exact (ha _).takeCompleted
    · exact ha _

theorem orderFrameSent (h : Sound k d s) : Sound k d { s with order := s.order.frameSent } := by
  refine h.putOrder ?_
  unfold OrderLink.frameSent
  split
  · exact h.queue
  · exact Nat.le_trans (OrderLink.startNext_queue _) h.queue

theorem cabinetFrameSent (h : Sound k d s) {c : Nat} : Sound k d (Machine.putLink c (s.link c).frameSent s) := by
  have hr := h.links c
  have ranged : (s.link c).frameSent.Ranged := by
    unfold Link.frameSent Link.begin
    split
    · exact hr
    · exact { hr with }
    · refine { hr with keep := ?_ }
      dsimp only
      split
      · exact .some (Nat.le_refl _)
      · exact hr.keep
  refine h.putLink ranged fun hc => ?_
  have ht := h.timed c hc
  unfold Link.frameSent Link.begin
  split
  · exact ht
  · exact { ht with }
  · refine { ht with keep := ?_ }
    dsimp only
    split
    · next hu => simp [hu]
    · exact ht.keep

/-! ### Timers -/

theorem expireRamp (h : Sound 0 d s) {b : Nat} (hb : validBay b = true) : Sound 0 d (expireRamp b s) := by
  unfold Machine.expireRamp
  split
  · exact (h.putPower ((h.bays b).time .none)).takeFault (by have := validCab_iff.mp (cabOf_valid hb); omega)
  · exact h

theorem expireContactor (h : Sound 0 d s) {c m : Nat} (hc : validCab c = true) : Sound 0 d (expireContactor c m s) := by
  unfold Machine.expireContactor
  split
  · exact ((h.takeFault (by have := validCab_iff.mp hc; omega)).putModule .none).requestPass
  · exact h

theorem expireProbe (h : Sound 0 d s) {c : Nat} (hc : validCab c = true) : Sound 0 d (expireProbe c s) := by
  have hr := h.links c
  have ht := h.timed c (by have := validCab_iff.mp hc; omega)
  unfold Machine.expireProbe
  dsimp only
  split
  · split
    · next hp hs =>
      have hk : ((s.link c).hand .probe).Timed := ht.hand .probe
      split
      · next hc =>
        refine h.putLink (hr.sendProbe hc) fun _ => { hk with probe := ?_ }
        simp [Link.sendProbe, Link.hand_state, hs]
      · refine linkChanged (h.putLink (hr.probeAbsent .absent) fun _ => ⟨by simp, ?_, ?_⟩)
        · simpa [hs] using ht.keep
        · simpa [hs] using ht.silence
    · next hp hs =>
      refine h.putLink { hr.hand .probe with probe := .some (Nat.le_refl _) } fun _ =>
        { ht.hand .probe with probe := ?_ }
      simp [Link.hand_state, hs]
    all_goals exact h
  · exact h

theorem expireKeep (h : Sound k d s) {c : Nat} : Sound k d (expireKeep c s) := by
  unfold Machine.expireKeep
  dsimp only
  split
  · next hk =>
    simp only [Bool.and_eq_true, decide_eq_true_eq] at hk
    refine h.putLink { (h.links c).hand .keep with keep := .some (Nat.le_refl _) } fun hc =>
      { (h.timed c hc).hand .keep with keep := ?_ }
    simp [Link.hand_state, hk.2]
  · exact h

theorem loseLink (h : Sound 0 d s) {c : Nat} (hc : validCab c = true) (hu : (s.link c).state = .up) :
    Sound 0 d (loseLink c s) := by
  have hc0 : c ≠ 0 := by have := validCab_iff.mp hc; omega
  refine linkChanged (bondLeavesUp (holdCabinet (takeFault (h.putLink ?_ fun _ => ?_) hc0)))
  · exact ((h.links c).leaveUp .lost).unheard
  · have hp := (h.timed c hc0).probe
    simp only [hu] at hp
    exact ⟨by simpa [Link.leaveUp, Link.discardQueued] using hp, by simp [Link.leaveUp], by simp [Link.leaveUp]⟩

theorem silenceIsolated (h : Sound k d s) {c : Nat} (hi : (s.link c).state = .isolated) :
    Sound k d (silenceIsolated c s) := by
  have h1 : (fun t => Sound k d t ∧ t.links = s.links)
      (forEach (baysOf c) (fun b s => Machine.putPower b { s.power b with reported := 0 } s) s) :=
    forEach_keeps (P := fun t => Sound k d t ∧ t.links = s.links)
      (fun b _ t h => ⟨h.1.putPower ((h.1.bays b).report (Nat.zero_le _)), h.2⟩) ⟨h, rfl⟩
  obtain ⟨h1, hl⟩ := h1
  have hl' : (forEach (baysOf c) (fun b s => Machine.putPower b { s.power b with reported := 0 } s) s).link c =
      s.link c := by
    unfold State.link; rw [hl]
  refine h1.putLink { h1.links c with silence := .some (Nat.le_refl _) } fun hc => { h1.timed c hc with silence := ?_ }
  rw [hl']
  simp [hi]

theorem expireSilence (h : Sound 0 d s) {c : Nat} (hc : validCab c = true) : Sound 0 d (expireSilence c s) := by
  unfold Machine.expireSilence
  dsimp only
  split
  · split
    · next hu => exact h.loseLink hc hu
    · next hi => exact h.silenceIsolated hi
    all_goals exact h
  · exact h

theorem expireLostHold (h : Sound 0 d s) {c : Nat} : Sound 0 d (expireLostHold c s) := by
  have h1 : Sound 0 d (Machine.putLink c (s.link c).endLostHold s) :=
    h.putLink (h.links c).endLostHold fun hc => { h.timed c hc with }
  unfold Machine.expireLostHold
  dsimp only
  split
  · split
    · exact linkChanged (examineRaises (h1.putLink (h1.links c).train fun _ => Link.train_timed _))
    · exact h1.examineRaises
  · exact h

end Sound
end Sys2Proof.Machine
end

section
/-! A restart, the passing of time, and every step: O57 and O59. -/

namespace Sys2Proof.Machine

/-! ### Every item of a bank in turn -/

/-- An operation that writes one item of a bank, for each of different numbers in turn, writes each of them once from
what it held. -/
theorem forEach_read {α : Type} (read : State → Nat → α) (f : Nat → State → State) (g : Nat → α → α)
    (hf : ∀ i j s, read (f i s) j = if i = j then g j (read s j) else read s j) {l : List Nat} (hl : l.Nodup)
      (s : State)
    (j : Nat) : read (forEach l f s) j = if j ∈ l then g j (read s j) else read s j := by
  induction l generalizing s with
  | nil => rfl
  | cons i l ih =>
    obtain ⟨hi, ht⟩ := List.nodup_cons.mp hl
    refine (ih ht (f i s)).trans ?_
    rw [hf]
    by_cases hij : i = j
    · subst hij
      rw [if_neg hi, if_pos rfl, if_pos List.mem_cons_self]
    · rw [if_neg hij]
      have : j ∈ i :: l ↔ j ∈ l := by
        rw [List.mem_cons]
        exact ⟨fun h => h.resolve_left fun e => hij e.symm, .inr⟩
      simp only [this]

theorem allCabs_nodup : allCabs.Nodup := List.nodup_range' 1

theorem allEntries_nodup : allEntries.Nodup := List.nodup_range' 1

theorem mem_allEntries {e : Nat} : e ∈ allEntries ↔ validEntry e = true := by
  rw [validEntry_iff]; simp [allEntries, List.mem_range'_1]; omega

/-- A bay that there is not has the session of a bank's default. -/
theorem session_out {s : State} {b : Nat} (h : ¬ validBay b = true) : s.session b = Session.vacant 0 := by
  rw [validBay_iff] at h
  unfold State.session get1
  split
  · rfl
  · rw [Vector.getElem?_eq_none (by omega)]; rfl

theorem entry_out {s : State} {e : Nat} (h : ¬ validEntry e = true) : s.entry e = PlanEntry.free := by
  rw [validEntry_iff] at h
  unfold State.entry get1
  split
  · rfl
  · rw [Vector.getElem?_eq_none (by omega)]; rfl

theorem link_out {s : State} {c : Nat} (h : ¬ validCab c = true) : s.link c = Link.reset := by
  rw [validCab_iff] at h
  unfold State.link get1
  split
  · rfl
  · rw [Vector.getElem?_eq_none (by omega)]; rfl

/-! ### Banks at reset -/

/-- A bank filled with the value that stands for the items beyond it. -/
theorem get1_replicate_default {α : Type} (n : Nat) (d : α) (i : Nat) : get1 (Vector.replicate n d) d i = d := by
  unfold get1
  split
  · rfl
  · rw [Vector.getElem?_replicate]
    split <;> rfl

theorem reset_session (b : Nat) : State.reset.session b = Session.vacant 0 := get1_replicate_default 48 _ b

theorem reset_power (b : Nat) : State.reset.power b = BayPower.reset := get1_replicate_default 48 _ b

theorem reset_entry (e : Nat) : State.reset.entry e = PlanEntry.free := get1_replicate_default 96 _ e

theorem reset_module (c m : Nat) : State.reset.module c m = Module.reset := get1_replicate_default 32 _ _

theorem reset_bondList (c : Nat) : State.reset.bondList c = [] := get1_replicate_default 8 _ c

theorem reset_link (c : Nat) : State.reset.link c = Link.reset := get1_replicate_default 8 _ c

theorem reset_cabFaults (c : Nat) : State.reset.cabFaults c = CabinetFaults.reset := get1_replicate_default 8 _ c

theorem reset_step (k i : Nat) : State.reset.env.step k i = LimitStep.reset :=
  (congrArg (fun v => get1 v LimitStep.reset i)
    (get1_replicate_default 2 (Vector.replicate 16 LimitStep.reset) k)).trans
    (get1_replicate_default 16 _ i)

/-! ### The blocks of a restart -/

/-- Every session becomes VACANT and keeps its serial (R28). -/
theorem closeForRestart_session (s : State) (b : Nat) :
    (closeForRestart s).session b = if validBay b = true then Session.vacant (s.session b).serial else s.session b := by
  have h := forEach_read (fun s b => s.session b) (fun b s => putSession b (Session.vacant (s.session b).serial) s)
    (fun b x => if validBay b = true then Session.vacant x.serial else x) (fun i j s => by
      rw [session_putSession]
      by_cases hij : i = j
      · subst hij; simp [validBay_iff]
      · simp [hij]) allBays_nodup s b
  refine h.trans ?_
  simp only [mem_allBays]
  split <;> rfl

/-- Every CLAIMED entry becomes OPEN (R47). -/
theorem reopenClaims_entry (s : State) (e : Nat) :
    (reopenClaims s).entry e = if (s.entry e).state = .claimed then { s.entry e with
      state := .opened, claimant := none }
      else s.entry e := by
  have h := forEach_read (fun s e => s.entry e) (fun e s =>
      let x := s.entry e
      if x.state = .claimed then putEntry e { x with state := .opened, claimant := none } s else s)
    (fun e x => if validEntry e = true ∧ x.state = .claimed then { x with state := .opened, claimant := none } else x)
    (fun i j s => by
      dsimp only
      by_cases hij : i = j
      · subst hij
        by_cases hc : (s.entry i).state = .claimed
        · rw [if_pos hc, entry_putEntry]; simp [hc, validEntry_iff]
        · rw [if_neg hc]; simp [hc]
      · rw [if_neg hij]
        split
        · rw [entry_putEntry, if_neg fun h => hij h.1]
        · rfl) allEntries_nodup s e
  refine h.trans ?_
  simp only [mem_allEntries]
  by_cases he : validEntry e = true
  · simp [he]
  · rw [entry_out he]; simp [PlanEntry.free]

theorem forEach_fields {β : Type} (field : State → β) {f : Nat → State → State} (hf : ∀ i s, field (f i s) = field s)
    (l : List Nat) (s : State) : field (forEach l f s) = field s :=
  forEach_keeps (P := fun t => field t = field s) (fun i _ t h => (hf i t).trans h) rfl

/-- What R28 leaves of the state: only sessions change. -/
theorem closeForRestart_eq (s : State) : ∃ x, closeForRestart s = { s with sessions := x } := by
  unfold closeForRestart
  refine forEach_keeps (P := fun t => ∃ x, t = { s with sessions := x }) (fun b _ t h => ?_) ⟨_, rfl⟩
  obtain ⟨x, rfl⟩ := h
  exact ⟨_, rfl⟩

/-- What R47 leaves of the state: only plan entries change. -/
theorem reopenClaims_eq (s : State) :
    ∃ x, reopenClaims s = { s with plans := { s.plans with entries := x } } := by
  unfold reopenClaims
  refine forEach_keeps (P := fun t => ∃ x, t = { s with plans := { s.plans with entries := x } }) (fun e _ t h => ?_)
    ⟨_, rfl⟩
  obtain ⟨x, rfl⟩ := h
  dsimp only
  split
  · exact ⟨_, rfl⟩
  · exact ⟨_, rfl⟩

/-- A restart's sessions and claims: every session VACANT, no entry CLAIMED, nothing else changed (R28, R47). -/
theorem closeAll_session (s : State) (b : Nat) :
    (reopenClaims (closeForRestart s)).session b = Session.vacant (s.session b).serial := by
  obtain ⟨x, hx⟩ := reopenClaims_eq (closeForRestart s)
  have : (reopenClaims (closeForRestart s)).session b = (closeForRestart s).session b := by rw [hx]; rfl
  rw [this, closeForRestart_session]
  split
  · rfl
  · next hb => rw [session_out hb]; rfl

theorem closeAll_entry (s : State) (e : Nat) :
    (reopenClaims (closeForRestart s)).entry e = if (s.entry e).state = .claimed
      then { s.entry e with state := .opened, claimant := none } else s.entry e := by
  obtain ⟨x, hx⟩ := closeForRestart_eq s
  have : (closeForRestart s).entry e = s.entry e := by rw [hx]; rfl
  rw [reopenClaims_entry, this]

theorem closeAll_eq (s : State) :
    ∃ x y, reopenClaims (closeForRestart s) = { s with sessions := x, plans := { s.plans with entries := y } } := by
  obtain ⟨x, hx⟩ := closeForRestart_eq s
  obtain ⟨y, hy⟩ := reopenClaims_eq (closeForRestart s)
  exact ⟨x, y, by rw [hy, hx]⟩

/-- The discard of the queued frames and the ZERO of R128, then the reset of the bond controller. -/
theorem restarted_sound {l : Link} (h : l.Ranged) (ht : l.Timed) : l.restarted.Ranged ∧ l.restarted.Timed := by
  have hb : ∀ p, ((get1 (Vector.replicate 6 LinkBay.reset) LinkBay.reset p).lastBattery < 16777216 ∧
      (get1 (Vector.replicate 6 LinkBay.reset) LinkBay.reset p).lastAuxiliary < 16777216) :=
    get1_forall _ _ (fun _ (x : LinkBay) => x.lastBattery < 16777216 ∧ x.lastAuxiliary < 16777216)
      (fun _ _ => by decide) (by decide)
  have h1 : ({ l with adopted := false, lostHold := none, lostTimer := none, bays := Vector.replicate 6 LinkBay.reset,
                      assembler := .hunting } : Link).Ranged :=
    { h with lostHold := ⟨.none, rfl, nofun⟩, counts := hb }
  unfold Link.restarted
  dsimp only
  split
  · next hi => exact ⟨{ h1 with silence := .some (Nat.le_refl _) }, { ht with silence := by simp [hi] }⟩
  · exact ⟨h1.train, Link.train_timed _⟩

namespace Sound

variable {s : State} {k d : Nat}

/-- The sessions and the claims end together (R28, R47). -/
theorem closeAll (h : Sound k 0 s) : Sound k 0 (reopenClaims (closeForRestart s)) := by
  have hs := closeAll_session s
  have he := closeAll_entry s
  have hn : ∀ e, ((reopenClaims (closeForRestart s)).entry e).state ≠ .claimed := fun e => by
    rw [he]
    split
    · simp
    · next hc => exact hc
  obtain ⟨x, y, hq⟩ := closeAll_eq s
  generalize reopenClaims (closeForRestart s) = t at *
  have h1 : ∀ b, (t.session b).InRange ∧ (t.session b).Whole := fun b => by
    rw [hs]; exact ⟨Session.vacant_inRange (h.sessions b).serial, Session.vacant_whole _⟩
  have h2 : ∀ e, (t.entry e).InRange := fun e => by
    have hx := h.entries e
    rw [he]
    split
    · next hc =>
      refine { hx with identity := fun _ => hx.identity (by rw [hc]; decide), claimant := nofun, outcome :=
        fun o ho => ?_ }
      have := (hx.outcome o ho).1
      rw [hc] at this
      cases this
    · exact hx
  have h3 : t.plans.defaultPlan.InRange ∧ 1 ≤ t.plans.cursor ∧ t.plans.cursor ≤ 97 := by rw [hq]; exact h.plans
  have hl : ∀ b, (t.session b).planLink = none := fun b => by rw [hs]; rfl
  subst hq
  exact { h with
    sessions := fun b => (h1 b).1
    whole := fun b => (h1 b).2
    entries := h2
    claimed := fun e hc => absurd hc (hn e)
    linked := fun b e _ hb => by rw [hl b] at hb; cases hb
    plans := h3 }

theorem resetBond (h : Sound k d s) : Sound k d { s with bond := BondController.reset } :=
  { h with
    modules := fun c m => (reset_module c m).symm ▸ .none
    bays := fun b => (reset_power b).symm ▸ ⟨Nat.zero_le _, Nat.zero_le _, .none⟩
    raises := ⟨Nat.zero_le _, List.nodup_nil, nofun⟩
    bonds := fun c => (reset_bondList c).symm ▸ .nil c }

theorem applyRestart (h : Sound 0 0 s) : Sound 0 0 (applyRestart s) := by
  have h1 : Sound 0 0 (restartBonds (reopenClaims (closeForRestart { s with order := s.order.restarted }))) := by
    refine resetBond (each (fun _ _ h => h.sendIfUp) (each (fun c t h => ?_) (h.putOrder (Nat.zero_le _)).closeAll))
    exact h.putLink { h.links c with } fun hc => { h.timed c hc with }
  have h2 : Sound 0 0 (restartLinks
      (restartBonds (reopenClaims (closeForRestart { s with order := s.order.restarted })))) := by
    refine forEach_keeps (P := Sound 0 0) (fun c hc t h => ?_) h1
    have := validCab_iff.mp (mem_allCabs.mp hc)
    obtain ⟨hr, ht⟩ := restarted_sound (h.links c) (h.timed c (by omega))
    exact h.putLink hr fun _ => ht
  unfold Machine.applyRestart
  dsimp only
  generalize restartLinks (restartBonds (reopenClaims (closeForRestart { s with order := s.order.restarted }))) =
    t at h2
  have h3 : Sound 0 0 (restartAllocator { t with ready := ReadyList.reset }) := by
    have h3 : Sound 0 0 { t with ready := ReadyList.reset } := { h2 with ready := ⟨Nat.zero_le _, nofun⟩ }
    exact startPeriod (h3.putAlloc { h3.alloc with
      order := ⟨Nat.zero_le _, List.nodup_nil, nofun⟩
      snapshot := nofun })
  generalize restartAllocator { t with ready := ReadyList.reset } = u at *
  refine evaluateAlarm (recompute (recomputeBuilding (placeWalker (h3.putEnv { h3.env with
    stages := ⟨stageOfLines_le _, h3.env.stages.2⟩
    settling := .some (Nat.le_refl _)
    window := ⟨Nat.zero_le _, nofun, ?_⟩
    overdraw := .none }))))
  unfold restartWindow
  dsimp only
  split
  · exact .some (Nat.le_refl _)
  · exact .none

end Sound

/-! ### Reset -/

theorem Link.reset_ranged : Link.reset.Ranged := by
  refine ⟨by decide, .some (by decide), .none, .none, ⟨.none, rfl, nofun⟩, ⟨by decide, List.nodup_nil, nofun⟩, ?_⟩
  exact get1_forall _ _ (fun _ (x : LinkBay) => x.lastBattery < 16777216 ∧ x.lastAuxiliary < 16777216)
    (fun _ _ => by decide) (by decide)

theorem Envelope.reset_inRange : Envelope.reset.InRange where
  siteCeiling := nofun
  ceilings := get1_forall _ _ (fun _ (x : CabinetCeiling) => x.steps ≤ 1200) (fun _ _ => by decide) (by decide)
  banks b k := (reset_step b k).symm ▸ ⟨by decide, by decide, nofun⟩
  bank := by decide
  walker := by decide
  stageLimits := get1_forall _ _ (fun _ (x : Nat) => x ≤ 65535) (fun _ _ => by decide) (by decide)
  stages := by decide
  settling := .none
  whPerPulse := by decide
  reserve := by decide
  window := ⟨by decide, nofun, .none⟩
  building := by decide
  margin := by decide
  available := by decide
  overdraw := .none

theorem Line.reset_timers (pin : Bool) :
    TimerRange 20 (Line.reset pin).filter ∧ TimerRange 500 (Line.reset pin).blinkTimer := by
  cases pin
  · exact ⟨.none, .none⟩
  · exact ⟨.some (Nat.le_refl _), .none⟩

theorem PlanTable.reset_defaultPlan : PlanTable.reset.defaultPlan.InRange := ⟨by decide, by decide, by decide, .inl rfl⟩

theorem reset_sound : Sound 0 0 State.reset := by
  have hl : ∀ l, TimerRange 20 (State.reset.line l).filter ∧ TimerRange 500 (State.reset.line l).blinkTimer :=
    get1_forall _ _ (fun _ (x : Line) => TimerRange 20 x.filter ∧ TimerRange 500 x.blinkTimer)
      (fun _ _ => Line.reset_timers true) (by
        have h := Line.reset_timers true
        intro l hl
        fin_cases hl <;> exact h)
  refine
    { clock := by decide, plans := ⟨PlanTable.reset_defaultPlan, by decide, by decide⟩, env := Envelope.reset_inRange
      alloc := ⟨by decide, ⟨60000, rfl, by decide⟩, ⟨by decide, List.nodup_nil, nofun⟩, nofun⟩
      ready := ⟨by decide, nofun⟩, faults := ⟨nofun, nofun⟩, queue := by decide
      raises := ⟨by decide, List.nodup_nil, nofun⟩
      lines := hl, sessions := fun b => ?_, whole := fun b => ?_, entries := fun e => ?_, claimed := fun e h => ?_
      linked := fun b e _ h => ?_, modules := fun c m => ?_, bays := fun b => ?_, bonds := fun c => ?_
      links := fun c => ?_, timed := fun c _ => ?_ }
  · exact (reset_session b).symm ▸ Session.vacant_inRange (by decide)
  · exact (reset_session b).symm ▸ Session.vacant_whole 0
  · exact (reset_entry e).symm ▸ PlanEntry.free_inRange
  · have := (congrArg PlanEntry.state (reset_entry e)).symm.trans h
    cases this
  · have := (congrArg Session.planLink (reset_session b)).symm.trans h
    cases this
  · exact (reset_module c m).symm ▸ .none
  · exact (reset_power b).symm ▸ ⟨Nat.zero_le _, Nat.zero_le _, .none⟩
  · exact (reset_bondList c).symm ▸ .nil c
  · exact (reset_link c).symm ▸ Link.reset_ranged
  · exact (reset_link c).symm ▸ Link.reset_timed

end Sys2Proof.Machine
end

section
/-! The passing of time: what one millisecond does to the timers, and that it keeps every range. -/

namespace Sys2Proof.Machine

theorem get1_out {α : Type} {n : Nat} (v : Vector α n) (d : α) {i : Nat} (h : ¬ (1 ≤ i ∧ i ≤ n)) : get1 v d i = d := by
  unfold get1
  split
  · rfl
  · rw [Vector.getElem?_eq_none (by omega)]; rfl

/-- A bank every item of which passes through a function that keeps the default. -/
theorem get1_tabulate_map {α : Type} {n : Nat} (f : α → α) (v : Vector α n) {d : α} (hd : f d = d) (i : Nat) :
    get1 (tabulate n fun j => f (get1 v d j)) d i = f (get1 v d i) := by
  by_cases hi : 1 ≤ i ∧ i ≤ n
  · exact get1_tabulate _ _ _ hi.1 hi.2
  · rw [get1_out _ _ hi, get1_out v _ hi, hd]

theorem session_tick (s : State) (b : Nat) : (tick s).session b = (s.session b).tick :=
  get1_tabulate_map Session.tick s.sessions rfl b

theorem module_tick (s : State) (c m : Nat) : (tick s).module c m = (s.module c m).tick :=
  get1_tabulate_map Module.tick s.bond.modules rfl (moduleIndex c m)

theorem power_tick (s : State) (b : Nat) : (tick s).power b = (s.power b).tick :=
  get1_tabulate_map BayPower.tick s.bond.bays rfl b

theorem link_tick_cases (s : State) (c : Nat) :
    (tick s).link c = Link.reset ∧ s.link c = Link.reset ∨ (tick s).link c = (s.link c).tick := by
  rcases get1_tabulate_cases 8 (fun c => (s.link c).tick) Link.reset c with h | ⟨-, -, h⟩
  · by_cases hc : validCab c = true
    · have := validCab_iff.mp hc
      exact .inr (get1_tabulate _ _ _ this.1 this.2)
    · exact .inl ⟨h, link_out hc⟩
  · exact .inr h

theorem line_tick_cases (s : State) (l : Nat) : (tick s).line l = Line.reset true ∨
    (tick s).line l = (s.line l).tick := by
  rcases get1_tabulate_cases 8 (fun l => (s.line l).tick) (Line.reset true) l with h | ⟨-, -, h⟩
  · exact .inl h
  · exact .inr h

theorem TimerRange.tick {n : Nat} {t : Timer} (h : TimerRange n t) : TimerRange n (Timer.tick t) := by
  cases t with
  | none => exact .none
  | some ms => exact .some (Nat.le_trans (Nat.sub_le _ _) (h ms rfl))

theorem Timer.tick_isSome (t : Timer) : (Timer.tick t).isSome = t.isSome := Option.isSome_map

theorem Session.InRange.tick {x : Session} (h : x.InRange) : x.tick.InRange :=
  { h with idTimer := ⟨h.idTimer.1.tick, fun hi => h.idTimer.2 ((Timer.tick_isSome _).symm.trans hi)⟩ }

theorem Session.Whole.tick {x : Session} (hw : x.Whole) : x.tick.Whole where
  vacant h := by
    have hx := hw.vacant h
    calc x.tick = (Session.vacant x.serial).tick := by rw [← hx]
      _ = Session.vacant x.serial := rfl
  identifying h := by
    obtain ⟨hi, hl, hc, ht⟩ := hw.identifying h
    exact ⟨hi, hl, hc, (Timer.tick_isSome _).trans ht⟩
  bound := hw.bound
  overdue := hw.overdue
  window := hw.window
  active := hw.active
  satisfied := hw.satisfied
  anonymous := hw.anonymous

theorem Link.Ranged.tick {l : Link} (h : l.Ranged) : l.tick.Ranged :=
  { h with
    probe := h.probe.tick, keep := h.keep.tick, silence := h.silence.tick
    lostHold := ⟨h.lostHold.1.tick, h.lostHold.2.1.trans (Timer.tick_isSome _).symm, h.lostHold.2.2⟩ }

theorem Link.Timed.tick {l : Link} (h : l.Timed) : l.tick.Timed where
  probe := (iff_of_eq (congrArg (· = true) (Timer.tick_isSome l.probe))).trans h.probe
  keep := (iff_of_eq (congrArg (· = true) (Timer.tick_isSome l.keep))).trans h.keep
  silence := (iff_of_eq (congrArg (· = true) (Timer.tick_isSome l.silence))).trans h.silence

theorem Envelope.InRange.tick {e : Envelope} (h : e.InRange) : e.tick.InRange :=
  { h with
    settling := h.settling.tick, overdraw := h.overdraw.tick
    window := ⟨h.window.1, h.window.2.1, h.window.2.2.tick⟩ }

theorem Allocator.InRange.tick {a : Allocator} (h : a.InRange) : a.tick.InRange := by
  obtain ⟨ms, ht, hm⟩ := h.periodTimer
  exact { h with periodTimer := ⟨ms - 1, by rw [Allocator.tick, ht]; rfl, Nat.le_trans (Nat.sub_le _ _) hm⟩ }

theorem Module.Fits.tick {c : Nat} {x : Module} (h : x.Fits c) : x.tick.Fits c where
  bay := h.bay
  contactor ms hm := by
    obtain ⟨n, hn, rfl⟩ := Option.map_eq_some_iff.mp hm
    exact ⟨Nat.le_trans (Nat.sub_le _ _) (h.contactor n hn).1, (h.contactor n hn).2⟩

/-- While no event is due the prescaler stands below 60 (log entry 1). -/
theorem prescaler_lt {s : State} (h : dueEvent s = none) : s.clock.prescaler < 60 := by
  have h := List.head?_eq_none_iff.mp h
  simp only [dueEvents, List.append_eq_nil_iff, dueIf, ite_eq_right_iff, decide_eq_true_eq, reduceCtorEq,
    imp_false] at h
  omega

theorem Sound.tick {s : State} (h : Sound 0 0 s) (hd : dueEvent s = none) : Sound 0 0 (tick s) := by
  obtain ⟨hmin, -, hfrac⟩ := h.clock
  have hpre := prescaler_lt hd
  refine
    { clock := ?_, plans := h.plans, env := h.env.tick, alloc := h.alloc.tick, raises := h.raises, bonds := h.bonds
      ready := h.ready, faults := h.faults, queue := h.queue, entries := h.entries
      sessions := fun b => by rw [session_tick]; exact (h.sessions b).tick
      whole := fun b => by rw [session_tick]; exact (h.whole b).tick
      claimed := fun e he => ?_
      linked := fun b e hb hl => ?_
      modules := fun c m => by rw [module_tick]; exact (h.modules c m).tick
      bays := fun b => by rw [power_tick]; exact (h.bays b).time (h.bays b).ramp.tick
      links := fun c => ?_
      timed := fun c hc => ?_
      lines := fun l => ?_ }
  · unfold Machine.tick Clock.tick
    split
    · exact ⟨hmin, Nat.le_of_lt hpre, by assumption⟩
    · exact ⟨hmin, hpre, Nat.zero_lt_succ _⟩
  · obtain ⟨b, hc, hl⟩ := h.claimed e he
    exact ⟨b, hc, by rw [session_tick]; exact hl⟩
  · rw [session_tick] at hl ⊢
    exact h.linked b e hb hl
  · rcases link_tick_cases s c with ⟨e, -⟩ | e <;> rw [e]
    exacts [Link.reset_ranged, (h.links c).tick]
  · rcases link_tick_cases s c with ⟨e, -⟩ | e <;> rw [e]
    exacts [Link.reset_timed, (h.timed c hc).tick]
  · rcases line_tick_cases s l with e | e <;> rw [e]
    · exact Line.reset_timers true
    · exact ⟨(h.lines l).1.tick, (h.lines l).2.tick⟩

end Sys2Proof.Machine
end

section
/-! What a step is: an order with its effect, a message with its effect, an event with its effect, or one millisecond. -/

namespace Sys2Proof.Machine

/-- The state after POWER_ON_RESET: the pins and the commands that wait are from outside (log entry 14). -/
def poweredOn (s : State) : State :=
  { State.reset with lines := tabulate 8 fun l => Line.reset (s.line l).pin, pending := s.pending }

/-- The commands that are no order and no message, at units that there are (Table 0-2), with what each does. -/
inductive Event : Instr → (State → State) → Prop
  | powerOnReset : Event .powerOnReset poweredOn
  | restartTakesEffect : Event .restartTakesEffect fun s => if restartReady s.order then applyRestart s else s
  | orderUnknownKind (tag kind : Byte) : Event (.orderUnknownKind tag kind) fun s =>
      if (bodyLength kind).isSome then s
      else takeFrame ⟨tag, kind, []⟩ 0xFF (fun s => (s, [Status.unknown.byte])) s
  | orderFrameDropped : Event .orderFrameDropped (setAssembler .hunting)
  | orderByteGapTimeout : Event .orderByteGapTimeout (setAssembler .hunting)
  | heldOrderTaken : Event .heldOrderTaken fun s => match s.order.held with
      | some f => if heldCanGo s.order then takeCompleted f { s with order := { s.order with held := none } } else s
      | none => s
  | orderLinkFrameSent : Event .orderLinkFrameSent fun s => { s with order := s.order.frameSent }
  | cabinetFrameError (c : Nat) (h : validCab c = true) : Event (.cabinetFrameError c) (dropFrame c)
  | cabinetByteGapTimeout (c : Nat) (h : validCab c = true) : Event (.cabinetByteGapTimeout c) (exceedGap c)
  | cabinetFrameSent (c : Nat) (h : validCab c = true) :
      Event (.cabinetFrameSent c) fun s => putLink c (s.link c).frameSent s
  | minuteEvent : Event .minuteEvent fun s => walk (forEach allBays minuteAt (advanceMinute s))
  | identityTimerExpiry (b : Nat) (h : validBay b = true) : Event (.identityTimerExpiry b) (expireIdentity b)
  | settlingTimerExpiry : Event .settlingTimerExpiry fun s => if s.env.settling.isSome then
      recompute { s with env := { s.env with effStage := s.env.lineStage, settling := none } } else s
  | meterWindowExpiry : Event .meterWindowExpiry fun s => if s.env.meterWindow.isSome then
      recompute (recomputeBuilding { s with env := { s.env with
        lastWindow := some s.env.windowCount, windowCount := 0, meterWindow := some meterWindowMs } }) else s
  | overdrawTimerExpiry : Event .overdrawTimerExpiry fun s => if s.env.overdraw.isSome then
      let s2 := shed .overdraw ((s.env.available : Int) - s.env.excess.getD 0) (takeOverdraw s)
      { s2 with env := { s2.env with overdraw := none, excess := none } } else s
  | periodTimerExpiry : Event .periodTimerExpiry fun s =>
      if s.alloc.periodTimer.isSome then startPeriod (requestPass s) else s
  | passComplete : Event .passComplete completePass
  | rampTimerExpiry (b : Nat) (h : validBay b = true) : Event (.rampTimerExpiry b) (expireRamp b)
  | contactorTimerExpiry (c m : Nat) (h : validCab c = true) (hm : validModule m = true) :
      Event (.contactorTimerExpiry c m) (expireContactor c m)
  | probeTimerExpiry (c : Nat) (h : validCab c = true) : Event (.probeTimerExpiry c) (expireProbe c)
  | keepTimerExpiry (c : Nat) (h : validCab c = true) : Event (.keepTimerExpiry c) (expireKeep c)
  | silenceTimerExpiry (c : Nat) (h : validCab c = true) : Event (.silenceTimerExpiry c) (expireSilence c)
  | lostHoldTimerExpiry (c : Nat) (h : validCab c = true) : Event (.lostHoldTimerExpiry c) (expireLostHold c)
  | yardPinChange (l : Nat) (high : Bool) (h : validLine l = true) :
      Event (.yardPinChange l high) fun s => putLine l ((s.line l).takePin high) s
  | lineFilterExpiry (l : Nat) (h : validLine l = true) : Event (.lineFilterExpiry l) (expireFilter l)
  | alarmBlinkToggle (l : Nat) (h : validLine l = true) :
      Event (.alarmBlinkToggle l) fun s => putLine l (s.line l).toggle s
  | orderByteReceived (b : Byte) : Event (.orderByteReceived b) (receiveOrderByte b)
  | cabinetByteReceived (c : Nat) (b : Byte) (h : validCab c = true) :
      Event (.cabinetByteReceived c b) (receiveCabinetByte c b)

theorem atCab_next {c : Nat} {f : State → State} {s s' : State} (h : atCab c f s = .next s') :
    validCab c = true ∧ s' = f s := by
  unfold atCab at h
  split at h
  · next hc => cases h; exact ⟨hc, rfl⟩
  · cases h

theorem atBay_next {b : Nat} {f : State → State} {s s' : State} (h : atBay b f s = .next s') :
    validBay b = true ∧ s' = f s := by
  unfold atBay at h
  split at h
  · next hc => cases h; exact ⟨hc, rfl⟩
  · cases h

theorem atLine_next {l : Nat} {f : State → State} {s s' : State} (h : atLine l f s = .next s') :
    validLine l = true ∧ s' = f s := by
  unfold atLine at h
  split at h
  · next hc => cases h; exact ⟨hc, rfl⟩
  · cases h

theorem atModule_next {c m : Nat} {f : State → State} {s s' : State} (h : atModule c m f s = .next s') :
    (validCab c = true ∧ validModule m = true) ∧ s' = f s := by
  unfold atModule at h
  split at h
  · next hc =>
    split at h
    · next hm => cases h; exact ⟨⟨hc, hm⟩, rfl⟩
    · cases h
  · cases h

/-- A command that is carried out is an order, a message from a cabinet that there is, or an event at units that there
are. -/
theorem exec_next {i : Instr} {s s' : State} (h : exec i s = .next s') :
    (∃ f, orderEffect i = some f ∧ s' = takeOrder i f s) ∨
    (∃ f c, messageEffect i = some f ∧ validCab c = true ∧ (∀ x, encodeMessage i = some x → x.1 = c) ∧ s' = f s) ∨
    (∃ f, Event i f ∧ s' = f s) := by
  cases i
  case descriptor | status | plug | identity | moduleReport | faultMessage =>
    obtain ⟨hc, rfl⟩ := atCab_next h
    exact .inr (.inl ⟨_, _, rfl, hc, by rintro _ ⟨⟩; rfl, rfl⟩)
  case powerOnReset => exact .inr (.inr ⟨_, .powerOnReset, (Host.Outcome.next.inj h).symm⟩)
  case restartTakesEffect => exact .inr (.inr ⟨_, .restartTakesEffect, (Host.Outcome.next.inj h).symm⟩)
  case orderUnknownKind => exact .inr (.inr ⟨_, .orderUnknownKind .., (Host.Outcome.next.inj h).symm⟩)
  case orderFrameDropped => exact .inr (.inr ⟨_, .orderFrameDropped, (Host.Outcome.next.inj h).symm⟩)
  case orderByteGapTimeout => exact .inr (.inr ⟨_, .orderByteGapTimeout, (Host.Outcome.next.inj h).symm⟩)
  case heldOrderTaken => exact .inr (.inr ⟨_, .heldOrderTaken, (Host.Outcome.next.inj h).symm⟩)
  case orderLinkFrameSent => exact .inr (.inr ⟨_, .orderLinkFrameSent, (Host.Outcome.next.inj h).symm⟩)
  case cabinetFrameError =>
    obtain ⟨hu, rfl⟩ := atCab_next h
    exact .inr (.inr ⟨_, .cabinetFrameError _ hu, rfl⟩)
  case cabinetByteGapTimeout =>
    obtain ⟨hu, rfl⟩ := atCab_next h
    exact .inr (.inr ⟨_, .cabinetByteGapTimeout _ hu, rfl⟩)
  case cabinetFrameSent =>
    obtain ⟨hu, rfl⟩ := atCab_next h
    exact .inr (.inr ⟨_, .cabinetFrameSent _ hu, rfl⟩)
  case minuteEvent => exact .inr (.inr ⟨_, .minuteEvent, (Host.Outcome.next.inj h).symm⟩)
  case identityTimerExpiry =>
    obtain ⟨hu, rfl⟩ := atBay_next h
    exact .inr (.inr ⟨_, .identityTimerExpiry _ hu, rfl⟩)
  case settlingTimerExpiry => exact .inr (.inr ⟨_, .settlingTimerExpiry, (Host.Outcome.next.inj h).symm⟩)
  case meterWindowExpiry => exact .inr (.inr ⟨_, .meterWindowExpiry, (Host.Outcome.next.inj h).symm⟩)
  case overdrawTimerExpiry => exact .inr (.inr ⟨_, .overdrawTimerExpiry, (Host.Outcome.next.inj h).symm⟩)
  case periodTimerExpiry => exact .inr (.inr ⟨_, .periodTimerExpiry, (Host.Outcome.next.inj h).symm⟩)
  case passComplete => exact .inr (.inr ⟨_, .passComplete, (Host.Outcome.next.inj h).symm⟩)
  case rampTimerExpiry =>
    obtain ⟨hu, rfl⟩ := atBay_next h
    exact .inr (.inr ⟨_, .rampTimerExpiry _ hu, rfl⟩)
  case contactorTimerExpiry =>
    obtain ⟨⟨hc, hm⟩, rfl⟩ := atModule_next h
    exact .inr (.inr ⟨_, .contactorTimerExpiry _ _ hc hm, rfl⟩)
  case probeTimerExpiry =>
    obtain ⟨hu, rfl⟩ := atCab_next h
    exact .inr (.inr ⟨_, .probeTimerExpiry _ hu, rfl⟩)
  case keepTimerExpiry =>
    obtain ⟨hu, rfl⟩ := atCab_next h
    exact .inr (.inr ⟨_, .keepTimerExpiry _ hu, rfl⟩)
  case silenceTimerExpiry =>
    obtain ⟨hu, rfl⟩ := atCab_next h
    exact .inr (.inr ⟨_, .silenceTimerExpiry _ hu, rfl⟩)
  case lostHoldTimerExpiry =>
    obtain ⟨hu, rfl⟩ := atCab_next h
    exact .inr (.inr ⟨_, .lostHoldTimerExpiry _ hu, rfl⟩)
  case yardPinChange =>
    obtain ⟨hu, rfl⟩ := atLine_next h
    exact .inr (.inr ⟨_, .yardPinChange _ _ hu, rfl⟩)
  case lineFilterExpiry =>
    obtain ⟨hu, rfl⟩ := atLine_next h
    exact .inr (.inr ⟨_, .lineFilterExpiry _ hu, rfl⟩)
  case alarmBlinkToggle =>
    obtain ⟨hu, rfl⟩ := atLine_next h
    exact .inr (.inr ⟨_, .alarmBlinkToggle _ hu, rfl⟩)
  case orderByteReceived => exact .inr (.inr ⟨_, .orderByteReceived .., (Host.Outcome.next.inj h).symm⟩)
  case cabinetByteReceived =>
    obtain ⟨hu, rfl⟩ := atCab_next h
    exact .inr (.inr ⟨_, .cabinetByteReceived _ _ hu, rfl⟩)
  all_goals exact .inl ⟨_, rfl, (Host.Outcome.next.inj h).symm⟩

/-- What every command and every millisecond without a due event keep, a step keeps. -/
theorem step_keeps {P : State → Prop} (pending : ∀ s l, P s → P { s with pending := l })
    (execs : ∀ i s s', exec i s = .next s' → P s → P s') (ticks : ∀ s, dueEvent s = none → P s → P (tick s))
    {s s' : State} (hs : step s = .next s') (h : P s) : P s' := by
  unfold step at hs
  split at hs
  · exact execs _ _ _ hs (pending _ _ h)
  · unfold idle at hs
    split at hs
    · exact execs _ _ _ hs h
    · next hd => cases hs; exact ticks _ hd h

end Sys2Proof.Machine
end

section
/-! Every step keeps the ranges, and the sessions and the claims whole: O57 and O59. -/

namespace Sys2Proof.Machine

namespace Sound

variable {s : State} {k d : Nat}

theorem takeOrder (h : Sound 0 0 s) {i : Instr} {f : State → State × List Byte} (hi : Machine.orderEffect i = some f) :
    Sound 0 0 (takeOrder i f s) := by
  unfold Machine.takeOrder
  split
  · exact h.takeFrame (h.orderEffect hi)
  · exact h

theorem expireIdentity (h : Sound k d s) {b : Nat} (hb : validBay b = true) : Sound k d (expireIdentity b s) := by
  unfold Machine.expireIdentity
  split
  · next hi => exact h.bindDefault hb hi.1
  · exact h

theorem walk (h : Sound k d s) : Sound k d (walk s) := by
  unfold Machine.walk
  dsimp only
  split
  · exact h
  · split
    · exact h
    · next n hn =>
      split
      · exact recompute (h.putEnv { h.env with walker := ((h.env.banks _ _).2.2 n hn).2 })
      · exact h

theorem advanceMinute (h : Sound k d s) : Sound k d (advanceMinute s) :=
  { h with clock := ⟨Nat.mod_lt _ (by decide), Nat.zero_le _, Nat.zero_lt_succ _⟩ }

theorem expireFilter (h : Sound k d s) {l : Nat} : Sound k d (expireFilter l s) := by
  unfold Machine.expireFilter
  dsimp only
  split
  · refine handLevel (h.putLine ?_ ?_)
    exacts [.none, (h.lines l).2]
  · exact h

theorem toggle (h : Sound k d s) {l : Nat} : Sound k d (Machine.putLine l (s.line l).toggle s) := by
  have hl := h.lines l
  unfold Line.toggle
  split
  · exact h.putLine hl.1 (.some (Nat.le_refl _))
  · exact h.putLine hl.1 hl.2

theorem putLines (h : Sound k d s) {lines : Vector Line 8}
    (hl : ∀ l, TimerRange 20 (get1 lines (Line.reset true) l).filter ∧
    TimerRange 500 (get1 lines (Line.reset true) l).blinkTimer) {waiting : List Instr} :
    Sound k d { s with lines := lines, pending := waiting } :=
  { h with lines := hl }

theorem event (h : Sound 0 0 s) {i : Instr} {f : State → State} (hi : Event i f) :
    Sound 0 0 (f s) := by
  cases hi
  case powerOnReset =>
    exact reset_sound.putLines (get1_tabulate_forall (p := fun x : Line => TimerRange 20 x.filter ∧
      TimerRange 500 x.blinkTimer)
      (Line.reset_timers true) fun _ => Line.reset_timers _)
  case restartTakesEffect =>
    dsimp only
    split
    · exact h.applyRestart
    · exact h
  case orderUnknownKind =>
    dsimp only
    split
    · exact h
    · exact h.takeFrame h
  case orderFrameDropped => exact h.putOrder h.queue
  case orderByteGapTimeout => exact h.putOrder h.queue
  case heldOrderTaken =>
    dsimp only
    split
    · split
      · exact takeCompleted (s := { s with order := { s.order with held := none } }) (h.putOrder h.queue)
      · exact h
    · exact h
  case orderLinkFrameSent => exact h.orderFrameSent
  case cabinetFrameError hu => exact h.dropFrame hu
  case cabinetByteGapTimeout hu =>
    unfold exceedGap
    split
    · exact h
    · exact h.dropFrame hu
  case cabinetFrameSent hu => exact h.cabinetFrameSent
  case minuteEvent => exact (each (fun _ _ h => h.minuteAt) h.advanceMinute).walk
  case identityTimerExpiry hu => exact h.expireIdentity hu
  case settlingTimerExpiry =>
    dsimp only
    split
    · exact recompute (h.putEnv { h.env with stages := ⟨h.env.stages.1, h.env.stages.1⟩, settling := .none })
    · exact h
  case meterWindowExpiry =>
    dsimp only
    split
    · exact recompute (recomputeBuilding (h.putEnv { h.env with
        window := ⟨Nat.zero_le _, by rintro _ ⟨⟩; exact h.env.window.1, .some (Nat.le_refl _)⟩ }))
    · exact h
  case overdrawTimerExpiry =>
    dsimp only
    split
    · have h1 := h.takeOverdraw.shed (cause := .overdraw) (target := (s.env.available : Int) - s.env.excess.getD 0)
      exact h1.putEnv { h1.env with overdraw := .none }
    · exact h
  case periodTimerExpiry =>
    dsimp only
    split
    · exact h.requestPass.startPeriod
    · exact h
  case passComplete => exact h.completePass
  case rampTimerExpiry hu => exact h.expireRamp hu
  case contactorTimerExpiry hu _ => exact h.expireContactor hu
  case probeTimerExpiry hu => exact h.expireProbe hu
  case keepTimerExpiry hu => exact h.expireKeep
  case silenceTimerExpiry hu => exact h.expireSilence hu
  case lostHoldTimerExpiry hu => exact h.expireLostHold
  case yardPinChange l high _ =>
    obtain ⟨hf, hb⟩ := h.lines l
    obtain ⟨hf', hb'⟩ := Line.takePin_range hf high
    exact h.putLine hf' (hb' ▸ hb)
  case lineFilterExpiry hu => exact h.expireFilter
  case alarmBlinkToggle hu => exact h.toggle
  case orderByteReceived => exact h.receiveOrderByte
  case cabinetByteReceived hu => exact h.receiveCabinetByte hu

theorem exec (h : Sound 0 0 s) {i : Instr} {s' : State} (hi : Machine.exec i s = .next s') : Sound 0 0 s' := by
  rcases exec_next hi with ⟨f, hf, rfl⟩ | ⟨f, c, hf, hc, hm, rfl⟩ | ⟨f, hf, rfl⟩
  · exact h.takeOrder hf
  · exact h.messageEffect hf hc hm
  · exact h.event hf

/-- The ranges and the agreement of sessions and claims are kept by every step. -/
theorem step (h : Sound 0 0 s) {s' : State} (hs : Machine.step s = .next s') : Sound 0 0 s' :=
  step_keeps (P := Sound 0 0) (fun _ _ h => { h with }) (fun _ _ _ hi h => h.exec hi) (fun _ hd h => h.tick hd) hs h

end Sound
end Sys2Proof.Machine

open Sys2Proof Sys2Proof.Machine

/-- Settles O57: the ranges and the agreement of sessions and claims are one predicate, which every step keeps. -/
theorem stepKeepsBounds : Obligations.StepKeepsBounds :=
  fun s t hb hs ht => ((sound_iff t).mp (((sound_iff s).mpr ⟨hb, hs⟩).step ht)).1

/-- Settles O59, with the same predicate as O57. -/
theorem stepKeepsSessions : Obligations.StepKeepsSessions :=
  fun s t hb hs ht => ((sound_iff t).mp (((sound_iff s).mpr ⟨hb, hs⟩).step ht)).2

end

section
/-! The invariant of O60, which also describes the states between the parts of a step: what each write keeps of it. -/

namespace Sys2Proof.Machine

/-! ### The predicate -/

/-- What stands open between the parts of a step: cabinets whose link has left UP while grants stand, cabinets whose
modules are not yet those of their link, bays whose setpoint may be above the grant or above what the bonded modules
carry, cabinets whose isolated marker is not yet that of the link, and the two bounds on the sum of the setpoints. -/
structure Waiver where
  gone      : Nat → Prop
  modules   : Nat → Prop
  granted   : Nat → Prop
  carried   : Nat → Prop
  isolated  : Nat → Prop
  available : Prop
  stop      : Prop

/-- Nothing stands open. -/
def Waiver.none : Waiver :=
  { gone := fun _ => False, modules := fun _ => False, granted := fun _ => False, carried := fun _ => False
    isolated := fun _ => False, available := False, stop := False }

/-- What a grant says of its own session (R24). -/
structure Session.Funded (x : Session) : Prop where
  power  : PowerRange x.plan.power
  grant  : x.grant = 0 ∨ (20 ≤ x.grant ∧ x.grant ≤ 1200)
  served : x.grant ≠ 0 → x.state ≠ .vacant ∧ x.state ≠ .identifying ∧ x.holds.any = false

/-- The sum of the setpoints, each counted up to its bay's grant: what a shed brings down before the setpoints follow
the grants. -/
def clippedSum (s : State) : Nat := (allBays.map fun b => min (s.power b).commanded (s.session b).grant).sum

/-- The invariant of O60, apart from what `w` leaves open. -/
structure Powered (w : Waiver) (s : State) : Prop where
  defaultPlan : PowerRange s.plans.defaultPlan.power
  entries     : ∀ e, PowerRange (s.entry e).plan.power
  sessions    : ∀ b, (s.session b).Funded
  snapshot    : ∀ p, s.alloc.snapshot = some p → ∀ b, PowerRange (p.bay b).power
  linked      : ∀ b, (s.session b).grant ≠ 0 → (s.link (cabOf b)).state = .up ∨ w.gone (cabOf b)
  listed      : ∀ b, (s.session b).grant ≠ 0 → b ∈ s.alloc.lastOrder
  order       : s.alloc.lastOrder.Nodup ∧ ∀ b ∈ s.alloc.lastOrder, validBay b = true
  granted     : ∀ b, (s.power b).commanded ≤ (s.session b).grant ∨ w.granted b
  carried     : ∀ b, (s.power b).commanded ≤ 300 * bonded s b ∨ w.carried b
  modules     : ∀ c m, ((s.link c).state = .up ∧ (s.link c).adopted = true) ∨ (s.module c m).state.outOfService ∨
                  w.modules c
  isolated    : ∀ c, ((s.cabFaults c).isolated = true ↔ (s.link c).state = .isolated) ∨ w.isolated c
  contactors  : ∀ c m, (s.module c m).contactor.isSome = true →
                  (s.module c m).state = .closing ∨ (s.module c m).state = .opening
  available   : clippedSum s ≤ s.env.available ∨ w.available
  stop        : s.faults.stopMinute.isSome = true → clippedSum s = 0 ∨ w.stop

/-! ### Sums over the bays -/

theorem bays_sum_mono {f g : Nat → Nat} (h : ∀ b, f b ≤ g b) : (allBays.map f).sum ≤ (allBays.map g).sum :=
  List.sum_le_sum fun b _ => h b

theorem bays_sum_eq_zero {f : Nat → Nat} (h : ∀ b, f b = 0) : (allBays.map f).sum = 0 := by
  rw [List.sum_eq_zero_iff]
  rintro _ hx
  obtain ⟨b, -, rfl⟩ := List.mem_map.mp hx
  exact h b

theorem clippedSum_le_commandedSum (s : State) : clippedSum s ≤ commandedSum s :=
  bays_sum_mono fun _ => Nat.min_le_left ..

theorem clippedSum_eq {s : State} (h : ∀ b, (s.power b).commanded ≤ (s.session b).grant) :
    clippedSum s = commandedSum s :=
  congrArg List.sum (List.map_congr_left fun b _ => Nat.min_eq_left (h b))

/-- With nothing open between the parts of a step, the predicate is the invariant of O60. -/
theorem powered_iff (s : State) : Powered .none s ↔ PowerInv s where
  mp h := by
    have hg : ∀ b, (s.power b).commanded ≤ (s.session b).grant := fun b => (h.granted b).resolve_right id
    have hs := clippedSum_eq hg
    exact {
      plans := ⟨h.defaultPlan, h.entries, fun b => (h.sessions b).power, h.snapshot⟩
      grant := fun b => (h.sessions b).grant
      served := fun b hb => by
        obtain ⟨hv, hi, hh⟩ := (h.sessions b).served hb
        exact ⟨hv, hi, hh, (h.linked b hb).resolve_right id, h.listed b hb⟩
      order := h.order, granted := hg, contactors := h.contactors
      carried := fun b => (h.carried b).resolve_right id
      modules := fun c m => (h.modules c m).imp_right fun hm => hm.resolve_right id
      isolated := fun c => (h.isolated c).resolve_right id
      available := hs ▸ h.available.resolve_right id
      stop := fun ht => hs ▸ (h.stop ht).resolve_right id }
  mpr h := by
    have hs := clippedSum_eq h.granted
    obtain ⟨hd, he, hp, hn⟩ := h.plans
    exact {
      defaultPlan := hd, entries := he, snapshot := hn, order := h.order, contactors := h.contactors
      sessions := fun b => ⟨hp b, h.grant b, fun hb => by
        obtain ⟨hv, hi, hh, -⟩ := h.served b hb
        exact ⟨hv, hi, hh⟩⟩
      linked := fun b hb => .inl (h.served b hb).2.2.2.1
      listed := fun b hb => (h.served b hb).2.2.2.2
      granted := fun b => .inl (h.granted b)
      carried := fun b => .inl (h.carried b)
      modules := fun c m => (h.modules c m).imp_right .inl
      isolated := fun c => .inl (h.isolated c)
      available := .inl (hs ▸ h.available)
      stop := fun ht => .inl (hs ▸ h.stop ht) }

/-! ### Bonded modules -/

/-- A bay has at least as many bonded modules where each that was bonded to it still is. -/
theorem bonded_mono {s t : State} {b : Nat}
    (h : ∀ m, (s.module (cabOf b) m).state = .bonded → (s.module (cabOf b) m).bay = some b →
      (t.module (cabOf b) m).state = .bonded ∧ (t.module (cabOf b) m).bay = some b) : bonded s b ≤ bonded t b := by
  refine (List.monotone_filter_right allModules fun m hm => ?_).length_le
  simp only [Bool.and_eq_true, decide_eq_true_eq] at hm ⊢
  exact h m hm.1 hm.2

/-- A bay of a cabinet whose modules are out of service has no bonded module. -/
theorem bonded_zero {s : State} {b : Nat} (h : ∀ m, (s.module (cabOf b) m).state.outOfService) : bonded s b = 0 := by
  unfold bonded modulesOf
  rw [List.length_eq_zero_iff, List.filter_eq_nil_iff]
  intro m _ hm
  simp only [Bool.and_eq_true, decide_eq_true_eq] at hm
  rcases h m with e | e | e <;> simp [e] at hm

/-- One module of different state takes away one bonded module of a bay at most. -/
theorem bonded_putModule (c m : Nat) (x : Module) (s : State) (b : Nat) :
    bonded s b ≤ bonded (putModule c m x s) b + 1 := by
  have hn : (modulesOf s b .bonded).Nodup := List.Nodup.filter _ (by decide)
  have hsub : modulesOf s b .bonded ⊆ m :: modulesOf (putModule c m x s) b .bonded := by
    intro k hk
    obtain ⟨hv, hs, hb⟩ := mem_modulesOf.mp hk
    rcases module_putModule_cases c m (cabOf b) k x s with e | ⟨-, rfl, -⟩
    · exact List.mem_cons_of_mem _ (mem_modulesOf.mpr ⟨hv, by rw [e]; exact hs, by rw [e]; exact hb⟩)
    · exact List.mem_cons_self
  exact (hn.subperm hsub).length_le

namespace Powered

variable {w : Waiver} {s : State}

/-! ### Writes that no power depends on -/

theorem grant_le (h : Powered w s) (b : Nat) : (s.session b).grant ≤ 1200 := by
  have := (h.sessions b).grant
  omega

theorem putOrder (h : Powered w s) {o : OrderLink} : Powered w { s with order := o } := { h with }

theorem putLine (h : Powered w s) {l : Nat} {x : Line} : Powered w (putLine l x s) := { h with }

theorem putBondList (h : Powered w s) {c : Nat} {l : List BondEntry} : Powered w (putBondList c l s) := { h with }

theorem putRaiseList (h : Powered w s) {l : List Nat} : Powered w (putRaiseList l s) := { h with }

/-- The allocator with the last order kept and a snapshot that has the ranges. -/
theorem putAlloc (h : Powered w s) {a : Allocator} (ho : a.lastOrder = s.alloc.lastOrder)
    (hp : ∀ p, a.snapshot = some p → ∀ b, PowerRange (p.bay b).power) : Powered w { s with alloc := a } :=
  { h with
    snapshot := hp
    listed := fun b hb => ho.symm ▸ h.listed b hb
    order := show a.lastOrder.Nodup ∧ ∀ b ∈ a.lastOrder, validBay b = true from ho.symm ▸ h.order }

theorem putEnv (h : Powered w s) {e : Envelope} (ha : e.available = s.env.available) : Powered w { s with env := e } :=
  { h with available := show clippedSum s ≤ e.available ∨ w.available from ha.symm ▸ h.available }

theorem putEntry (h : Powered w s) {e : Nat} {x : PlanEntry} (hx : PowerRange x.plan.power) :
    Powered w (putEntry e x s) :=
  { h with entries := fun j => by rw [entry_putEntry]; split; exacts [hx, h.entries j] }

/-- A cabinet's record with the isolated marker kept. -/
theorem putCabFaults (h : Powered w s) {c : Nat} {x : CabinetFaults} (hi : x.isolated = (s.cabFaults c).isolated) :
    Powered w (putCabFaults c x s) :=
  { h with
    isolated := fun j => by
      rw [cabFaults_putCabFaults]
      split
      · next hj => rw [hi, hj.1]; exact h.isolated j
      · exact h.isolated j }

/-! ### Sessions -/

theorem clippedSum_congr {s t : State} (hp : ∀ b, (t.power b).commanded = (s.power b).commanded)
    (hg : ∀ b, (t.session b).grant = (s.session b).grant) : clippedSum t = clippedSum s :=
  congrArg List.sum (List.map_congr_left fun b _ => by rw [hp, hg])

/-- A session that keeps its grant. -/
theorem putSession (h : Powered w s) {b : Nat} {x : Session} (hx : x.Funded) (hg : x.grant = (s.session b).grant) :
    Powered w (putSession b x s) := by
  have hk : ∀ j, ((Machine.putSession b x s).session j).grant = (s.session j).grant := fun j => by
    rw [session_putSession]
    split
    · next hj => rw [hg, hj.1]
    · rfl
  have hs : clippedSum (Machine.putSession b x s) = clippedSum s := clippedSum_congr (fun _ => rfl) hk
  exact { h with
    sessions := fun j => by rw [session_putSession]; split; exacts [hx, h.sessions j]
    linked := fun j hj => h.linked j (hk j ▸ hj)
    listed := fun j hj => h.listed j (hk j ▸ hj)
    granted := fun j => by rw [hk]; exact h.granted j
    available := by rw [hs]; exact h.available
    stop := fun ht => by rw [hs]; exact h.stop ht }

end Powered
end Sys2Proof.Machine
end

section
/-! The bond controller's own operations and the invariant of O60: setpoints, raises, modules, links. -/

namespace Sys2Proof.Machine

/-- A sum in which one item has changed. -/
theorem sum_update_le {l : List Nat} (hl : l.Nodup) {f g : Nat → Nat} {b : Nat} (hfg : ∀ j, j ≠ b → g j = f j)
    (hb : b ∈ l ∨ f b ≤ g b) : (l.map g).sum + f b ≤ (l.map f).sum + g b := by
  induction l with
  | nil => simpa using hb
  | cons a l ih =>
    obtain ⟨ha, hn⟩ := List.nodup_cons.mp hl
    simp only [List.map_cons, List.sum_cons]
    by_cases hab : a = b
    · subst hab
      have : l.map g = l.map f := List.map_congr_left fun j hj => hfg j (by rintro rfl; exact ha hj)
      rw [this]
      omega
    · have := ih hn (hb.imp_left fun h => (List.mem_cons.mp h).resolve_left fun e => hab e.symm)
      rw [hfg a hab]
      omega

/-- The site exposure counts at least the setpoints (section 5.2). -/
theorem commandedSum_le_siteExposure (s : State) : commandedSum s ≤ siteExposure s :=
  Nat.le_trans (bays_sum_mono fun _ => Nat.le_max_left ..) (Nat.le_add_right ..)

/-- A hand-over leaves the state and the adoption of a link. -/
theorem Link.hand_adopted (l : Link) (m : CabMsg) : (l.hand m).adopted = l.adopted := by rw [l.hand_kept m]

namespace Powered

variable {w : Waiver} {s : State}

/-! ### Links -/

/-- A link that keeps its state and its adoption. -/
theorem putLink (h : Powered w s) {c : Nat} {x : Link} (hs : x.state = (s.link c).state)
    (ha : (s.link c).adopted = true → x.adopted = true) : Powered w (putLink c x s) := by
  have hst : ∀ j, ((Machine.putLink c x s).link j).state = (s.link j).state ∧
      ((s.link j).adopted = true → ((Machine.putLink c x s).link j).adopted = true) := fun j => by
    rw [link_putLink]
    split
    · next hj => exact hj.1 ▸ ⟨hs, ha⟩
    · exact ⟨rfl, id⟩
  exact { h with
    linked := fun b hb => by rw [(hst _).1]; exact h.linked b hb
    modules := fun d m => by rw [(hst d).1]; exact (h.modules d m).imp_left fun hu => ⟨hu.1, (hst d).2 hu.2⟩
    isolated := fun d => by rw [(hst d).1]; exact h.isolated d }

theorem putLinkBay (h : Powered w s) {b : Nat} {x : LinkBay} : Powered w (putLinkBay b x s) := h.putLink rfl id

theorem sendCab (h : Powered w s) {c : Nat} {m : CabMsg} : Powered w (sendCab c m s) :=
  h.putLink (Link.hand_state ..) fun h => (Link.hand_adopted ..).trans h

theorem sendIfUp (h : Powered w s) {c : Nat} {m : CabMsg} : Powered w (sendIfUp c m s) := by
  unfold Machine.sendIfUp
  split
  · exact h.sendCab
  · exact h

/-! ### Setpoints -/

/-- The power record of a bay with the setpoint kept. -/
theorem putPower (h : Powered w s) {b : Nat} {x : BayPower} (hx : x.commanded = (s.power b).commanded) :
    Powered w (putPower b x s) := by
  have hk : ∀ j, ((Machine.putPower b x s).power j).commanded = (s.power j).commanded := fun j => by
    rw [power_putPower]
    split
    · next hj => rw [hx, hj.1]
    · rfl
  have hs : clippedSum (Machine.putPower b x s) = clippedSum s := clippedSum_congr hk fun _ => rfl
  exact { h with
    granted := fun j => by rw [hk]; exact h.granted j
    carried := fun j => by rw [hk]; exact h.carried j
    available := by rw [hs]; exact h.available
    stop := fun ht => by rw [hs]; exact h.stop ht }

/-- A setpoint that does not rise. -/
theorem lowerSetpoint (h : Powered w s) {b : Nat} {x : BayPower} (hx : x.commanded ≤ (s.power b).commanded) :
    Powered w (Machine.putPower b x s) := by
  have hk : ∀ j, ((Machine.putPower b x s).power j).commanded ≤ (s.power j).commanded := fun j => by
    rw [power_putPower]
    split
    · next hj => exact hj.1 ▸ hx
    · exact Nat.le_refl _
  have hs : clippedSum (Machine.putPower b x s) ≤ clippedSum s := bays_sum_mono fun j => by
    have := hk j
    show min ((Machine.putPower b x s).power j).commanded (s.session j).grant ≤ _
    omega
  exact { h with
    granted := fun j => (h.granted j).imp_left (Nat.le_trans (hk j))
    carried := fun j => (h.carried j).imp_left (Nat.le_trans (hk j))
    available := h.available.imp_left (Nat.le_trans hs)
    stop := fun ht => (h.stop ht).imp_left fun e => Nat.le_zero.mp (Nat.le_trans hs (Nat.le_of_eq e)) }

/-- A setpoint raised within the grant, the bonded modules and the available power. -/
theorem raiseSetpoint (h : Powered w s) {b v : Nat} (hc : (s.power b).commanded ≤ v) (hg : v ≤ (s.session b).grant)
    (hm : v ≤ 300 * bonded s b) (ha : v + commandedSum s ≤ s.env.available + (s.power b).commanded)
    (hs : s.faults.stopMinute.isSome = false) :
    Powered w (Machine.putPower b { s.power b with commanded := v } s) := by
  have hk : ∀ j, ((Machine.putPower b { s.power b with commanded := v } s).power j).commanded =
      if j = b ∧ 1 ≤ b ∧ b ≤ 48 then v else (s.power j).commanded := fun j => by
    rw [power_putPower]
    simp only [eq_comm (a := b)]
    split <;> rfl
  have hsum : commandedSum (Machine.putPower b { s.power b with commanded := v } s) + (s.power b).commanded ≤
      commandedSum s + v := by
    refine Nat.le_trans (sum_update_le (f := fun j => (s.power j).commanded) (b := b)
      (g := fun j => ((Machine.putPower b { s.power b with commanded := v } s).power j).commanded)
      allBays_nodup (fun j hj => ?_) (.inr ?_)) (Nat.add_le_add_left ?_ _) <;> dsimp only
    · rw [hk, if_neg fun e => hj e.1]
    · rw [hk]; split <;> omega
    · rw [hk]; split <;> omega
  have hav : clippedSum (Machine.putPower b { s.power b with commanded := v } s) ≤ s.env.available := by
    have := clippedSum_le_commandedSum (Machine.putPower b { s.power b with commanded := v } s)
    omega
  exact { h with
    granted := fun j => by
      rw [hk]
      split
      · next e => exact .inl (e.1 ▸ hg)
      · exact h.granted j
    carried := fun j => by
      rw [hk]
      split
      · next e => exact .inl (e.1 ▸ hm)
      · exact h.carried j
    available := .inl hav
    stop := fun ht => absurd (hs.symm.trans ht) (by decide) }

end Powered

theorem sendIfUp_power (c : Nat) (m : CabMsg) (s : State) (b : Nat) : (sendIfUp c m s).power b = s.power b := by
  unfold sendIfUp
  split <;> rfl

/-- A reduction sets the setpoint of its bay (R106). -/
theorem reduce_commanded {b v : Nat} {s : State} (hb : validBay b = true) : ((reduce b v s).power b).commanded = v := by
  have hv := validBay_iff.mp hb
  unfold reduce sendSetpoint
  dsimp only
  rw [power_putPower, if_pos ⟨rfl, hv⟩, sendIfUp_power, power_putPower, if_pos ⟨rfl, hv⟩]

namespace Powered

variable {w : Waiver} {s : State}

theorem reduce (h : Powered w s) {b v : Nat} (hv : v ≤ (s.power b).commanded) : Powered w (reduce b v s) :=
  (sendIfUp (h.lowerSetpoint (x := { s.power b with commanded := v }) hv)).putPower rfl

theorem examineFrom {l : List Nat} (hs : s.faults.stopMinute.isSome = false) (h : Powered w s) :
    Powered w (examineFrom l s) := by
  induction l generalizing s with
  | nil => exact h.putRaiseList
  | cons b rest ih =>
    unfold Machine.examineFrom
    dsimp only
    split
    · exact ih hs h
    · split
      · exact h.putRaiseList
      · split
        · exact h.putRaiseList
        · next hy =>
          have hl := raiseOf_le s b (by omega)
          have hg : raiseLimit s b ≤ (s.session b).grant := Nat.min_le_left ..
          have hm : raiseLimit s b ≤ 300 * bonded s b := Nat.min_le_right ..
          have ha := raiseOf_le_available s b (by omega)
          have he := commandedSum_le_siteExposure s
          have hr : Powered w (sendSetpoint b ((s.power b).commanded + (raiseOf s b).toNat) s) :=
            sendIfUp (h.raiseSetpoint (by omega) (by omega) (by omega) (by omega) hs)
          split
          · exact ih (by rw [(sendSetpoint_ripple ..).faults]; exact hs) hr
          · exact hr.putRaiseList

theorem examineRaises (h : Powered w s) : Powered w (examineRaises s) := by
  unfold Machine.examineRaises
  split
  · exact h
  · next hs => exact examineFrom (by simpa using hs) h

/-! ### Passes and notices -/

theorem snapBays (h : Powered w s) (b : Nat) : PowerRange ((takeSnapshot s).bay b).power :=
  get1_tabulate_forall (p := fun x : SnapBay => PowerRange x.power) (.inl rfl) (fun b => (h.sessions b).power) b

theorem startPeriod (h : Powered w s) : Powered w (startPeriod s) := h.putAlloc rfl h.snapshot

theorem startPass (h : Powered w s) : Powered w (startPass s) :=
  h.putAlloc rfl (by rintro _ ⟨⟩; exact h.snapBays)

theorem requestPass (h : Powered w s) : Powered w (requestPass s) := by
  rcases requestPass_cases s with ⟨-, e⟩ | ⟨-, -, e⟩ | ⟨-, -, e⟩ <;> rw [e]
  · exact h
  · exact h.putAlloc rfl h.snapshot
  · exact h.startPass

theorem markStale (h : Powered w s) : Powered w (markStale s) := by
  unfold Machine.markStale
  split
  · exact h.putAlloc rfl h.snapshot
  · exact h

theorem becomeIdle (h : Powered w s) : Powered w (becomeIdle s) := h.putAlloc rfl nofun

theorem notify (h : Powered w s) {n : NoticeKind} {body : List Byte} : Powered w (notify n body s) := by
  rw [notify_eq]; exact h.putOrder

theorem each {l : List Nat} {f : Nat → State → State} (hf : ∀ i s, Powered w s → Powered w (f i s)) (h : Powered w s) :
    Powered w (forEach l f s) :=
  forEach_keeps (fun i _ => hf i) h

end Powered
end Sys2Proof.Machine
end

section
/-! Modules, lowered grants and the invariant of O60. -/

namespace Sys2Proof.Machine

theorem module_of_ripple {s t : State} (h : Ripple s t) (c m : Nat) : t.module c m = s.module c m := by
  unfold State.module; rw [h.modules]

theorem bonded_of_ripple {s t : State} (h : Ripple s t) (b : Nat) : bonded t b = bonded s b := by
  unfold bonded modulesOf
  simp only [module_of_ripple h]

theorem power_out {s : State} {b : Nat} (h : ¬ validBay b = true) : s.power b = BayPower.reset := by
  rw [validBay_iff] at h
  exact get1_out _ _ h

theorem sendIfUp_session (c : Nat) (m : CabMsg) (s : State) (b : Nat) : (sendIfUp c m s).session b = s.session b := by
  unfold sendIfUp
  split <;> rfl

theorem reduce_session (b v : Nat) (s : State) (j : Nat) : (reduce b v s).session j = s.session j := by
  unfold reduce sendSetpoint
  exact sendIfUp_session ..

/-- A set with a reason in it holds its session. -/
theorem Holds.any_of_has {h : Holds} {r : HoldReason} (hr : h.has r = true) : h.any = true := by
  cases r <;> simp_all [Holds.has, Holds.any]

/-- More bays' setpoints may stand above their grants. -/
def Waiver.above (w : Waiver) (l : List Nat) : Waiver := { w with granted := fun b => b ∈ l ∨ w.granted b }

namespace Powered

variable {w : Waiver} {s : State}

/-! ### Modules -/

/-- A module that is in service belongs to a cabinet that is UP and adopted. -/
theorem inService (h : Powered w s) {c m : Nat} (hs : ¬ (s.module c m).state.outOfService) :
    ((s.link c).state = .up ∧ (s.link c).adopted = true) ∨ w.modules c :=
  (h.modules c m).imp_right fun hm => hm.resolve_left hs

/-- A module of other state and bay, where the bay it was bonded to can do without it. -/
theorem putModule (h : Powered w s) {c m : Nat} {x : Module}
    (ht : x.contactor.isSome = true → x.state = .closing ∨ x.state = .opening)
    (hm : ((s.link c).state = .up ∧ (s.link c).adopted = true) ∨ x.state.outOfService ∨ w.modules c)
    (hb : ∀ b, cabOf b = c → (s.module c m).state = .bonded → (s.module c m).bay = some b →
      x.state = .bonded ∧ x.bay = some b ∨ (s.power b).commanded + 300 ≤ 300 * bonded s b ∨ w.carried b) :
    Powered w (putModule c m x s) :=
  { h with
    carried := fun b => by
      have hle := bonded_putModule c m x s b
      refine (h.carried b).elim (fun hc => ?_) .inr
      by_cases hbd : cabOf b = c ∧ (s.module c m).state = .bonded ∧ (s.module c m).bay = some b ∧
          ¬ (x.state = .bonded ∧ x.bay = some b)
      · obtain ⟨hcab, hst, hbay, hx⟩ := hbd
        rcases hb b hcab hst hbay with hx' | hlt | hw
        · exact absurd hx' hx
        · exact .inl (show (s.power b).commanded ≤ _ by omega)
        · exact .inr hw
      · refine .inl (Nat.le_trans hc (Nat.mul_le_mul_left 300 (bonded_mono fun k hst hbay => ?_)))
        rcases module_putModule_cases c m (cabOf b) k x s with e | ⟨rfl, rfl, e⟩
        · rw [e]; exact ⟨hst, hbay⟩
        · rw [e]
          by_contra hx
          exact hbd ⟨rfl, hst, hbay, hx⟩
    modules := fun d k => by
      rcases module_putModule_cases c m d k x s with e | ⟨rfl, rfl, e⟩
      · rw [e]; exact h.modules d k
      · rw [e]; exact hm
    contactors := fun d k => by
      rcases module_putModule_cases c m d k x s with e | ⟨rfl, rfl, e⟩
      · rw [e]; exact h.contactors d k
      · rw [e]; exact ht }

/-- A module that was not bonded, of a cabinet in service. -/
theorem putUnbonded (h : Powered w s) {c m : Nat} {x : Module}
    (ht : x.contactor.isSome = true → x.state = .closing ∨ x.state = .opening)
    (hs : ¬ (s.module c m).state.outOfService) (hn : (s.module c m).state ≠ .bonded) :
      Powered w (Machine.putModule c m x s) :=
  h.putModule ht ((h.inService hs).imp_right .inr) fun _ _ hb => absurd hb hn

theorem serveHead (h : Powered w s) {c : Nat} : Powered w (serveHead c s) := by
  unfold Machine.serveHead
  split
  · exact h
  · split
    · exact h
    · split
      · exact h
      · next m hm =>
        have hf : (s.module c m).state = .free := by simpa using List.find?_some hm
        have hf' : ∀ msg, ((Machine.sendIfUp c msg s).module c m).state = .free := fun msg => by
          rw [module_of_ripple (sendIfUp_ripple ..)]; exact hf
        refine (putUnbonded h.sendIfUp (fun _ => .inl rfl) ?_ ?_).putBondList
        · rw [hf']; simp [ModuleState.outOfService]
        · rw [hf']; simp

theorem serveBonds (h : Powered w s) {c : Nat} : Powered w (serveBonds c s) := h.serveHead.serveHead.serveHead.serveHead

/-! ### Lowered grants -/

theorem settled (h : Powered (w.above []) s) : Powered w s :=
  { h with granted := fun b => (h.granted b).imp_right fun hw => hw.resolve_left List.not_mem_nil }

/-- One bay's setpoint has come down to its grant. -/
theorem settle {b : Nat} {l : List Nat} (h : Powered (w.above (b :: l)) s)
    (hb : (s.power b).commanded ≤ (s.session b).grant ∨ w.granted b) : Powered (w.above l) s :=
  { h with
    granted := fun j => by
      rcases h.granted j with hj | hj | hj
      · exact .inl hj
      · rcases List.mem_cons.mp hj with rfl | hj
        · exact hb.imp_right .inr
        · exact .inr (.inl hj)
      · exact .inr (.inr hj) }

/-- A setpoint above its grant comes down to it. -/
theorem lowerToGrant {b : Nat} {l : List Nat} (h : Powered (w.above (b :: l)) s) :
    Powered (w.above l) (if (s.session b).grant < (s.power b).commanded then Machine.reduce b (s.session b).grant s
      else s) := by
  split
  · next hlt =>
    have hv : validBay b = true := by
      by_contra hv
      rw [power_out hv] at hlt
      cases hlt
    refine (h.reduce (Nat.le_of_lt hlt)).settle (.inl ?_)
    rw [reduce_commanded hv, reduce_session]
  · next hle => exact h.settle (.inl (Nat.le_of_not_lt hle))

/-- The bond controller is given a lowered grant (R110). -/
theorem lowerGrant {b : Nat} {l : List Nat} (h : Powered (w.above (b :: l)) s)
    (hb : (s.link (cabOf b)).state = .up ∨ (s.power b).commanded ≤ (s.session b).grant ∨ w.granted b) :
    Powered (w.above l) (lowerGrant b s) := by
  unfold Machine.lowerGrant
  split
  · exact (h.lowerToGrant.putRaiseList.putBondList).examineRaises
  · next hn => exact h.settle (hb.resolve_left hn)

/-- A session whose grant is taken away or made smaller, before the setpoint follows. -/
theorem lowerSession (h : Powered w s) {b : Nat} {x : Session} (hx : x.Funded) (hg : x.grant ≤ (s.session b).grant) :
    Powered (w.above [b]) (Machine.putSession b x s) := by
  have hk : ∀ j, ((Machine.putSession b x s).session j).grant ≤ (s.session j).grant := fun j => by
    rw [session_putSession]
    split
    · next hj => exact hj.1 ▸ hg
    · exact Nat.le_refl _
  have hs : clippedSum (Machine.putSession b x s) ≤ clippedSum s := bays_sum_mono fun j => by
    have := hk j
    show min (s.power j).commanded _ ≤ _
    omega
  have hn : ∀ j, ((Machine.putSession b x s).session j).grant ≠ 0 → (s.session j).grant ≠ 0 := fun j hj => by
    have := hk j
    omega
  exact { h with
    sessions := fun j => by rw [session_putSession]; split; exacts [hx, h.sessions j]
    linked := fun j hj => h.linked j (hn j hj)
    listed := fun j hj => h.listed j (hn j hj)
    granted := fun j => by
      rw [session_putSession]
      split
      · next hj => exact .inr (.inl (hj.1 ▸ List.mem_cons_self))
      · exact (h.granted j).imp_right .inr
    available := h.available.imp_left (Nat.le_trans hs)
    stop := fun ht => (h.stop ht).imp_left fun e => Nat.le_zero.mp (Nat.le_trans hs (Nat.le_of_eq e)) }

/-- A session's grant is withdrawn, and the bond controller told (R23, R110). A bay of a cabinet whose link has left UP
keeps its setpoint until the bond controller is told of that. -/
theorem withdraw (h : Powered w s) (hw : ∀ b, w.gone (cabOf b) → w.granted b) {b : Nat} {x : Session} (hx : x.Funded)
    (h0 : x.grant = 0) : Powered w (Machine.lowerGrant b (Machine.putSession b x s)) := by
  have h1 := h.lowerSession (b := b) hx (h0 ▸ Nat.zero_le _)
  refine (h1.lowerGrant ?_).settled
  by_cases hg : (s.session b).grant = 0
  · rcases h.granted b with hc | hc
    · exact .inr (.inl (show (s.power b).commanded ≤ _ by omega))
    · exact .inr (.inr hc)
  · exact (h.linked b hg).imp_right fun hgone => .inr (hw b hgone)

theorem withdrawGrant (h : Powered w s) (hw : ∀ b, w.gone (cabOf b) → w.granted b) {b : Nat} :
    Powered w (withdrawGrant b s) :=
  h.withdraw hw ⟨(h.sessions b).power, .inl rfl, fun hn => absurd rfl hn⟩ rfl

theorem setHold (h : Powered w s) (hw : ∀ b, w.gone (cabOf b) → w.granted b) {r : HoldReason} {b : Nat} :
    Powered w (setHold r b s) := by
  unfold Machine.setHold
  dsimp only
  split
  · next ho =>
    have hv : validBay b = true := by
      by_contra hv
      rw [session_out hv] at ho
      cases ho
    have hx := h.sessions b
    split
    · next ha =>
      have h0 : (s.session b).grant = 0 := by
        by_contra hg
        rw [(hx.served hg).2.2] at ha
        cases ha
      refine requestPass (h.putSession ?_ rfl)
      exact ⟨hx.power, hx.grant, fun hn => absurd h0 hn⟩
    · refine requestPass ?_
      unfold Machine.withdrawGrant
      rw [session_putSession_self _ _ _ hv, putSession_putSession]
      exact h.withdraw hw ⟨hx.power, .inl rfl, fun hn => absurd rfl hn⟩ rfl
  · exact h

theorem clearHold (h : Powered w s) {r : HoldReason} {b : Nat} : Powered w (clearHold r b s) := by
  rcases clearHold_cases r b s with ⟨-, hr, e⟩ | ⟨-, e⟩ <;> rw [e]
  · have hx := h.sessions b
    refine requestPass (h.putSession ?_ rfl)
    refine ⟨hx.power, hx.grant, fun hn => ?_⟩
    have ha : (s.session b).holds.any = false := (hx.served hn).2.2
    have := Holds.any_of_has hr
    rw [ha] at this
    cases this
  · exact h

end Powered
end Sys2Proof.Machine
end

section
/-! Releases, sheds and the available power, and the invariant of O60. -/

namespace Sys2Proof.Machine

/-- The new grant of a bay on the walk, whose setpoint is within its grant: no higher than the setpoint, and 0 where the
deficit is not met (R98). -/
theorem shedGrant_spec {g c : Nat} {d : Int} (h : c ≤ g) :
    shedGrant g c d ≤ c ∧ (shedGrant g c d = 0 ∨ d - ((c : Int) - shedGrant g c d) ≤ 0) := by
  unfold shedGrant
  dsimp only
  split <;> omega

namespace Powered

variable {w : Waiver} {s : State}

/-! ### Releases -/

/-- A RAMPING or BONDED module has no contactor timer. -/
theorem noContactor (h : Powered w s) {c m : Nat}
    (hs : (s.module c m).state = .ramping ∨ (s.module c m).state = .bonded) :
    ¬ (s.module c m).contactor.isSome = true := fun hc => by
  have := h.contactors c m hc
  rcases hs with e | e <;> simp [e] at this

theorem cancelRamps (h : Powered w s) {b : Nat} : Powered w (cancelRamps b s) := by
  refine .each (fun m s h => ?_) h
  dsimp only
  split
  · next hm =>
    refine h.putUnbonded (fun hc => absurd hc (h.noContactor (.inl hm.1))) ?_ ?_
    · rw [hm.1]; simp [ModuleState.outOfService]
    · rw [hm.1]; simp
  · exact h

theorem releaseExcess (h : Powered .none s) {b : Nat} : Powered .none (releaseExcess b s) := by
  refine .each (fun m s h => ?_) h
  dsimp only
  split
  · next hm =>
    obtain ⟨hst, hbay, hlt⟩ := hm
    refine h.putModule (fun hc => absurd hc (h.noContactor (.inr hst))) ((h.inService (m := m) ?_).imp_right .inr)
      fun b' _ _ hb' => .inr (.inl ?_)
    · rw [hst]; simp [ModuleState.outOfService]
    · obtain rfl : b' = b := Option.some.inj (hb'.symm.trans hbay)
      have hg := (h.granted b').resolve_right id
      have := le_targetCount (s.session b').grant
      omega
  · exact h

theorem releaseTest (h : Powered w s) {b : Nat} : Powered w (releaseTest b s) := by
  have key : ∀ l : List Nat, l.Nodup → ∀ t : State, Powered w t → (∀ m ∈ l, (t.module (cabOf b) m).state = .ramping) →
      Powered w (forEach l (fun m s =>
        Machine.putModule (cabOf b) m { state := .opening, bay := none, contactor := some contactorMs }
          (Machine.sendIfUp (cabOf b) (.release m) s)) t) := by
    intro l hl
    induction l with
    | nil => exact fun t h _ => h
    | cons m l ih =>
      intro t h hr
      obtain ⟨hm, hl⟩ := List.nodup_cons.mp hl
      have hk : ∀ k, (Machine.sendIfUp (cabOf b) (.release m) t).module (cabOf b) k = t.module (cabOf b) k :=
        fun k => module_of_ripple (sendIfUp_ripple ..) _ _
      have hs := hr m List.mem_cons_self
      refine ih hl _ (putUnbonded h.sendIfUp (fun _ => .inr rfl) ?_ ?_) fun k hkl => ?_
      · rw [hk, hs]; simp [ModuleState.outOfService]
      · rw [hk, hs]; simp
      · rcases module_putModule_cases (cabOf b) m (cabOf b) k
          { state := .opening, bay := none, contactor := some contactorMs } (Machine.sendIfUp (cabOf b) (.release m) t)
          with e | ⟨-, rfl, -⟩
        · rw [e, hk]; exact hr k (List.mem_cons_of_mem m hkl)
        · exact absurd hkl hm
  unfold Machine.releaseTest
  split
  · exact key _ (List.Nodup.filter _ (by decide)) s h fun m hm => (mem_modulesOf.mp hm).2.1
  · exact h

theorem rampTest (h : Powered w s) {b : Nat} : Powered w (rampTest b s) := by
  unfold Machine.rampTest
  dsimp only
  split
  · exact h.putPower rfl
  · exact h

theorem takeReported (h : Powered w s) {c : Nat} {reported : Nat → Nat} : Powered w (takeReported c reported s) := by
  have h1 : Powered w (forEach (baysOf c)
      (fun b s => Machine.putPower b { s.power b with reported := reported (posOf b) } s) s) :=
    .each (fun _ _ h => h.putPower rfl) h
  unfold Machine.takeReported
  dsimp only
  split
  · exact (each (fun _ _ h => h.releaseTest) (each (fun _ _ h => h.rampTest) h1)).examineRaises
  · exact h1.examineRaises

/-! ### Grants handed over in turn -/

/-- Each bay of a list is settled in turn. -/
theorem forEach_settle {f : Nat → State → State} {l : List Nat} {Q : State → Prop}
    (hf : ∀ b ∈ l, ∀ r t, Q t → Powered (w.above (b :: r)) t → Powered (w.above r) (f b t) ∧ Q (f b t))
    (hq : Q s) (h : Powered (w.above l) s) : Powered w (forEach l f s) := by
  induction l generalizing s with
  | nil => exact h.settled
  | cons b l ih =>
    obtain ⟨h1, hq1⟩ := hf b List.mem_cons_self l s hq h
    exact ih (fun j hj => hf j (List.mem_cons_of_mem b hj)) hq1 h1

/-! ### Sheds -/

end Powered

/-- A shed on its walk, with `rest` yet to visit: the setpoints up to the grants exceed the target by the deficit at
most, and where the deficit is not met the bays visited have no power left. -/
structure Shedding (w : Waiver) (target : Int) (rest : List Nat) (v : ShedWalk) : Prop where
  powered  : Powered (w.above v.changed) v.state
  up       : ∀ b ∈ v.changed, (v.state.link (cabOf b)).state = .up
  excess   : (clippedSum v.state : Int) - target ≤ v.deficit
  visited  : v.deficit ≤ 0 ∨ ∀ b, b ∉ rest → min (v.state.power b).commanded (v.state.session b).grant = 0
  distinct : rest.Nodup
  valid    : ∀ b ∈ rest, validBay b = true
  unseen   : ∀ b ∈ rest, b ∉ v.changed

namespace Shedding

variable {w : Waiver} {target : Int} {rest : List Nat} {v : ShedWalk}

theorem visit (hg : ∀ b, ¬ w.granted b) (hn : ∀ c, ¬ w.gone c) {b : Nat} (h : Shedding w target (b :: rest) v) :
    Shedding w target rest (v.visit b) := by
  have hv := h.valid b List.mem_cons_self
  obtain ⟨hb, hd⟩ := List.nodup_cons.mp h.distinct
  have hcg : (v.state.power b).commanded ≤ (v.state.session b).grant := by
    rcases h.powered.granted b with hc | hc | hc
    · exact hc
    · exact absurd hc (h.unseen b List.mem_cons_self)
    · exact absurd hc (hg b)
  obtain ⟨hle, hmet⟩ := shedGrant_spec (d := v.deficit) hcg
  have hmin := shedGrant_min (v.state.session b).grant (v.state.power b).commanded v.deficit
  have hx := h.powered.sessions b
  unfold ShedWalk.visit
  dsimp only
  generalize hn' : shedGrant (v.state.session b).grant (v.state.power b).commanded v.deficit = n at *
  have hlt := h.powered.grant_le b
  split
  · next he =>
    have hc : (v.state.power b).commanded = n := by omega
    refine { h with
      distinct := hd, valid := fun j hj => h.valid j (List.mem_cons_of_mem b hj)
      unseen := fun j hj => h.unseen j (List.mem_cons_of_mem b hj), excess := ?_, visited := ?_ }
    · have := h.excess
      dsimp only
      omega
    · rcases hmet with h0 | h0
      · refine h.visited.imp (fun h1 => by dsimp only; omega) fun h1 j hj => ?_
        by_cases hjb : j = b
        · subst hjb
          dsimp only
          omega
        · exact h1 j (by simp [hjb, hj])
      · exact .inl h0
  · next he =>
    have hpos : (v.state.session b).grant ≠ 0 := by omega
    have hfund : ({ v.state.session b with grant := n } : Session).Funded :=
      ⟨hx.power, by dsimp only; omega, fun _ => hx.served hpos⟩
    have hself : ((writeGrant b n v.state).session b).grant = n := by
      unfold writeGrant
      rw [session_putSession_self _ _ _ hv]
    have hoth : ∀ j, j ≠ b → (writeGrant b n v.state).session j = v.state.session j := fun j hj => by
      unfold writeGrant
      rw [session_putSession, if_neg fun e => hj e.1.symm]
    have hsum : clippedSum (writeGrant b n v.state) + (v.state.power b).commanded ≤ clippedSum v.state + n := by
      have := sum_update_le (b := b) (f := fun j => min (v.state.power j).commanded (v.state.session j).grant)
        (g := fun j => min (v.state.power j).commanded ((writeGrant b n v.state).session j).grant)
        allBays_nodup (fun j hj => by rw [hoth j hj]) (.inl (mem_allBays.mpr hv))
      rw [hself, Nat.min_eq_left hcg, Nat.min_eq_right hle] at this
      exact this
    have hup : (v.state.link (cabOf b)).state = .up := (h.powered.linked b hpos).resolve_right (hn _)
    have hlow := h.powered.lowerSession (b := b) hfund (by dsimp only; omega)
    refine ⟨{ hlow with granted := fun j => (hlow.granted j).imp_right fun hj => ?_ }, fun j hj => ?_, ?_, ?_, hd,
      fun j hj => h.valid j (List.mem_cons_of_mem b hj), fun j hj hc => ?_⟩
    · rcases hj with hj | hj | hj
      · exact .inl (List.mem_append_right _ hj)
      · exact .inl (List.mem_append_left _ hj)
      · exact .inr hj
    · rcases List.mem_append.mp hj with hj | hj
      · exact h.up j hj
      · exact List.mem_singleton.mp hj ▸ hup
    · have := h.excess
      dsimp only
      omega
    · rcases hmet with h0 | h0
      · refine h.visited.imp (fun h1 => by dsimp only; omega) fun h1 j hj => ?_
        dsimp only
        by_cases hjb : j = b
        · subst hjb
          rw [hself]
          omega
        · rw [hoth j hjb]
          exact h1 j (by simp [hjb, hj])
      · exact .inl h0
    · rcases List.mem_append.mp hc with hc | hc
      · exact h.unseen j (List.mem_cons_of_mem b hj) hc
      · exact hb (List.mem_singleton.mp hc ▸ hj)

/-- The walk brings the setpoints, up to the grants, to the target or to nothing (R98, R100). -/
theorem walk (hg : ∀ b, ¬ w.granted b) (hn : ∀ c, ¬ w.gone c) (cause : ShedCause) (h : Shedding w target rest v) :
    Powered (w.above (shedWalk cause rest v).changed) (shedWalk cause rest v).state ∧
    (∀ b ∈ (shedWalk cause rest v).changed, ((shedWalk cause rest v).state.link (cabOf b)).state = .up) ∧
    ((clippedSum (shedWalk cause rest v).state : Int) ≤ target ∨ clippedSum (shedWalk cause rest v).state = 0) := by
  induction rest generalizing v with
  | nil =>
    refine ⟨h.powered, h.up, h.visited.imp (fun hd => ?_) fun h0 => ?_⟩
    · have := h.excess
      show (clippedSum v.state : Int) ≤ target
      omega
    · exact bays_sum_eq_zero fun b => h0 b List.not_mem_nil
  | cons b rest ih =>
    unfold shedWalk
    split
    · next hd =>
      have := h.excess
      exact ⟨h.powered, h.up, .inl (by omega)⟩
    · exact ih (h.visit hg hn)

/-- A shed at its start (R97). -/
theorem start {s : State} (h : Powered w s) :
    Shedding w target s.alloc.lastOrder.reverse ⟨s, (commandedSum s : Int) - target, 0, []⟩ where
  powered := { h with granted := fun b => (h.granted b).imp_right .inr }
  up := nofun
  excess := by
    have := clippedSum_le_commandedSum s
    dsimp only
    omega
  visited := .inr fun b hb => by
    have : (s.session b).grant = 0 := by
      by_contra h0
      exact hb (List.mem_reverse.mpr (h.listed b h0))
    dsimp only
    omega
  distinct := List.nodup_reverse.mpr h.order.1
  valid b hb := h.order.2 b (List.mem_reverse.mp hb)
  unseen := nofun

end Shedding
end Sys2Proof.Machine
end

section
/-! Sheds, the available power and publications keep the invariant of O60. -/

namespace Sys2Proof.Machine

theorem link_of_ripple {s t : State} (h : Ripple s t) (c : Nat) : (t.link c).state = (s.link c).state ∧
    (t.link c).adopted = (s.link c).adopted := by
  rw [h.link c]; exact ⟨rfl, rfl⟩

namespace Waiver

/-- The bound by the available power stands open. -/
def unbounded : Waiver := { Waiver.none with available := True }

/-- The rule of a site stop stands open. -/
def unstopped : Waiver := { Waiver.none with stop := True }

end Waiver

namespace Powered

variable {w : Waiver} {s : State}

theorem unbound (h : Powered .none s) : Powered .unbounded s := { h with available := .inr trivial }

theorem bound {l : List Nat} (h : Powered (Waiver.unbounded.above l) s) (hs : clippedSum s ≤ s.env.available) :
    Powered (Waiver.none.above l) s := { h with available := .inl hs }

theorem stopped {l : List Nat} (h : Powered (Waiver.unstopped.above l) s) (hs : clippedSum s = 0) :
    Powered (Waiver.none.above l) s := { h with stop := fun _ => .inl hs }

/-- A shed whose walk settles what stood open (R97 to R100). -/
theorem shedOf (h : Powered w s) (hg : ∀ b, ¬ w.granted b) (hn : ∀ c, ¬ w.gone c) {cause : ShedCause} {target : Int}
    (hc : ∀ t l, Powered (w.above l) t → t.env = s.env → ((clippedSum t : Int) ≤ target ∨ clippedSum t = 0) →
      Powered (Waiver.none.above l) t) : Powered .none (shed cause target s) := by
  obtain ⟨hw, hup, hsum⟩ := (Shedding.start (target := target) h).walk hg hn cause
  have hr : Ripple s _ := shedWalk_ripple cause s.alloc.lastOrder.reverse ⟨s, (commandedSum s : Int) - target, 0, []⟩
  refine (notify (markStale (forEach_settle (Q := fun t => ∀ b ∈ _, (t.link (cabOf b)).state = .up)
    (fun b hb r t hq ht => ⟨ht.lowerGrant (.inl (hq b hb)), fun j hj => ?_⟩) hup (hc _ _ hw hr.env hsum)))).requestPass
  rw [(link_of_ripple (lowerGrant_ripple b t) _).1]
  exact hq j hj

theorem shedWithin (h : Powered .unbounded s) {cause : ShedCause} {target : Int} (ht : target ≤ s.env.available) :
    Powered .none (Machine.shed cause target s) :=
  h.shedOf (fun _ => id) (fun _ => id) fun t l hp he hs => hp.bound (by rw [he]; omega)

theorem shedStop (h : Powered .unstopped s) : Powered .none (Machine.shed .stop 0 s) :=
  h.shedOf (fun _ => id) (fun _ => id) fun t l hp _ hs => hp.stopped (by omega)

theorem handOnAvailable (h : Powered .unbounded s) {old : Nat} : Powered .none (handOnAvailable old s) := by
  have h1 : Powered .unbounded (if s.env.available < old then Machine.markStale s else s) := by
    split
    · exact h.markStale
    · exact h
  have he : (if s.env.available < old then Machine.markStale s else s).env = s.env := by
    split
    · exact (markStale_ripple s).env
    · rfl
  unfold Machine.handOnAvailable
  dsimp only
  generalize (if s.env.available < old then Machine.markStale s else s) = u at *
  have h2 : Powered .none (if s.env.available < commandedSum u then Machine.shed .envelope s.env.available u
      else u) := by
    split
    · exact h1.shedWithin (by rw [he])
    · next hle =>
      have := clippedSum_le_commandedSum u
      exact { h1 with available := .inl (by rw [he]; omega) }
  split
  · exact h2
  · exact h2.requestPass.examineRaises

theorem recompute (h : Powered .none s) : Powered .none (recompute s) :=
  handOnAvailable (s := { s with env := { s.env with available := availableOf s.env } })
    { h.unbound with available := .inr trivial }

theorem recomputeBuilding (h : Powered w s) : Powered w (recomputeBuilding s) := h.putEnv rfl

/-! ### Publications -/

theorem bondPublication (h : Powered (Waiver.none.above (upBays s)) s) : Powered .none (bondPublication s) := by
  have hlinks : (forEach (upBays s) Machine.cancelRamps s).links = s.links :=
    forEach_fields State.links (fun b t => forEach_fields State.links (fun m u => by dsimp only; split <;> rfl) _ t) _ s
  have hup : upBays (forEach (upBays s) Machine.cancelRamps s) = upBays s := by
    exact List.filter_congr fun b _ => by unfold State.link; rw [hlinks]
  have h1 : Powered (Waiver.none.above (upBays s)) (forEach (upBays s) Machine.cancelRamps s) :=
    .each (fun _ _ h => h.cancelRamps) h
  have h2 := forEach_settle (Q := fun _ => True) (fun b _ r t _ ht => ⟨lowerToGrant ht, trivial⟩) trivial
    (l := upBays (forEach (upBays s) Machine.cancelRamps s)) (s := forEach (upBays s) Machine.cancelRamps s)
      (by rw [hup]; exact h1)
  have h4 : ∀ t, Powered Waiver.none t → Powered .none (rebuildBonds t) := fun t h =>
      .each (fun _ _ h => h.putBondList) h
  have h5 : ∀ t, Powered Waiver.none t → Powered .none (rebuildRaises t) := fun t h => h.putRaiseList
  exact examineRaises (each (fun _ _ h => h.serveBonds) (h5 _ (h4 _ (each (fun _ _ h => h.releaseExcess) h2))))

end Powered

/-- What an operation that writes the item of its own number and no other makes of each item of a list. -/
theorem forEach_own {α : Type} {read : State → Nat → α} {f : Nat → State → State} {Q : State → Prop}
    {R : Nat → α → Prop}
    {l : List Nat} (hq : ∀ i s, Q s → Q (f i s)) (own : ∀ i ∈ l, ∀ s, Q s → R i (read (f i s) i))
    (other : ∀ i j s, i ≠ j → read (f i s) j = read s j) {s : State} (h : Q s) {j : Nat} (hj : j ∈ l) :
    R j (read (forEach l f s) j) := by
  have keep : ∀ (l : List Nat) (t : State), j ∉ l → read (forEach l f t) j = read t j := by
    intro l
    induction l with
    | nil => exact fun t _ => rfl
    | cons i l ih =>
      intro t hn
      obtain ⟨hi, hl⟩ : j ≠ i ∧ j ∉ l := by simpa using hn
      exact (ih (f i t) hl).trans (other i j t (Ne.symm hi))
  induction l generalizing s with
  | nil => cases hj
  | cons i l ih =>
    by_cases hjl : j ∈ l
    · exact ih (fun i hi => own i (List.mem_cons_of_mem _ hi)) (hq i s h) hjl
    · obtain rfl : j = i := (List.mem_cons.mp hj).resolve_right hjl
      have := own j List.mem_cons_self s h
      rw [← keep l (f j s) hjl] at this
      exact this

/-- The grants of a publication change nothing but sessions. -/
theorem publishBays_eq (p : Snapshot) (r : PassResult) (s : State) :
    ∃ x, forEach allBays (publishBay p r) s = { s with sessions := x } := by
  refine forEach_keeps (P := fun t => ∃ x, t = { s with sessions := x }) (fun b _ t h => ?_) ⟨_, rfl⟩
  obtain ⟨x, rfl⟩ := h
  unfold publishBay
  dsimp only
  split
  · exact ⟨_, rfl⟩
  · exact ⟨_, rfl⟩

/-- What R94 writes into the session of bay `b`: a grant of 0 where the session is withdrawn, and else that of the
pass. -/
theorem publishBay_funded {p : Snapshot} (hp : ∀ b, PowerRange (p.bay b).power) {b : Nat} (hb : validBay b = true)
    {s : State} (hs : PowerRange (s.session b).plan.power) :
    let x := (publishBay p (passResult p) b s).session b
    x.Funded ∧ (x.grant ≠ 0 → (s.link (cabOf b)).state = .up ∧ b ∈ (passResult p).order) := by
  obtain ⟨hg, ho⟩ := passResult_grant p hp b
  unfold publishBay
  dsimp only
  split
  · rw [session_putSession_self _ _ _ hb]
    exact ⟨⟨hs, .inl rfl, fun h => absurd rfl h⟩, fun h => absurd rfl h⟩
  · next hw =>
    rw [session_putSession_self _ _ _ hb]
    simp only [withdrawn, Bool.or_eq_true, decide_eq_true_eq, not_or, not_not] at hw
    obtain ⟨⟨⟨⟨-, hv⟩, hi⟩, hh⟩, hl⟩ := hw
    refine ⟨⟨hs, hg, fun _ => ⟨hv, hi, by simpa using hh⟩⟩, fun h => ⟨hl, ?_⟩⟩
    by_contra hn
    exact h (ho hn)

namespace Powered

variable {w : Waiver} {s : State}

theorem writePublication (h : Powered .none s) {p : Snapshot} (hp : ∀ b, PowerRange (p.bay b).power) :
    Powered .none (writePublication p (passResult p) s) := by
  have hord := passResult_order p
  have key : ∀ b, validBay b = true →
      ((forEach allBays (publishBay p (passResult p)) s).session b).Funded ∧
      (((forEach allBays (publishBay p (passResult p)) s).session b).grant ≠ 0 →
        (s.link (cabOf b)).state = .up ∧ b ∈ (passResult p).order) := fun b hb => by
    refine forEach_own (read := State.session) (R := fun b x => x.Funded ∧
        (x.grant ≠ 0 → (s.link (cabOf b)).state = .up ∧ b ∈ (passResult p).order))
      (Q := fun t => t.links = s.links ∧ ∀ b, PowerRange (t.session b).plan.power) ?_ ?_ ?_
      ⟨rfl, fun b => (h.sessions b).power⟩ (mem_allBays.mpr hb)
    · rintro b t ⟨hl, ht⟩
      refine ⟨?_, fun j => ?_⟩
      · unfold publishBay; dsimp only; split <;> exact hl
      · unfold publishBay
        dsimp only
        split <;> rw [session_putSession] <;> split
        exacts [ht b, ht j, ht b, ht j]
    · rintro b hb t ⟨hl, ht⟩
      have := publishBay_funded hp (mem_allBays.mp hb) (ht b)
      rw [show t.link (cabOf b) = s.link (cabOf b) by unfold State.link; rw [hl]] at this
      exact this
    · intro i j t hij
      unfold publishBay
      dsimp only
      split <;> rw [session_putSession, if_neg fun e => hij e.1]
  obtain ⟨x, hx⟩ := publishBays_eq p (passResult p) s
  unfold Machine.writePublication
  dsimp only
  rw [hx] at key ⊢
  have hsum : commandedSum s = clippedSum s := (clippedSum_eq fun b => (h.granted b).resolve_right id).symm
  have hle := clippedSum_le_commandedSum
      { s with sessions := x, alloc := { s.alloc with lastOrder := (passResult p).order } }
  have hout : ∀ b, ¬ validBay b = true →
      State.session { s with sessions := x, alloc := { s.alloc with lastOrder := (passResult p).order } } b
        = Session.vacant 0 :=
    fun b hb => session_out hb
  refine bondPublication { h with
    sessions := fun b => ?_, linked := fun b hb => ?_, listed := fun b hb => ?_, order := ⟨hord.nodup, hord.valid⟩
    granted := fun b => ?_, available := ?_, stop := fun ht => ?_ }
  · by_cases hb : validBay b = true
    · exact (key b hb).1
    · rw [hout b hb]
      exact ⟨.inl rfl, .inl rfl, fun h => absurd rfl h⟩
  · by_cases hv : validBay b = true
    · exact .inl ((key b hv).2 hb).1
    · rw [hout b hv] at hb
      exact absurd rfl hb
  · by_cases hv : validBay b = true
    · exact ((key b hv).2 hb).2
    · rw [hout b hv] at hb
      exact absurd rfl hb
  · by_cases hu : (s.link (cabOf b)).state = .up
    · by_cases hv : validBay b = true
      · exact .inr (.inl (List.mem_filter.mpr ⟨mem_allBays.mpr hv, decide_eq_true hu⟩))
      · exact .inl (by rw [show State.power _ b = BayPower.reset from power_out hv]; exact Nat.zero_le _)
    · have hg : (s.session b).grant = 0 := by
        by_contra hg
        exact hu ((h.linked b hg).resolve_right id)
      have hc := (h.granted b).resolve_right id
      exact .inl (show (s.power b).commanded ≤ _ by omega)
  · refine .inl (Nat.le_trans hle ?_)
    exact hsum ▸ h.available.resolve_right id
  · refine .inl (Nat.le_zero.mp (Nat.le_trans hle ?_))
    exact Nat.le_of_eq (hsum.trans ((h.stop ht).resolve_right id))

theorem completePass (h : Powered .none s) : Powered .none (completePass s) := by
  unfold Machine.completePass
  split
  · exact h
  · next p hp =>
    split
    · exact h.becomeIdle
    · split
      · exact h.startPass
      · dsimp only
        split
        · exact h.startPass
        · have h1 : Powered .none (passNotice p (Machine.writePublication p (passResult p) s)) :=
            notify (h.writePublication (h.snapshot p hp))
          unfold publish
          dsimp only
          split
          · exact h1.startPass
          · exact h1.becomeIdle

end Powered
end Sys2Proof.Machine
end

section
/-! Module reports, links that leave UP, and the invariant of O60. -/

namespace Sys2Proof.Machine

/-! ### What stays while a cabinet leaves UP -/

/-- The links' states and the fault unit stand in `t` as in `s`, and no grant is higher. -/
structure Kin (s t : State) : Prop where
  state   : ∀ c, (t.link c).state = (s.link c).state
  adopted : ∀ c, (t.link c).adopted = (s.link c).adopted
  grant   : ∀ b, (t.session b).grant ≤ (s.session b).grant
  faults  : t.faults = s.faults

namespace Kin

theorem refl (s : State) : Kin s s := ⟨fun _ => rfl, fun _ => rfl, fun _ => Nat.le_refl _, rfl⟩

theorem trans {s t u : State} (h : Kin s t) (k : Kin t u) : Kin s u :=
  ⟨fun c => (k.state c).trans (h.state c), fun c => (k.adopted c).trans (h.adopted c),
    fun b => Nat.le_trans (k.grant b) (h.grant b), k.faults.trans h.faults⟩

theorem ofRipple {s t : State} (h : Ripple s t) : Kin s t :=
  ⟨fun c => (link_of_ripple h c).1, fun c => (link_of_ripple h c).2, fun b => (h.session b).2, h.faults⟩

/-- The sessions, the links and the fault unit have not been touched. -/
theorem same {s t : State} (hs : t.sessions = s.sessions) (hl : t.links = s.links) (hf : t.faults = s.faults) :
    Kin s t :=
  ⟨fun c => by unfold State.link; rw [hl], fun c => by unfold State.link; rw [hl],
    fun b => by unfold State.session; rw [hs], hf⟩

theorem forEach {f : Nat → State → State} (hf : ∀ i s, Kin s (f i s)) (l : List Nat) (s : State) :
    Kin s (Machine.forEach l f s) :=
  forEach_keeps (P := Kin s) (fun i _ t h => h.trans (hf i t)) (refl s)

theorem putLink {c : Nat} {x : Link} {s : State} (hs : x.state = (s.link c).state)
    (ha : x.adopted = (s.link c).adopted) :
    Kin s (putLink c x s) where
  state j := by
    rw [link_putLink]
    split
    · next hj => rw [hs, hj.1]
    · rfl
  adopted j := by
    rw [link_putLink]
    split
    · next hj => rw [ha, hj.1]
    · rfl
  grant _ := Nat.le_refl _
  faults := rfl

theorem setHold (r : HoldReason) (b : Nat) (s : State) : Kin s (setHold r b s) := by
  by_cases hb : validBay b = true
  · refine .trans (t := putSession b ((s.session b).held r) s) ⟨fun _ => rfl, fun _ => rfl, fun j => ?_, rfl⟩
      (.ofRipple (setHold_ripple r b s hb))
    rw [session_putSession]
    split
    · next hj =>
      unfold Session.held
      split
      · exact Nat.le_of_eq (by rw [hj.1])
      · split
        · exact Nat.le_of_eq (by rw [hj.1])
        · exact Nat.zero_le _
    · exact Nat.le_refl _
  · unfold Machine.setHold
    rw [session_out hb]
    exact .refl s

theorem holdCabinet (r : HoldReason) (c : Nat) (s : State) : Kin s (holdCabinet r c s) := .forEach (setHold r) _ s

theorem holdReported (c : Nat) (s : State) : Kin s (holdReported c s) := by
  have h1 : Kin s (Machine.putLink c ((s.link c).startLostHold fun p => (s.power (bayAt c p)).reported) s) :=
    .putLink rfl rfl
  refine h1.trans (.forEach (fun b t => ?_) _ _)
  exact .same rfl rfl rfl

theorem forgetModules (c : Nat) (s : State) : Kin s (forgetModules c s) :=
  .forEach (fun m t => by
    split
    · exact .refl t
    · exact .same rfl rfl rfl) _ s

theorem bondLeavesUp (held : Bool) (c : Nat) (s : State) : Kin s (bondLeavesUp held c s) := by
  have h2 : Kin s (Machine.forEach (baysOf c) (fun b s => putPower b { s.power b with commanded := 0, ramp := none } s)
      (Machine.forgetModules c s)) := by
    refine .trans (forgetModules c s) (.forEach (fun b t => ?_) _ _)
    exact .same rfl rfl rfl
  unfold Machine.bondLeavesUp
  dsimp only
  generalize Machine.forEach (baysOf c) (fun b s => putPower b { s.power b with commanded := 0, ramp := none } s)
    (Machine.forgetModules c s) = u at *
  have h3 : Kin s (putRaiseList (u.bond.raiseList.filter fun b => cabOf b ≠ c) (putBondList c [] u)) :=
    h2.trans (.same rfl rfl rfl)
  generalize putRaiseList (u.bond.raiseList.filter fun b => cabOf b ≠ c) (putBondList c [] u) = v at *
  have h5 : Kin s (examineRaises (if held = true then Machine.holdReported c v else v)) := by
    refine .trans ?_ (.ofRipple (examineRaises_ripple _))
    split
    · exact h3.trans (holdReported c v)
    · exact h3
  split
  · exact h5
  · exact h5.trans (.ofRipple (requestPass_ripple _))

end Kin

/-- Every session of a cabinet on which a hold has been set has no grant. -/
theorem holdCabinet_grant {w : Waiver} {r : HoldReason} {c : Nat} {s : State} (hc : validCab c = true)
    (h : Powered w (holdCabinet r c s)) {b : Nat} (hb : cabOf b = c) : ((holdCabinet r c s).session b).grant = 0 := by
  by_cases hv : validBay b = true
  · have hheld : ((holdCabinet r c s).session b).state = .vacant ∨
        ((holdCabinet r c s).session b).holds.any = true := by
      refine forEach_own (read := fun s b => ((s.session b).state, (s.session b).holds)) (Q := fun _ => True)
        (R := fun _ x => x.1 = .vacant ∨ x.2.any = true) (fun _ _ _ => trivial) (fun i hi t _ => ?_)
          (fun i j t hij => ?_)
        trivial ((mem_baysOf hc).mpr ⟨hv, hb⟩)
      · have hi := ((mem_baysOf hc).mp hi).1
        rw [((setHold_ripple r i t hi).session i).1, session_putSession_self _ _ _ hi]
        unfold Session.held
        split
        · next hs => exact hs.imp_right Holds.any_of_has
        · have hset : ((t.session i).holds.set r true).any = true := by
            refine Holds.any_of_has (r := r) ?_
            cases r <;> rfl
          split <;> exact .inr hset
      · by_cases hi : validBay i = true
        · rw [((setHold_ripple r i t hi).session j).1, session_putSession, if_neg fun e => hij e.1]
        · unfold setHold
          rw [session_out hi]
          rfl
    by_contra hg
    obtain ⟨h1, -, h3⟩ := (h.sessions b).served hg
    rcases hheld with e | e
    · exact h1 e
    · rw [h3] at e; cases e
  · rw [session_out hv]; rfl

namespace Waiver

/-- Cabinet `c`'s link has left UP, and the bond controller has not been told. -/
def leaving (c : Nat) : Waiver :=
  { Waiver.none with gone := (· = c), modules := (· = c), granted := (cabOf · = c), carried := (cabOf · = c) }

/-- Cabinet `c`'s link has left UP, and its grants may still stand. -/
def left (c : Nat) : Waiver := { Waiver.none with gone := (· = c), granted := (cabOf · = c) }

/-- Cabinet `c`'s isolated marker is not yet that of its link. -/
def marked (c : Nat) : Waiver := { Waiver.none with isolated := (· = c) }

end Waiver

namespace Powered

variable {w : Waiver} {s : State}

/-! ### Module reports -/

theorem moduleOpened (h : Powered w s) {c m : Nat} : Powered w (moduleOpened c m s) := by
  unfold Machine.moduleOpened
  split
  · next hs =>
    refine serveBonds (h.putUnbonded (by simp) ?_ ?_) <;> simp [hs, ModuleState.outOfService]
  · next hs =>
    refine serveBonds (requestPass (h.putUnbonded (by simp) ?_ ?_)) <;> simp [hs, ModuleState.outOfService]
  · exact h

theorem moduleClosed (h : Powered .none s) {c m : Nat} : Powered .none (moduleClosed c m s) := by
  unfold Machine.moduleClosed
  dsimp only
  split
  · next hs =>
    refine examineRaises (requestPass (releaseExcess (h.putUnbonded (by simp) ?_ ?_))) <;>
      simp [hs, ModuleState.outOfService]
  · exact h

/-- The setpoint of a bay that has lost a module is clipped (R121). -/
theorem clipSetpoint {b : Nat} (h : Powered { Waiver.none with carried := (· = b) } s) :
    Powered .none (clipSetpoint b s) := by
  have close : ∀ t, Powered { Waiver.none with carried := (· = b) } t → (t.power b).commanded ≤ 300 * bonded t b →
      Powered .none t := fun t h hb =>
    { h with carried := fun j => (h.carried j).elim .inl fun e => .inl (e ▸ hb) }
  unfold Machine.clipSetpoint
  split
  · next hlt =>
    have hv : validBay b = true := by
      by_contra hv
      rw [power_out hv] at hlt
      cases hlt
    refine close _ (h.reduce (Nat.le_of_lt hlt)) ?_
    rw [reduce_commanded hv, bonded_of_ripple (reduce_ripple ..)]
  · next hle => exact close s h (Nat.le_of_not_lt hle)

theorem moduleFault (h : Powered .none s) {c m : Nat} : Powered .none (moduleFault c m s) := by
  have other : (s.module c m).state ≠ .bonded →
      Powered .none (Machine.putModule c m { state := .faulted, bay := none, contactor := none } s) := fun hn =>
    h.putModule (by simp) (.inr (.inl (.inr (.inr rfl)))) fun _ _ hb => absurd hb hn
  unfold Machine.moduleFault
  dsimp only
  split
  · next hs =>
    have h0 : Powered { Waiver.none with carried := (· = (s.module c m).bay.getD 0) } s :=
      { h with carried := fun b => (h.carried b).imp_right False.elim }
    have h1 := h0.putModule (c := c) (m := m) (x := { state := .faulted, bay := none, contactor := none }) (by simp)
      (.inr (.inl (.inr (.inr rfl)))) fun b _ _ hb => .inr (.inr (by rw [hb]; rfl))
    exact (notify (clipSetpoint h1)).requestPass.examineRaises
  · next hs => exact (notify (other (by simp [hs]))).requestPass
  · next hs => exact (other (by simp [hs])).requestPass
  · next hs => exact (other (by simp [hs])).requestPass
  · next hs => exact (other (by simp [hs])).requestPass
  · next hs => exact other (by simp [hs])
  · next hs => exact other (by simp [hs])
  · exact h

/-! ### Links that change their state -/

theorem mark (h : Powered .none s) {c : Nat} : Powered (.marked c) s :=
  { h with isolated := fun d => (h.isolated d).imp_right False.elim }

/-- A cabinet's record with any isolated marker. -/
theorem putMarker (h : Powered .none s) {c : Nat} {x : CabinetFaults} :
    Powered (.marked c) (Machine.putCabFaults c x s) :=
  { h with
    isolated := fun j => by
      rw [cabFaults_putCabFaults]
      split
      · next hj => exact .inr hj.1.symm
      · exact (h.isolated j).imp_right False.elim }

/-- A link that is not UP, and whose cabinet has no grant and no module in service, takes any state. -/
theorem restateLink {c : Nat} (h : Powered (.marked c) s) (hc : validCab c = true) (hn : (s.link c).state ≠ .up)
    {x : Link}
    (hi : (s.cabFaults c).isolated = true ↔ x.state = .isolated) : Powered .none (Machine.putLink c x s) := by
  have hother : ∀ d, d ≠ c → (Machine.putLink c x s).link d = s.link d := fun d hd => by
    rw [link_putLink, if_neg fun e => hd e.1.symm]
  have hself : (Machine.putLink c x s).link c = x := by
    rw [link_putLink, if_pos ⟨rfl, validCab_iff.mp hc⟩]
  exact { h with
    linked := fun b hb => by
      have hl := (h.linked b hb).resolve_right id
      rw [hother _ fun e => hn (e ▸ hl)]
      exact .inl hl
    modules := fun d m => by
      by_cases hd : d = c
      · subst hd
        exact .inr ((h.modules d m).resolve_left fun hu => hn hu.1)
      · rw [hother d hd]
        exact h.modules d m
    isolated := fun d => by
      by_cases hd : d = c
      · subst hd
        rw [hself]
        exact .inl hi
      · rw [hother d hd]
        exact .inl ((h.isolated d).resolve_right hd) }

/-- A link leaves UP. -/
theorem leaveLink {c : Nat} (h : Powered (.marked c) s) (hc : validCab c = true) {x : Link}
    (hi : (s.cabFaults c).isolated = true ↔ x.state = .isolated) : Powered (.leaving c) (Machine.putLink c x s) := by
  have hother : ∀ d, d ≠ c → (Machine.putLink c x s).link d = s.link d := fun d hd => by
    rw [link_putLink, if_neg fun e => hd e.1.symm]
  have hself : (Machine.putLink c x s).link c = x := by
    rw [link_putLink, if_pos ⟨rfl, validCab_iff.mp hc⟩]
  exact { h with
    linked := fun b hb => by
      by_cases hd : cabOf b = c
      · exact .inr hd
      · rw [hother _ hd]
        exact .inl ((h.linked b hb).resolve_right id)
    granted := fun b => (h.granted b).imp_right False.elim
    carried := fun b => (h.carried b).imp_right False.elim
    modules := fun d m => by
      by_cases hd : d = c
      · exact .inr (.inr hd)
      · rw [hother d hd]
        exact (h.modules d m).imp_right fun hm => .inl (hm.resolve_right id)
    isolated := fun d => by
      by_cases hd : d = c
      · subst hd
        rw [hself]
        exact .inl hi
      · rw [hother d hd]
        exact .inl ((h.isolated d).resolve_right hd) }

/-- A cabinet that has left UP has no grant left. -/
theorem close {c : Nat} (h : Powered (.left c) s) (hn : (s.link c).state ≠ .up)
    (hg : ∀ b, cabOf b = c → (s.session b).grant = 0) : Powered .none s :=
  { h with
    linked := fun b hb => .inl ((h.linked b hb).resolve_right fun e => hb (hg b e))
    granted := fun b => (h.granted b).elim .inl fun e => by
      have hz : bonded s b = 0 := bonded_zero fun m => by
        rw [show cabOf b = c from e]
        exact ((h.modules c m).resolve_left fun hu => hn hu.1).resolve_right id
      have hc := (h.carried b).resolve_right id
      exact .inl (by omega) }

theorem forgetModules {c : Nat} (h : Powered (.leaving c) s) : Powered (.leaving c) (forgetModules c s) := by
  refine .each (fun m s h => ?_) h
  split
  · exact h
  · exact h.putModule nofun (.inr (.inl (.inl rfl))) fun b hb _ _ => .inr (.inr hb)

end Powered

/-- The modules of a cabinet that the bond controller has forgotten are out of service (R123). -/
theorem forgetModules_outOfService {c : Nat} (hc : validCab c = true) (s : State) (m : Nat) :
    ((forgetModules c s).module c m).state.outOfService := by
  by_cases hm : validModule m = true
  · refine forEach_own (read := fun s m => s.module c m) (Q := fun _ => True) (R := fun _ x => x.state.outOfService)
      (fun _ _ _ => trivial) (fun i hi t _ => ?_) (fun i j t hij => ?_) trivial (mem_allModules.mpr hm)
    · split
      · next hf => exact .inr (.inr hf)
      · rw [module_putModule _ _ _ _ _ _ hc (mem_allModules.mp hi), if_pos ⟨rfl, rfl⟩]
        exact .inl rfl
    · split
      · rfl
      · rcases module_putModule_cases c i c j Module.reset t with e | ⟨-, e, -⟩
        · exact e
        · exact absurd e hij
  · unfold State.module moduleIndex
    simp only [hm, Bool.false_and, Bool.false_eq_true, if_false]
    exact .inl rfl

namespace Powered

variable {w : Waiver} {s : State}

theorem holdReported (h : Powered w s) {c : Nat} : Powered w (holdReported c s) :=
  .each (fun _ _ h => h.putPower rfl) (h.putLink rfl id)

/-- The bond controller is told that a link has left UP (R123). -/
theorem bondLeavesUp {c : Nat} (h : Powered (.leaving c) s) (hc : validCab c = true) {held : Bool} :
    Powered (.left c) (bondLeavesUp held c s) := by
  have hmod := forgetModules_outOfService hc s
  have h1 := h.forgetModules
  have h2 : Powered (.leaving c) (forEach (baysOf c)
      (fun b s => Machine.putPower b { s.power b with commanded := 0, ramp := none } s)
      (Machine.forgetModules c s)) := .each (fun _ _ h => h.lowerSetpoint (Nat.zero_le _)) h1
  have hmods : (forEach (baysOf c) (fun b s => Machine.putPower b { s.power b with commanded := 0, ramp := none } s)
      (Machine.forgetModules c s)).bond.modules = (Machine.forgetModules c s).bond.modules := by
    refine forEach_fields (fun t => t.bond.modules) (fun b t => ?_) _ _
    exact putPower_modules t b _
  have hzero : ∀ b, cabOf b = c → ((forEach (baysOf c)
      (fun b s => Machine.putPower b { s.power b with commanded := 0, ramp := none } s)
      (Machine.forgetModules c s)).power b).commanded = 0 := fun b hb => by
    by_cases hv : validBay b = true
    · refine forEach_own (read := State.power) (Q := fun _ => True) (R := fun _ x => x.commanded = 0)
        (fun _ _ _ => trivial) (fun i hi t _ => ?_) (fun i j t hij => ?_) trivial ((mem_baysOf hc).mpr ⟨hv, hb⟩)
      · rw [power_putPower, if_pos ⟨rfl, validBay_iff.mp ((mem_baysOf hc).mp hi).1⟩]
      · rw [power_putPower, if_neg fun e => hij e.1]
    · rw [power_out hv]; rfl
  unfold Machine.bondLeavesUp
  dsimp only
  generalize forEach (baysOf c) (fun b s => Machine.putPower b { s.power b with commanded := 0, ramp := none } s)
    (Machine.forgetModules c s) = u at *
  have h3 : Powered (.left c) u :=
    { h2 with
      carried := fun b => (h2.carried b).elim .inl fun e => .inl (by rw [hzero b e]; exact Nat.zero_le _)
      modules := fun d m => (h2.modules d m).imp_right fun hm => hm.elim .inl fun e => .inl (by
        have := hmod m
        unfold State.module at this ⊢
        rw [hmods, show d = c from e]
        exact this) }
  have h4 : Powered (.left c) (if held = true then Machine.holdReported c
      (Machine.putRaiseList (u.bond.raiseList.filter fun b => cabOf b ≠ c) (Machine.putBondList c [] u))
      else Machine.putRaiseList (u.bond.raiseList.filter fun b => cabOf b ≠ c) (Machine.putBondList c [] u)) := by
    split
    · exact h3.putBondList.putRaiseList.holdReported
    · exact h3.putBondList.putRaiseList
  split
  · exact h4.examineRaises
  · exact h4.examineRaises.requestPass

end Powered
end Sys2Proof.Machine
end

section
/-! The session table's operations and the invariant of O60. -/

namespace Sys2Proof.Machine

namespace Session.Funded

/-- A session that differs in none of the fields that a grant depends on. -/
theorem served_as {x y : Session} (h : x.Funded) (hp : PowerRange y.plan.power) (hg : y.grant = x.grant)
    (hs : x.state ≠ .vacant → x.state ≠ .identifying → y.state ≠ .vacant ∧ y.state ≠ .identifying)
    (hh : y.holds = x.holds) : y.Funded where
  power := hp
  grant := hg ▸ h.grant
  served hn := by
    obtain ⟨h1, h2, h3⟩ := h.served (hg ▸ hn)
    obtain ⟨h4, h5⟩ := hs h1 h2
    exact ⟨h4, h5, hh ▸ h3⟩

theorem rebound {x : Session} (h : x.Funded) {p : Plan} (hp : PowerRange p.power) (l : Option Nat) (m : Nat) :
    (x.rebound p l m).Funded := by
  refine h.served_as hp rfl (fun _ _ => ?_) rfl
  show stateFor x.battery p.target ≠ .vacant ∧ stateFor x.battery p.target ≠ .identifying
  unfold stateFor
  split <;> simp

theorem reclocked {x : Session} (h : x.Funded) (m : Nat) : (x.reclocked m).Funded := by
  unfold Session.reclocked
  split
  · exact h.served_as h.power rfl (fun h1 h2 => ⟨h1, h2⟩) rfl
  · exact h

theorem amended {x : Session} (h : x.Funded) {p : Plan} (hp : PowerRange p.power) (m : Nat) :
    (x.amended p m).Funded := by
  have hst : ∀ (st : SessionState) (b t : Nat), st ≠ .vacant → st ≠ .identifying →
      (if st.counts = true then stateFor b t else st) ≠ .vacant ∧
        (if st.counts = true then stateFor b t else st) ≠ .identifying := by
    intro st b t h1 h2
    unfold stateFor
    split
    · split <;> simp
    · exact ⟨h1, h2⟩
  unfold Session.amended
  dsimp only
  split
  · refine h.served_as hp rfl (fun h1 h2 => hst _ _ _ ?_ ?_) rfl <;> dsimp only <;> split <;> simp_all
  · exact h.served_as hp rfl (hst _ _ _) rfl

theorem vacant (n : Nat) : (Session.vacant n).Funded := ⟨.inl rfl, .inl rfl, fun h => absurd rfl h⟩

end Session.Funded

theorem Session.reclocked_grant (x : Session) (m : Nat) : (x.reclocked m).grant = x.grant := by
  unfold Session.reclocked; split <;> rfl

theorem Session.amended_grant (x : Session) (p : Plan) (m : Nat) : (x.amended p m).grant = x.grant := by
  unfold Session.amended; dsimp only; split <;> rfl

namespace Powered

variable {w : Waiver} {s : State}

theorem addReady (h : Powered w s) {b : Nat} : Powered w (addReady b s) :=
  notify (s := { s with ready := s.ready.add (readyRecordOf s b) }) { h with }

/-! ### Binding -/

theorem bindOf {b : Nat} {p : Plan} {l : Option Nat}
    (h : Powered w (Machine.putSession b ((s.session b).rebound p l s.clock.minute) s)) : Powered w (bind b p l s) := by
  unfold bind
  dsimp only
  split
  · exact h.addReady.requestPass
  · exact h.requestPass

theorem bind (h : Powered w s) {b : Nat} {p : Plan} (hp : PowerRange p.power) {l : Option Nat} :
    Powered w (bind b p l s) :=
  bindOf (h.putSession ((h.sessions b).rebound hp l _) rfl)

theorem claimEntry (h : Powered w s) {e b : Nat} : Powered w (claimEntry e b s) := h.putEntry (h.entries e)

theorem matchAndBind (h : Powered w s) {b : Nat} {v : U24} : Powered w (matchAndBind b v s) := by
  unfold Machine.matchAndBind
  split
  · next e _ => exact h.claimEntry.bind (h.entries e)
  · exact h.bind h.defaultPlan

theorem lateClaim (h : Powered w s) {b e : Nat} : Powered w (lateClaim b e s) := by
  have h1 : Powered w (Machine.requestPass (Machine.putSession b
      ((s.session b).rebound (s.entry e).plan (some e) s.clock.minute) (Machine.claimEntry e b s))) :=
    (h.claimEntry.putSession ((h.sessions b).rebound (h.entries e) _ _) rfl).requestPass
  unfold Machine.lateClaim
  dsimp only
  split
  · exact h1.addReady
  · exact h1

theorem updateAcceptance (h : Powered w s) {b v : Nat} : Powered w (updateAcceptance b v s) := by
  have h1 : Powered w (Machine.putSession b { s.session b with acceptance := min v 3000 } s) :=
    h.putSession ((h.sessions b).served_as (h.sessions b).power rfl (fun h1 h2 => ⟨h1, h2⟩) rfl) rfl
  unfold Machine.updateAcceptance
  dsimp only
  split
  · split
    · exact h1.requestPass
    · exact h1
  · exact h

theorem putIdentity (h : Powered w s) {b : Nat} {v : U24} {t : Timer} :
    Powered w (Machine.putSession b { s.session b with identity := some v, idTimer := t } s) :=
  h.putSession ((h.sessions b).served_as (h.sessions b).power rfl (fun h1 h2 => ⟨h1, h2⟩) rfl) rfl

theorem takeIdentity (h : Powered w s) {b : Nat} {v : U24} {a : Nat} : Powered w (takeIdentity b v a s) := by
  have late : Powered w (Machine.updateAcceptance b a
      (Machine.putSession b { s.session b with identity := some v } s)) :=
    (h.putIdentity).updateAcceptance
  unfold Machine.takeIdentity
  dsimp only
  split
  · exact h
  · split
    · exact h.updateAcceptance
    · exact h.updateAcceptance.putIdentity.matchAndBind
  · split
    · exact h.updateAcceptance
    · split
      · exact late.lateClaim
      · exact late
  · split
    · exact h.updateAcceptance
    · split
      · exact late.lateClaim
      · exact late
  · split
    · exact h.updateAcceptance
    · exact late

/-! ### Energy and countdowns -/

theorem countEnergy (h : Powered w s) {b battery auxiliary : Nat} : Powered w (countEnergy b battery auxiliary s) := by
  have hx := h.sessions b
  unfold Machine.countEnergy
  dsimp only
  split
  · split
    · refine requestPass (addReady (h.putSession ?_ ?_))
      · exact hx.served_as hx.power rfl (fun _ _ => by simp) rfl
      · rfl
    · exact h.putSession (hx.served_as hx.power rfl (fun h1 h2 => ⟨h1, h2⟩) rfl) rfl
  · exact h

theorem minuteAt (h : Powered w s) {b : Nat} : Powered w (minuteAt b s) := by
  have hx := h.sessions b
  unfold Machine.minuteAt
  dsimp only
  split
  · split
    · refine notify (requestPass (h.putSession ?_ ?_))
      · exact hx.served_as hx.power rfl (fun _ _ => by simp) rfl
      · rfl
    · next hc =>
      have h1 : Powered w (Machine.putSession b { s.session b with
          countdown := some ((s.session b).countdown.getD 0 - 1)
          windowOpen := ({ s.session b with countdown := some ((s.session b).countdown.getD 0 - 1) } :
            Session).opensWindow } s) :=
        h.putSession (hx.served_as hx.power rfl (fun h1 h2 => ⟨h1, h2⟩) rfl) rfl
      split
      · exact h1.requestPass
      · exact h1
  · exact h

theorem reclockSessions (h : Powered w s) : Powered w (reclockSessions s) := by
  have h1 : Powered w (forEach allBays (fun b s => Machine.putSession b ((s.session b).reclocked s.clock.minute) s) s) :=
    .each (fun b t h => h.putSession ((h.sessions b).reclocked _) (Session.reclocked_grant ..)) h
  unfold Machine.reclockSessions
  dsimp only
  split
  · exact h1.requestPass
  · exact h1

theorem amendSession (h : Powered w s) {b : Nat} {p : Plan} (hp : PowerRange p.power) :
    Powered w (amendSession b p s) := by
  have h1 : Powered w (Machine.putSession b ((s.session b).amended p s.clock.minute) s) :=
    h.putSession ((h.sessions b).amended hp _) (Session.amended_grant ..)
  have h2 := h1.requestPass
  unfold Machine.amendSession
  dsimp only
  split <;> split
  exacts [h2.addReady, h1.addReady, h2, h1]

/-! ### Opening and closing -/

theorem plugPresent (h : Powered w s) {b : Nat} : Powered w (plugPresent b s) := by
  unfold Machine.plugPresent
  split
  · exact h
  · next ho =>
    have hv : (s.session b).state = .vacant := by simpa [Session.isOpen] using ho
    have hg : (s.session b).grant = 0 := by
      by_contra hn
      exact ((h.sessions b).served hn).1 hv
    refine notify (putLinkBay (h.putSession ?_ ?_))
    · exact ⟨.inl rfl, .inl rfl, fun h => absurd rfl h⟩
    · exact hg.symm

theorem endSessionClaim (h : Powered w s) {b : Nat} : Powered w (endSessionClaim b s) := by
  unfold Machine.endSessionClaim
  split
  · next e _ =>
    unfold endClaim
    dsimp only
    split
    · exact h.putEntry (h.entries e)
    · exact h.putEntry (h.entries e)
  · exact h

theorem closeSession (h : Powered .none s) {cause : CloseCause} {b : Nat} (hb : validBay b = true) :
    Powered .none (closeSession cause b s) := by
  have h3 : Powered .none (noticeClosed cause b (Machine.endSessionClaim b s)) := h.endSessionClaim.notify
  unfold Machine.closeSession
  dsimp only
  generalize noticeClosed cause b (Machine.endSessionClaim b s) = u at *
  have h4 : Powered .none (Machine.withdrawGrant b u) := h3.withdrawGrant fun _ => id
  have h0 : ((Machine.withdrawGrant b u).session b).grant = 0 := by
    have := ((withdrawGrant_ripple b u).session b).2
    rw [session_putSession_self _ _ _ hb] at this
    exact Nat.le_zero.mp this
  exact (h4.putSession (.vacant _) h0.symm).requestPass

theorem plugAbsent (h : Powered .none s) {b : Nat} (hb : validBay b = true) : Powered .none (plugAbsent b s) := by
  unfold Machine.plugAbsent
  split
  · exact h.closeSession hb
  · exact h

end Powered
end Sys2Proof.Machine
end

section
/-! Links, faults, the site stop, the yard lines and the invariant of O60. -/

namespace Sys2Proof.Machine

theorem Link.train_adopted (l : Link) : l.train.adopted = l.adopted :=
  Link.hand_adopted { l with state := .training, probeCount := 0, keep := none, silence := none } .probe

theorem Link.heard_state (l : Link) : l.heard.state = l.state ∧ l.heard.adopted = l.adopted := by
  unfold Link.heard
  split <;> exact ⟨rfl, rfl⟩

theorem link_putLink_self {c : Nat} (hc : validCab c = true) (x : Link) (s : State) : (putLink c x s).link c = x := by
  rw [link_putLink, if_pos ⟨rfl, validCab_iff.mp hc⟩]

/-- What no change of the alarm indication alters of a line (R174). -/
structure LineKept (x y : Line) : Prop where
  settings : y.settings = x.settings
  pin      : y.pin = x.pin
  level    : y.level = x.level
  filter   : y.filter = x.filter

theorem Line.takeAlarm_kept (x : Line) (alarm : Bool) : LineKept x (x.takeAlarm alarm) := by
  unfold Line.takeAlarm
  split
  · split <;> exact ⟨rfl, rfl, rfl, rfl⟩
  · exact ⟨rfl, rfl, rfl, rfl⟩

theorem line_putLine_kept {l : Nat} {x : Line} {s : State} (h : LineKept (s.line l) x) (j : Nat) :
    LineKept (s.line j) ((putLine l x s).line j) := by
  rw [line_putLine]
  split
  · next hj => exact hj.1 ▸ h
  · exact ⟨rfl, rfl, rfl, rfl⟩

/-- An evaluation of the alarm indication writes it, and hands it to the lines alone (R163). -/
theorem evaluateAlarm_eq (s : State) : ∃ lines,
    evaluateAlarm s = { s with faults := { s.faults with alarm := alarmWanted s }, lines := lines } ∧
    ∀ l, LineKept (s.line l) (get1 lines (Line.reset true) l) := by
  unfold evaluateAlarm
  dsimp only
  split
  · next ha => exact ⟨s.lines, by rw [ha], fun _ => ⟨rfl, rfl, rfl, rfl⟩⟩
  · refine forEach_keeps (P := fun t => ∃ lines,
      t = { s with faults := { s.faults with alarm := alarmWanted s }, lines := lines } ∧
      ∀ l, LineKept (s.line l) (get1 lines (Line.reset true) l)) (fun k _ t h => ?_)
      ⟨_, rfl, fun _ => ⟨rfl, rfl, rfl, rfl⟩⟩
    obtain ⟨lines, rfl, hl⟩ := h
    refine ⟨_, rfl, fun l => ?_⟩
    obtain ⟨h1, h2, h3, h4⟩ := line_putLine_kept (l := k) (s := { s with lines := lines })
      (Line.takeAlarm_kept _ (alarmWanted s)) l
    obtain ⟨k1, k2, k3, k4⟩ := hl l
    exact ⟨h1.trans k1, h2.trans k2, h3.trans k3, h4.trans k4⟩

namespace Powered

variable {w : Waiver} {s : State}

/-! ### Links -/

/-- The fault unit with the cabinets' records and the stop kept. -/
theorem putFaults (h : Powered w s) {f : FaultUnit} (hc : f.cabinets = s.faults.cabinets)
    (hs : f.stopMinute = s.faults.stopMinute) : Powered w { s with faults := f } :=
  { h with
    isolated := fun c => by
      have : State.cabFaults { s with faults := f } c = s.cabFaults c := congrArg (get1 · CabinetFaults.reset c) hc
      rw [this]
      exact h.isolated c
    stop := fun ht => h.stop ((congrArg Option.isSome hs).symm.trans ht) }

theorem linkChanged (h : Powered w s) {c : Nat} {before : LinkState} {cause : LinkCause} :
    Powered w (linkChanged c before cause s) := h.requestPass.notify

theorem goodFrame (h : Powered w s) {c : Nat} : Powered w (goodFrame c s) :=
  h.putLink (Link.heard_state _).1 fun ha => (Link.heard_state _).2.trans ha

theorem holdCabinet (h : Powered w s) (hw : ∀ b, w.gone (cabOf b) → w.granted b) {r : HoldReason} {c : Nat} :
    Powered w (holdCabinet r c s) := .each (fun _ _ h => h.setHold hw) h

/-- The isolated marker of a cabinet whose link is not ISOLATED. -/
theorem unmarked (h : Powered .none s) {c : Nat} (hn : (s.link c).state ≠ .isolated) {x : Link}
    (hx : x.state ≠ .isolated) :
    (s.cabFaults c).isolated = true ↔ x.state = .isolated :=
  ⟨fun e => absurd (((h.isolated c).resolve_right id).mp e) hn, fun e => absurd e hx⟩

/-- A link that is neither UP nor ISOLATED trains (R131). -/
theorem enterTraining (h : Powered .none s) {c : Nat} (hc : validCab c = true) (hu : (s.link c).state ≠ .up)
    (hi : (s.link c).state ≠ .isolated) : Powered .none (enterTraining c s) :=
  h.mark.restateLink hc hu (h.unmarked hi (by rw [Link.train_state]; decide))

theorem retrainFromUp (h : Powered .none s) {c : Nat} (hc : validCab c = true) (hu : (s.link c).state = .up) :
    Powered .none (retrainFromUp c s) := by
  have h1 : Powered .none (Machine.holdCabinet .link c (Machine.sendCab c .zero s)) := h.sendCab.holdCabinet fun _ => id
  have hg : ∀ b, cabOf b = c → _ = 0 := fun b => holdCabinet_grant hc h1
  have hst : ((Machine.holdCabinet .link c (Machine.sendCab c .zero s)).link c).state = .up := by
    rw [(Kin.holdCabinet ..).state, (link_of_ripple (sendCab_ripple ..) c).1, hu]
  unfold Machine.retrainFromUp
  dsimp only
  generalize Machine.holdCabinet .link c (Machine.sendCab c .zero s) = u at *
  have h2 : Powered (.leaving c) (Machine.putLink c ((u.link c).leaveUp .training) u) :=
    h1.mark.leaveLink hc (h1.unmarked (by rw [hst]; decide) (by rw [(leaveUp_fields _ _).1]; decide))
  have hk := Kin.bondLeavesUp true c (Machine.putLink c ((u.link c).leaveUp .training) u)
  have hl : ((Machine.bondLeavesUp true c (Machine.putLink c ((u.link c).leaveUp .training) u)).link c).state
      = .training := by
    rw [hk.state, link_putLink_self hc]; rfl
  have h3 : Powered .none (Machine.bondLeavesUp true c (Machine.putLink c ((u.link c).leaveUp .training) u)) :=
    (h2.bondLeavesUp hc).close (by rw [hl]; decide) fun b hb => Nat.le_zero.mp
      (Nat.le_trans (hk.grant b) (Nat.le_of_eq (hg b hb)))
  exact (h3.enterTraining hc (by rw [hl]; decide) (by rw [hl]; decide)).linkChanged

/-- A link that is not UP has no grant behind it, so that it may count as one that has left UP. -/
theorem leave (h : Powered .none s) {c : Nat} : Powered (.left c) s :=
  { h with
    linked := fun b hb => (h.linked b hb).imp_right False.elim
    granted := fun b => (h.granted b).imp_right False.elim }

/-- A link isolates its cabinet, whose marker is set (R141). -/
theorem isolateLink {c : Nat} (h : Powered (.marked c) s) (hc : validCab c = true)
    (hm : (s.cabFaults c).isolated = true) :
    Powered (.left c) (isolateLink c s) ∧ ((isolateLink c s).link c).state = .isolated := by
  have hst : ∀ before cause t, ((Machine.linkChanged c before cause t).link c).state = (t.link c).state :=
    fun before cause t => (link_of_ripple (linkChanged_ripple ..) c).1
  unfold Machine.isolateLink
  dsimp only
  split
  · have hx : (((s.link c).leaveUp .isolated).hand .isolate).state = .isolated := Link.hand_state ..
    have h1 := h.leaveLink hc (x := ((s.link c).leaveUp .isolated).hand .isolate) (iff_of_true hm hx)
    refine ⟨(h1.bondLeavesUp hc).linkChanged, ?_⟩
    rw [hst, (Kin.bondLeavesUp ..).state, link_putLink_self hc, hx]
  · next hi =>
    refine ⟨leave { h with isolated := fun d => .inl ((h.isolated d).elim id fun e => ?_) }, hi⟩
    obtain rfl : d = c := e
    exact iff_of_true hm hi
  · next hu hi =>
    refine ⟨linkChanged (leave (h.restateLink hc hu (iff_of_true hm rfl))), ?_⟩
    rw [hst, link_putLink_self hc]

theorem isolateCabinet (h : Powered .none s) {c : Nat} (hc : validCab c = true) :
    Powered .none (isolateCabinet c s) := by
  have hold : ∀ t, Powered (.left c) t →
      (t.link c).state = .isolated → Powered .none (Machine.holdCabinet .fault c t) := by
    intro t ht hl
    have h1 : Powered (.left c) (Machine.holdCabinet .fault c t) := ht.holdCabinet fun _ => id
    refine h1.close (by rw [(Kin.holdCabinet ..).state, hl]; decide) fun b => holdCabinet_grant hc h1
  unfold Machine.isolateCabinet
  dsimp only
  split
  · next hi => exact hold s h.leave (((h.isolated c).resolve_right id).mp hi)
  · have hf : ((Machine.putCabFaults c { s.cabFaults c with isolated := true } s).cabFaults c).isolated = true := by
      rw [cabFaults_putCabFaults, if_pos ⟨rfl, validCab_iff.mp hc⟩]
    obtain ⟨h1, hl⟩ := isolateLink (h.putMarker (x := { s.cabFaults c with isolated := true })) hc hf
    exact hold _ h1 hl

/-- A link whose cabinet's marker has been cleared leaves isolation (R142). -/
theorem leaveIsolation {c : Nat} (h : Powered (.marked c) s) (hc : validCab c = true)
    (hm : (s.cabFaults c).isolated = false)
    (hi : (s.link c).state = .isolated) : Powered .none (leaveIsolation c s) := by
  have h1 : Powered (.marked c) (Machine.putLink c { s.link c with silence := Option.none } s) := h.putLink rfl id
  have h2 : Powered (.marked c) (Machine.holdCabinet .link c (Machine.holdReported c
      (Machine.putLink c { s.link c with silence := Option.none } s))) :=
      h1.holdReported.holdCabinet fun _ => False.elim
  have hk : Kin s (Machine.holdCabinet .link c (Machine.holdReported c
      (Machine.putLink c { s.link c with silence := Option.none } s))) :=
    ((Kin.putLink (x := { s.link c with silence := Option.none }) rfl rfl).trans (.holdReported ..)).trans
      (.holdCabinet ..)
  refine linkChanged (h2.restateLink hc (by rw [hk.state, hi]; decide) (iff_of_false ?_ ?_))
  · unfold State.cabFaults
    rw [hk.faults]
    exact fun e => by rw [State.cabFaults] at hm; rw [hm] at e; cases e
  · rw [Link.train_state]; decide

/-! ### Faults -/

theorem evaluateAlarm (h : Powered w s) : Powered w (evaluateAlarm s) := by
  unfold Machine.evaluateAlarm
  dsimp only
  split
  · exact h
  · refine .each (fun l t h => h.putLine) (s := { s with faults := { s.faults with alarm := alarmWanted s } }) ?_
    exact h.putFaults rfl rfl

theorem recordFault (h : Powered w s) {c : Nat} {first : FirstCode} : Powered w (recordFault c first s) := by
  unfold Machine.recordFault
  dsimp only
  split
  · exact h
  · exact h.putCabFaults (by unfold CabinetFaults.setFlag; split <;> rfl)

theorem faultNotice (h : Powered w s) {c : Nat} {first : FirstCode} {setFlag : Bool} :
    Powered w (faultNotice c first setFlag s) := by
  unfold Machine.faultNotice
  dsimp only
  split
  · exact h.notify
  · exact h

theorem faultEffect (h : Powered .none s) {source : FaultSource} {c : Nat} (hc : validCab c = true)
    {first : FirstCode} :
    Powered .none (faultEffect source c first s) := by
  unfold Machine.faultEffect
  split
  · split
    · exact h.moduleFault
    · exact h
  · exact h.setHold fun _ => id
  · exact h.holdCabinet fun _ => id
  · exact h.isolateCabinet hc
  · exact h.isolateCabinet hc
  · exact h

theorem takeFault (h : Powered .none s) {source : FaultSource} {c : Nat} (hc : validCab c = true) {code : FaultCode}
    {x : Subject} : Powered .none (takeFault source c code x s) :=
  (h.recordFault.faultEffect hc).faultNotice.evaluateAlarm

/-- A fault that has no effect of its own (R161). -/
theorem takeRecorded (h : Powered w s) {source : FaultSource} {c : Nat} {code : FaultCode} {x : Subject}
    (he : ∀ t, Machine.faultEffect source c ⟨code, x⟩ t = t) : Powered w (Machine.takeFault source c code x s) := by
  unfold Machine.takeFault
  dsimp only
  rw [he]
  exact h.recordFault.faultNotice.evaluateAlarm

theorem overdrawNotice (h : Powered w s) {setFlag : Bool} : Powered w (overdrawNotice setFlag s) := by
  unfold Machine.overdrawNotice
  split
  · exact h.notify
  · exact h

theorem takeOverdraw (h : Powered w s) : Powered w (takeOverdraw s) := by
  have h1 : Powered w (if s.faults.overdrawMinute.isNone
      then { s with faults := { s.faults with overdrawMinute := some s.clock.minute } } else s) := by
    split
    · exact h.putFaults rfl rfl
    · exact h
  exact h1.overdrawNotice.evaluateAlarm

theorem linkFrameFault (h : Powered w s) {c : Nat} : Powered w (linkFrameFault c s) := h.takeRecorded fun _ => rfl

theorem beginStop (h : Powered .none s) : Powered .none (beginStop s) := by
  unfold Machine.beginStop
  split
  · exact h
  · refine evaluateAlarm (each (fun _ _ h => h.setHold fun _ => id) (shedStop ?_))
    exact { h with stop := fun _ => .inr trivial }

theorem endStop (h : Powered .none s) : Powered .none (endStop s) := by
  unfold Machine.endStop
  refine evaluateAlarm (requestPass
    (examineRaises (each (fun _ _ h => h.serveBonds) (each (fun _ _ h => h.clearHold) ?_))))
  exact { h with stop := nofun }

theorem holdTest (h : Powered w s) {c : Nat} : Powered w (holdTest c s) := by
  refine each (fun b t h => ?_) h
  split
  · exact h.clearHold
  · exact h

theorem clearSite (h : Powered w s) {classes : Byte} : Powered w (clearSite classes s) := by
  unfold Machine.clearSite
  split
  · exact h.putFaults rfl rfl
  · exact h

theorem clearCabinet (h : Powered .none s) {c : Nat} (hc : validCab c = true) {classes : Byte} :
    Powered .none (clearCabinet c classes s) := by
  have hv := validCab_iff.mp hc
  have h1 : ∀ f : CabinetFaults, f.isolated = (s.cabFaults c).isolated → Powered .none (Machine.putCabFaults c f s) :=
    fun f hf => h.putCabFaults hf
  have h2 : ∀ f g : CabinetFaults, f.isolated = (s.cabFaults c).isolated →
      (s.cabFaults c).isolated = true → g.isolated = false →
      Powered .none (Machine.leaveIsolation c (Machine.putCabFaults c g (Machine.putCabFaults c f s))) := by
    intro f g hf hi hg
    refine leaveIsolation (h1 f hf).putMarker hc ?_ (((h.isolated c).resolve_right id).mp hi)
    rw [cabFaults_putCabFaults, if_pos ⟨rfl, hv⟩, hg]
  have hflag : ∀ p q : Bool, (p && q) = true → q = true := fun p q h => ((Bool.and_eq_true p q).mp h).2
  unfold Machine.clearCabinet
  dsimp only
  split
  · refine holdTest ?_
    split
    · next hn =>
      refine h2 _ _ ?_ (hflag _ _ hn) ?_ <;> rfl
    · refine h1 _ ?_
      rfl
  · split
    · next hn =>
      refine h2 _ _ ?_ (hflag _ _ hn) ?_ <;> rfl
    · refine h1 _ ?_
      rfl

/-! ### Yard lines -/

theorem updateStage (h : Powered w s) : Powered w (updateStage s) := by
  unfold Machine.updateStage
  dsimp only
  split
  · exact h
  · exact h.putEnv rfl

theorem meterChanged (h : Powered .none s) : Powered .none (meterChanged s) := by
  refine recompute (recomputeBuilding (h.putEnv ?_))
  rfl

theorem countPulse (h : Powered w s) : Powered w (countPulse s) := h.putEnv rfl

theorem handLevel (h : Powered .none s) {l : Nat} : Powered .none (handLevel l s) := by
  unfold Machine.handLevel
  dsimp only
  split
  · split
    · exact h.notify
    · exact h
  · exact h.updateStage
  · exact h.updateStage
  · split
    · exact h.countPulse
    · exact h
  · split
    · exact h.beginStop
    · exact h
  all_goals exact h

theorem handFunction (h : Powered .none s) {f : LineFunction} : Powered .none (handFunction f s) := by
  unfold Machine.handFunction
  split
  · exact h.updateStage
  · exact h.updateStage
  · exact h.meterChanged
  all_goals exact h

theorem applyLine (h : Powered .none s) {l : Nat} {n : LineSettings} : Powered .none (applyLine l n s) := by
  unfold Machine.applyLine
  dsimp only
  split
  · split
    · exact h.putLine
    · exact h.putLine.handLevel
  · exact h.putLine.handFunction.handFunction

end Powered
end Sys2Proof.Machine
end

section
/-! What each order's effect keeps of the invariant of O60. -/

namespace Sys2Proof.Machine

namespace Powered

variable {s : State} {w : Waiver}

theorem placeWalker (h : Powered w s) : Powered w (placeWalker s) := h.putEnv rfl

theorem applyClock (h : Powered .none s) {m : Nat} : Powered .none (applyClock m s) := by
  have h1 : Powered .none { s with clock := { minute := m, setMarker := true, prescaler := 0, fraction := 0 } } :=
      { h with }
  have h2 : Powered .none (Machine.placeWalker (Machine.reclockSessions
      { s with clock := { minute := m, setMarker := true, prescaler := 0, fraction := 0 } })) :=
        h1.reclockSessions.placeWalker
  unfold Machine.applyClock
  dsimp only
  split
  · exact h2.recompute
  · exact h2.recompute.requestPass

/-- The available power is computed afresh after a setting has changed. -/
theorem recomputeAfter (h : Powered .none s) {e : Envelope} (ha : e.available = s.env.available) :
    Powered .none (Machine.recompute { s with env := e }) := (h.putEnv ha).recompute

theorem recomputeBuildingAfter (h : Powered .none s) {e : Envelope} (ha : e.available = s.env.available) :
    Powered .none (Machine.recompute (Machine.recomputeBuilding { s with env := e })) :=
  recompute (recomputeBuilding (h.putEnv ha))

/-! ### Plans -/

theorem writePlan (h : Powered w s) {e : Nat} (f : PlanOrder) : Powered w (writePlan e f s).1 := by
  have hp : PowerRange (planOf f).power := clampPower_range _
  unfold Machine.writePlan
  split
  · exact h
  · dsimp only
    split
    · exact h.putEntry hp
    · exact h.putEntry hp
    · exact h.putEntry hp
    · split
      · exact amendSession (h.putEntry hp) hp
      · exact h

theorem releaseEntry (h : Powered w s) {e : Nat} : Powered w (releaseEntry e s) := by
  have h1 : ∀ b, Powered w (dropLink b s) := fun b =>
    h.putSession ((h.sessions b).served_as (h.sessions b).power rfl (fun h1 h2 => ⟨h1, h2⟩) rfl) rfl
  unfold Machine.releaseEntry
  dsimp only
  refine putEntry ?_ (.inl rfl)
  split
  · exact h1 _
  · exact h

theorem putPlans (h : Powered w s) {p : PlanTable} (he : p.entries = s.plans.entries)
    (hp : PowerRange p.defaultPlan.power) : Powered w { s with plans := p } :=
  { h with
    defaultPlan := hp
    entries := fun e => by
      have : State.entry { s with plans := p } e = s.entry e := congrArg (get1 · PlanEntry.free e) he
      rw [this]
      exact h.entries e }

theorem retrainLink (h : Powered .none s) {c : Nat} (hc : validCab c = true) : Powered .none (retrainLink c s) := by
  have train : (s.link c).state ≠ .up → (s.link c).state ≠ .isolated → Powered .none (Machine.enterTraining c s) :=
    h.enterTraining hc
  unfold Machine.retrainLink
  split
  · next hu => exact h.retrainFromUp hc hu
  · next hs => exact train (by rw [hs]; decide) (by rw [hs]; decide)
  · next hs => exact (train (by rw [hs]; decide) (by rw [hs]; decide)).linkChanged
  · next hs => exact (train (by rw [hs]; decide) (by rw [hs]; decide)).linkChanged
  · exact h

/-! ### Each order (Table 10-4) -/

theorem effectSetSiteCeiling (h : Powered .none s) (v : U16) : Powered .none (effectSetSiteCeiling v s).1 := by
  unfold Machine.effectSetSiteCeiling
  split
  · exact h
  · split
    · exact h
    · refine requestPass (h.recomputeAfter ?_)
      rfl

theorem effectSetCabinetCeiling (h : Powered w s) (c : Byte) (v : U16) :
    Powered w (effectSetCabinetCeiling c v s).1 := by
  unfold Machine.effectSetCabinetCeiling
  split
  · exact h
  · split
    · exact h
    · refine requestPass (sendIfUp (h.putEnv ?_))
      rfl

theorem effectPutLimitStep (h : Powered w s) (b i : Byte) (a l : U16) (n : Byte) :
    Powered w (effectPutLimitStep b i a l n s).1 := by
  unfold Machine.effectPutLimitStep
  split
  · exact h
  · split
    · exact h
    · exact h.putEnv rfl

theorem effectSelectLimitBank (h : Powered .none s) (b : Byte) : Powered .none (effectSelectLimitBank b s).1 := by
  unfold Machine.effectSelectLimitBank
  split
  · exact h
  · have h1 : Powered .none { s with env := { s.env with activeBank := num b } } := h.putEnv rfl
    exact h1.placeWalker.recompute

theorem effectPutPlan (h : Powered w s) (e : Byte) (f : PlanOrder) : Powered w (effectPutPlan e f s).1 := by
  unfold Machine.effectPutPlan
  split
  · exact h
  · have h1 := h.writePlan (e := num e) f
    dsimp only
    split <;> exact h1

theorem effectPutPlanNext (h : Powered w s) (f : PlanOrder) : Powered w (effectPutPlanNext f s).1 := by
  unfold Machine.effectPutPlanNext
  dsimp only
  split
  · exact h
  · have h1 := h.writePlan (e := s.plans.cursor) f
    split
    · exact h1.putPlans rfl h1.defaultPlan
    · exact h1

theorem effectSetDefaultPlan (h : Powered w s) (f : DefaultOrder) : Powered w (effectSetDefaultPlan f s).1 := by
  unfold Machine.effectSetDefaultPlan
  split
  · exact h
  · exact h.putPlans rfl (clampPower_range _)

theorem effectSuspendBay (h : Powered .none s) (b : Byte) : Powered .none (effectSuspendBay b s).1 := by
  unfold Machine.effectSuspendBay
  split
  · exact h
  · split
    · exact h
    · exact h.setHold fun _ => id

theorem effectResumeBay (h : Powered w s) (b : Byte) : Powered w (effectResumeBay b s).1 := by
  unfold Machine.effectResumeBay
  split
  · exact h
  · split
    · exact h
    · exact h.clearHold

theorem effectRetrain (h : Powered .none s) (c : Byte) : Powered .none (effectRetrain c s).1 := by
  unfold Machine.effectRetrain
  split
  · exact h
  · next hc =>
    split
    · exact h
    · exact h.retrainLink (by simpa using hc)

theorem effectClearFaults (h : Powered .none s) (x c : Byte) : Powered .none (effectClearFaults x c s).1 := by
  unfold Machine.effectClearFaults
  split
  · exact h.clearSite.evaluateAlarm
  · split
    · next hc => exact (h.clearCabinet hc).evaluateAlarm
    · exact h

theorem effectResumeSite (h : Powered .none s) : Powered .none (effectResumeSite s).1 := by
  unfold Machine.effectResumeSite
  split
  · exact h
  · dsimp only
    exact h.endStop

theorem effectSetLine (h : Powered .none s) (l : Byte) (o : LineOrder) : Powered .none (effectSetLine l o s).1 := by
  unfold Machine.effectSetLine
  split
  · exact h
  · split
    · exact h
    · split
      · exact h
      · exact h.applyLine

/-- The effect of every order at its owner keeps what holds between steps. -/
theorem orderEffect (h : Powered .none s) {i : Instr} {f : State → State × List Byte} (hi : orderEffect i = some f) :
    Powered .none (f s).1 := by
  cases i <;> cases hi
  case setClock => unfold effectSetClock; split; exacts [h, h.applyClock]
  case setSiteCeiling => exact h.effectSetSiteCeiling _
  case setCabinetCeiling => exact h.effectSetCabinetCeiling _ _
  case putLimitStep => exact h.effectPutLimitStep _ _ _ _ _
  case selectLimitBank => exact h.effectSelectLimitBank _
  case setCurtailStages => refine h.recomputeAfter ?_; rfl
  case setMeter => refine h.recomputeBuildingAfter ?_; rfl
  case setMargin => refine h.recomputeAfter ?_; rfl
  case setReserve => refine h.recomputeBuildingAfter ?_; rfl
  case readEnvelope => exact h
  case putPlan => exact h.effectPutPlan _ _
  case setPlanCursor => unfold effectSetPlanCursor; split; exacts [h.putPlans rfl h.defaultPlan, h]
  case putPlanNext => exact h.effectPutPlanNext _
  case releasePlan => unfold effectReleasePlan; split; exacts [h.releaseEntry, h]
  case readPlan => unfold effectReadPlan; split <;> exact h
  case setGroupMask => unfold effectSetGroupMask; split; exacts [h.putPlans rfl h.defaultPlan, h]
  case setDefaultPlan => exact h.effectSetDefaultPlan _
  case readSession => unfold effectReadSession; split <;> exact h
  case suspendBay => exact h.effectSuspendBay _
  case resumeBay => exact h.effectResumeBay _
  case reallocate => unfold effectReallocate; split; exacts [h.requestPass, h]
  case setPeriod => exact startPeriod (h.putAlloc rfl h.snapshot)
  case readReady => unfold effectReadReady; split; exacts [h, { h with }]
  case clearReadyOverflow => exact { h with }
  case readCabinet => unfold effectReadCabinet; split <;> exact h
  case retrain => exact h.effectRetrain _
  case readFaults => exact h
  case clearFaults => exact h.effectClearFaults _ _
  case setReporting => refine evaluateAlarm (h.putFaults ?_ ?_) <;> rfl
  case resumeSite => exact h.effectResumeSite
  case setLine => exact h.effectSetLine _ _
  case readLines => exact h
  case setNotices => exact h.putOrder
  case readStatus => exact h.putOrder
  case restart => exact h.putOrder

end Powered
end Sys2Proof.Machine
end

section
/-! Messages, timers, a restart and every step keep the invariant of O60. -/

namespace Sys2Proof.Machine

namespace Powered

variable {s : State} {w : Waiver}

/-! ### STATUS (R137, R138) -/

theorem handIdentity (h : Powered w s) {b : Nat} {x : BayBlock} : Powered w (handIdentity b x s) := by
  unfold Machine.handIdentity
  split
  · exact h
  · exact h.takeIdentity

theorem adoptBay (h : Powered .none s) {b : Nat} (hb : validBay b = true) {x : BayBlock} :
    Powered .none (adoptBay b x s) := by
  have rebind : Powered .none (if ((s.session b).identity.getD 0 = x.identity) then Machine.clearHold .link b s
      else Machine.handIdentity b x (Machine.plugPresent b (Machine.closeSession .reconnectMismatch b s))) := by
    split
    · exact h.clearHold
    · exact ((h.closeSession hb).plugPresent).handIdentity
  unfold Machine.adoptBay
  dsimp only
  split
  · split
    · exact h.plugPresent.handIdentity
    · exact h.clearHold.handIdentity
    all_goals exact rebind
  · split
    · exact h.closeSession hb
    · exact h

theorem takeBayFaults (h : Powered .none s) {b : Nat} (hb : validBay b = true) {x : BayBlock} :
    Powered .none (takeBayFaults b x s) := by
  have h1 : Powered .none (if blockInsulation x && !(s.linkBay b).insulation then
      Machine.takeFault .block (cabOf b) .bayInsulation ⟨.bay, b⟩ s else s) := by
    split
    · exact h.takeFault (cabOf_valid hb)
    · exact h
  unfold Machine.takeBayFaults
  dsimp only
  generalize (if blockInsulation x && !(s.linkBay b).insulation then
      Machine.takeFault .block (cabOf b) .bayInsulation ⟨.bay, b⟩ s else s) = u at *
  split
  · exact (h1.takeFault (cabOf_valid hb)).putLinkBay
  · exact h1.putLinkBay

theorem takeEnergy (h : Powered w s) {b : Nat} {x : BayBlock} : Powered w (takeEnergy b x s) :=
  h.countEnergy.updateAcceptance.putLinkBay

theorem takePresence (h : Powered .none s) {b : Nat} (hb : validBay b = true) {x : BayBlock} :
    Powered .none (takePresence b x s) := by
  unfold Machine.takePresence
  dsimp only
  split
  · exact h.putLinkBay
  · split
    · exact h.putLinkBay.plugPresent
    · exact h.putLinkBay.plugAbsent hb

theorem evaluateOverdraw (h : Powered w s) : Powered w (evaluateOverdraw s) := by
  unfold Machine.evaluateOverdraw
  split
  · exact h
  · split
    · exact h.putEnv rfl
    · exact h.putEnv rfl

theorem takePower (h : Powered w s) {c : Nat} {m : StatusMsg} : Powered w (takePower c m s) :=
  h.takeReported.evaluateOverdraw

theorem serveStatus (h : Powered .none s) {c : Nat} (hc : validCab c = true) {m : StatusMsg} :
    Powered .none (serveStatus c m s) := by
  refine takePower (forEach_keeps (fun b hb t h => ?_) h)
  have hv := ((mem_baysOf hc).mp hb).1
  exact ((h.takePresence hv).takeBayFaults hv).takeEnergy

/-- A link is adopted, and its modules are still out of service (R137). -/
theorem markAdopted (h : Powered w s) {c : Nat} : Powered w (markAdopted c s) := by
  have h1 : Powered w (Machine.putLink c { (s.link c).endLostHold with adopted := true } s) :=
      h.putLink rfl fun _ => rfl
  unfold Machine.markAdopted
  dsimp only
  split
  · exact h1.examineRaises
  · exact h1

theorem storeSeen (h : Powered w s) {b : Nat} {x : BayBlock} : Powered w (storeSeen b x s) := h.putLinkBay

/-- The modules of a cabinet whose link is UP and adopted, all of whose modules were out of service, are adopted
(R125). -/
theorem adoptModules (h : Powered w s) {c : Nat} (hu : (s.link c).state = .up) (ha : (s.link c).adopted = true)
    (hm : ∀ m, (s.module c m).state.outOfService) {l : List Nat} {v : Vector Byte 4} :
      Powered w (adoptModules c l v s) := by
  -- no setpoint stands in the cabinet while its modules come
  have h0 : ∀ b, cabOf b = c → (s.power b).commanded = 0 ∨ w.carried b := fun b hb => by
    have hz : bonded s b = 0 := bonded_zero fun m => hb ▸ hm m
    exact (h.carried b).imp_left fun hc => by omega
  have h1 : Powered w (forEach allModules (fun m s =>
      if l.contains m then Machine.putModule c m (adoptedModule c (get1 v 0 m)) s else s) s) := by
    refine (forEach_keeps (P := fun t => Powered w t ∧ t.links = s.links ∧ t.bond.bays = s.bond.bays)
      (fun m _ t ht => ?_) ⟨h, rfl, rfl⟩).1
    split
    · have hx : (adoptedModule c (get1 v 0 m)).contactor = none := by
        unfold adoptedModule
        split
        · rfl
        · split <;> rfl
      obtain ⟨ht, hl, hb⟩ := ht
      have hlink : t.link c = s.link c := congrArg (get1 · Link.reset c) hl
      refine ⟨ht.putModule (by rw [hx]; nofun) (.inl (by rw [hlink]; exact ⟨hu, ha⟩)) fun b hcab hst hbay => .inr ?_,
        hl, hb⟩
      have hpow : t.power b = s.power b := congrArg (get1 · BayPower.reset b) hb
      refine (h0 b hcab).imp_left fun e => ?_
      have : 1 ≤ bonded t b := by
        by_cases hv : validModule m = true
        · exact List.length_pos_of_mem (mem_modulesOf.mpr ⟨hv, hcab ▸ hst, hcab ▸ hbay⟩)
        · have : t.module c m = Module.reset := by
            unfold State.module moduleIndex
            simp only [hv, Bool.false_and, Bool.false_eq_true, if_false]
            rfl
          rw [this] at hst
          cases hst
      rw [hpow]
      omega
    · exact ht
  unfold Machine.adoptModules
  dsimp only
  split
  · exact h1.requestPass
  · exact h1

theorem adoptStatus (h : Powered .none s) {c : Nat} (hc : validCab c = true) (hu : (s.link c).state = .up)
    (hn : (s.link c).adopted = false) {m : StatusMsg} : Powered .none (adoptStatus c m s) := by
  have hv : ∀ b ∈ baysOf c, validBay b = true := fun b hb => ((mem_baysOf hc).mp hb).1
  have hm : ∀ k, (s.module c k).state.outOfService := fun k =>
    ((h.modules c k).resolve_left fun e => by rw [hn] at e; cases e.2).resolve_right id
  have h1 : Powered .none (Machine.markAdopted c s) := h.markAdopted
  have hk : ((Machine.markAdopted c s).link c).state = .up ∧ ((Machine.markAdopted c s).link c).adopted = true ∧
      ∀ k, (Machine.markAdopted c s).module c k = s.module c k := by
    unfold Machine.markAdopted
    dsimp only
    split
    · have hr := examineRaises_ripple (Machine.putLink c { (s.link c).endLostHold with adopted := true } s)
      rw [(link_of_ripple hr c).1, (link_of_ripple hr c).2, link_putLink_self hc]
      exact ⟨hu, rfl, fun k => (module_of_ripple hr c k).trans rfl⟩
    · rw [link_putLink_self hc]
      exact ⟨hu, rfl, fun k => rfl⟩
  obtain ⟨hku, hka, hkm⟩ := hk
  have h2 : Powered .none (Machine.adoptModules c (s.link c).installed m.modules (Machine.markAdopted c s)) :=
    h1.adoptModules hku hka fun k => by rw [hkm]; exact hm k
  unfold Machine.adoptStatus
  refine takePower ?_
  refine forEach_keeps (P := Powered .none) (fun b hb t h => h.takeEnergy) ?_
  refine forEach_keeps (P := Powered .none) (fun b hb t h => h.storeSeen.takeBayFaults (hv b hb)) ?_
  exact forEach_keeps (P := Powered .none) (fun b hb t h => h.adoptBay (hv b hb)) h2

theorem actStatus (h : Powered .none s) {c : Nat} (hc : validCab c = true) {m : StatusMsg} :
    Powered .none (actStatus c m s) := by
  unfold Machine.actStatus
  dsimp only
  split
  · next hu =>
    split
    · exact h.serveStatus hc
    · next ha => exact h.adoptStatus hc hu (by simpa using ha)
  · exact h.serveStatus hc
  all_goals exact h

/-! ### The other messages -/

theorem takeChecked (h : Powered .none s) {c : Nat} {good : Bool} {act : State → State}
    (ha : good = true → ∀ t, Powered .none t → Powered .none (act t)) : Powered .none (takeChecked c good act s) := by
  unfold Machine.takeChecked
  split
  · next hg => exact ha hg _ h.goodFrame
  · exact h.linkFrameFault

theorem bondDescriptor (h : Powered w s) {c : Nat} (hn : ∀ m, (s.module c m).state.outOfService) {l : List Nat} :
    Powered w (bondDescriptor c l s) := by
  refine sendIfUp (forEach_keeps (P := fun t => Powered w t ∧ ∀ m, (t.module c m).state.outOfService)
    (fun m _ t ht => ?_) ⟨h, hn⟩).1
  split
  · exact ht
  · refine ⟨ht.1.putModule nofun (.inr (.inl (.inr (.inl rfl)))) fun b _ hb _ => ?_, fun k => ?_⟩
    · rcases ht.2 m with e | e | e <;> rw [e] at hb <;> cases hb
    · rcases module_putModule_cases c m c k { state := .absent, bay := none, contactor := none } t with e | ⟨-, -, e⟩
      · rw [e]; exact ht.2 k
      · rw [e]; exact .inr (.inl rfl)

theorem bringUp (h : Powered .none s) {c : Nat} (hc : validCab c = true) (hu : (s.link c).state ≠ .up)
    (hi : (s.link c).state ≠ .isolated) {l : List Nat} : Powered .none (bringUp c l s) := by
  have h1 : Powered .none (Machine.putLink c ((s.link c).trained l) s) :=
    h.mark.restateLink hc hu (h.unmarked hi (by simp [Link.trained, Link.eachBay]))
  exact (h1.bondDescriptor fun m =>
    ((h.modules c m).resolve_left fun e => hu e.1).resolve_right id).linkChanged

theorem actDescriptor (h : Powered .none s) {c : Nat} (hc : validCab c = true) {ms : List Byte} :
    Powered .none (actDescriptor c ms s) := by
  unfold Machine.actDescriptor
  split
  · next hs => exact h.bringUp hc (by rw [hs]; decide) (by rw [hs]; decide)
  · next hs => exact h.bringUp hc (by rw [hs]; decide) (by rw [hs]; decide)
  all_goals exact h

theorem actPlug (h : Powered .none s) {c : Nat} (hc : validCab c = true) {p x : Byte}
    (hp : validPosition (num p) = true) : Powered .none (actPlug c p x s) := by
  unfold Machine.actPlug
  split
  · dsimp only
    split
    · exact h.putLinkBay.plugPresent
    · exact h.putLinkBay.plugAbsent (validBay_bayAt hc hp)
  · exact h

theorem actIdentity (h : Powered w s) {c : Nat} {p : Byte} {v : U24} {a : U16} : Powered w (actIdentity c p v a s) := by
  unfold Machine.actIdentity
  split
  · exact h.takeIdentity
  · exact h

theorem actModuleReport (h : Powered .none s) {c : Nat} (hc : validCab c = true) {m r : Byte} :
    Powered .none (actModuleReport c m r s) := by
  unfold Machine.actModuleReport
  dsimp only
  split
  · split
    · exact h.moduleOpened
    · exact h.moduleClosed
    · exact h.moduleFault.takeFault hc
  · exact h

theorem actFault (h : Powered .none s) {c : Nat} (hc : validCab c = true) {code kind number : Byte} :
    Powered .none (actFault c code kind number s) := by
  unfold Machine.actFault
  dsimp only
  split
  · split
    · exact h.takeFault hc
    · exact h
  · exact h

theorem messageEffect (h : Powered .none s) {i : Instr} {f : State → State} (hi : messageEffect i = some f)
    {c : Nat} (hc : validCab c = true) (hm : ∀ x, encodeMessage i = some x → x.1 = c) : Powered .none (f s) := by
  cases i <;> cases hi
  case descriptor c' ms =>
    obtain rfl : c' = c := hm _ rfl
    exact h.takeChecked fun _ _ h => h.actDescriptor hc
  case status c' m =>
    obtain rfl : c' = c := hm _ rfl
    exact h.takeChecked fun _ _ h => h.actStatus hc
  case plug c' p x =>
    obtain rfl : c' = c := hm _ rfl
    refine h.takeChecked fun hv _ h => h.actPlug hc ?_
    unfold validPlug at hv
    exact (Bool.and_eq_true _ _ ▸ hv).1
  case identity => exact h.takeChecked fun _ _ h => h.actIdentity
  case moduleReport c' m r =>
    obtain rfl : c' = c := hm _ rfl
    exact h.takeChecked fun _ _ h => h.actModuleReport hc
  case faultMessage c' k n x y =>
    obtain rfl : c' = c := hm _ rfl
    exact h.takeChecked fun _ _ h => h.actFault hc

/-! ### Frames -/

theorem setCabAssembler (h : Powered w s) {c : Nat} {a : Assembler} : Powered w (setCabAssembler c a s) :=
    h.putLink rfl id

theorem dropFrame (h : Powered w s) {c : Nat} : Powered w (dropFrame c s) := h.setCabAssembler.linkFrameFault

theorem receiveCabinetByte (h : Powered .none s) {c : Nat} (hc : validCab c = true) {b : Byte} :
    Powered .none (receiveCabinetByte c b s) := by
  unfold Machine.receiveCabinetByte
  split
  · exact h.setCabAssembler
  · exact h.dropFrame
  · unfold takeCabinetFrame
    split
    · exact h.setCabAssembler.linkFrameFault
    · split
      · next kind body f hf =>
        obtain ⟨i, hi, hfi⟩ := Option.bind_eq_some_iff.mp hf
        exact h.setCabAssembler.messageEffect hfi hc (messageOf_cab hi)
      · exact h.setCabAssembler.linkFrameFault

theorem takeFrame (h : Powered w s) {f : OrderFrame} {kind : Byte} {e : State → State × List Byte}
    (he : Powered w (e s).1) : Powered w (takeFrame f kind e s) := by
  unfold Machine.takeFrame
  split
  · exact he.putOrder
  · split
    · exact h.putOrder
    · exact h

theorem takeCompleted (h : Powered .none s) {f : OrderFrame} : Powered .none (takeCompleted f s) := by
  unfold Machine.takeCompleted
  split
  · exact h.takeFrame h
  · exact h.takeFrame h
  · split
    · next he => exact h.takeFrame (h.orderEffect he)
    · exact h

theorem receiveOrderByte (h : Powered .none s) {b : Byte} : Powered .none (receiveOrderByte b s) := by
  have ha : ∀ a, Powered .none (setAssembler a s) := fun a => h.putOrder
  unfold Machine.receiveOrderByte
  split
  · exact ha _
  · exact ha _
  · split
    · exact (ha _).takeCompleted
    · exact ha _

theorem cabinetFrameSent (h : Powered w s) {c : Nat} : Powered w (Machine.putLink c (s.link c).frameSent s) := by
  have hk : (s.link c).frameSent.state = (s.link c).state ∧ (s.link c).frameSent.adopted = (s.link c).adopted := by
    unfold Link.frameSent
    split <;> exact ⟨rfl, rfl⟩
  exact h.putLink hk.1 fun ha => hk.2.trans ha

/-! ### Timers -/

theorem expireIdentity (h : Powered w s) {b : Nat} : Powered w (expireIdentity b s) := by
  unfold Machine.expireIdentity
  split
  · exact h.bind h.defaultPlan
  · exact h

theorem expireRamp (h : Powered .none s) {b : Nat} (hb : validBay b = true) : Powered .none (expireRamp b s) := by
  unfold Machine.expireRamp
  split
  · refine takeFault (h.putPower ?_) (cabOf_valid hb)
    rfl
  · exact h

/-- A fault with no effect of its own leaves the modules and the links. -/
theorem takeRecorded_hardware {source : FaultSource} {c : Nat} {code : FaultCode} {x : Subject} (s : State)
    (he : ∀ t, Machine.faultEffect source c ⟨code, x⟩ t = t) :
    (Machine.takeFault source c code x s).bond = s.bond ∧ (Machine.takeFault source c code x s).links = s.links := by
  have halarm : ∀ t, (Machine.evaluateAlarm t).bond = t.bond ∧ (Machine.evaluateAlarm t).links = t.links := fun t => by
    obtain ⟨lines, he, -⟩ := evaluateAlarm_eq t
    rw [he]
    exact ⟨rfl, rfl⟩
  have hnotice : ∀ first flag t, (Machine.faultNotice c first flag t).bond = t.bond ∧
      (Machine.faultNotice c first flag t).links = t.links := fun first flag t => by
    unfold Machine.faultNotice
    dsimp only
    split
    · rw [notify_eq]
      exact ⟨rfl, rfl⟩
    · exact ⟨rfl, rfl⟩
  have hrecord : ∀ first t, (Machine.recordFault c first t).bond = t.bond ∧
      (Machine.recordFault c first t).links = t.links := fun first t => by
    unfold Machine.recordFault
    dsimp only
    split <;> exact ⟨rfl, rfl⟩
  unfold Machine.takeFault
  dsimp only
  rw [(halarm _).1, (halarm _).2, (hnotice _ _ _).1, (hnotice _ _ _).2, he, (hrecord _ _).1, (hrecord _ _).2]
  exact ⟨rfl, rfl⟩

theorem takeRecorded_module {source : FaultSource} {c : Nat} {code : FaultCode} {x : Subject} (s : State)
    (he : ∀ t, Machine.faultEffect source c ⟨code, x⟩ t = t) (d m : Nat) :
    (Machine.takeFault source c code x s).module d m = s.module d m :=
  congrArg (fun b : BondController => get1 b.modules Module.reset (moduleIndex d m)) (takeRecorded_hardware s he).1

theorem takeRecorded_link {source : FaultSource} {c : Nat} {code : FaultCode} {x : Subject} (s : State)
    (he : ∀ t, Machine.faultEffect source c ⟨code, x⟩ t = t) (d : Nat) :
    (Machine.takeFault source c code x s).link d = s.link d :=
  congrArg (fun v => get1 v Link.reset d) (takeRecorded_hardware s he).2

theorem expireContactor (h : Powered .none s) {c m : Nat} : Powered .none (expireContactor c m s) := by
  unfold Machine.expireContactor
  split
  · next ht =>
    have hs := h.contactors c m ht
    refine requestPass (putModule (h.takeRecorded fun _ => rfl) nofun (.inr (.inl (.inr (.inr rfl)))) fun b _ hb _ =>
      ?_)
    rw [takeRecorded_module s fun _ => rfl] at hb
    rcases hs with e | e <;> rw [e] at hb <;> cases hb
  · exact h

theorem expireProbe (h : Powered .none s) {c : Nat} (hc : validCab c = true) : Powered .none (expireProbe c s) := by
  unfold Machine.expireProbe
  dsimp only
  split
  · split
    · next hs =>
      split
      · exact h.putLink (Link.hand_state ..) fun ha => (Link.hand_adopted ..).trans ha
      · refine linkChanged (h.mark.restateLink hc (by rw [hs]; decide) (h.unmarked (by rw [hs]; decide) ?_))
        simp
    · exact h.putLink (Link.hand_state ..) fun ha => (Link.hand_adopted ..).trans ha
    all_goals exact h
  · exact h

theorem expireKeep (h : Powered w s) {c : Nat} : Powered w (expireKeep c s) := by
  unfold Machine.expireKeep
  dsimp only
  split
  · exact h.putLink (Link.hand_state ..) fun ha => (Link.hand_adopted ..).trans ha
  · exact h

theorem loseLink (h : Powered .none s) {c : Nat} (hc : validCab c = true) (hu : (s.link c).state = .up) :
    Powered .none (loseLink c s) := by
  have h1 : Powered (.leaving c) (Machine.putLink c { (s.link c).leaveUp .lost with silence := none } s) :=
    h.mark.leaveLink hc (h.unmarked (by rw [hu]; decide) (by simp [Link.leaveUp]))
  have hl1 : ((Machine.putLink c { (s.link c).leaveUp .lost with silence := none } s).link c).state = .lost := by
    rw [link_putLink_self hc]; rfl
  unfold Machine.loseLink
  dsimp only
  generalize Machine.putLink c { (s.link c).leaveUp .lost with silence := none } s = u at *
  have h2 : Powered (.leaving c) (Machine.takeFault .block c .linkLost ⟨.cabinet, c⟩ u) := h1.takeRecorded fun _ => rfl
  have hl2 : ((Machine.takeFault .block c .linkLost ⟨.cabinet, c⟩ u).link c).state = .lost := by
    rw [takeRecorded_link u fun _ => rfl, hl1]
  generalize Machine.takeFault .block c .linkLost ⟨.cabinet, c⟩ u = v at *
  have h3 : Powered (.leaving c) (Machine.holdCabinet .link c v) := h2.holdCabinet fun _ => id
  have hg : ∀ b, cabOf b = c → _ = 0 := fun b => holdCabinet_grant hc h3
  have hk := (Kin.holdCabinet .link c v).trans (.bondLeavesUp true c _)
  have hk2 := Kin.bondLeavesUp true c (Machine.holdCabinet .link c v)
  refine linkChanged ((h3.bondLeavesUp hc).close (by rw [hk.state, hl2]; decide) fun b hb => ?_)
  exact Nat.le_zero.mp (Nat.le_trans (hk2.grant b) (Nat.le_of_eq (hg b hb)))

theorem expireSilence (h : Powered .none s) {c : Nat} (hc : validCab c = true) : Powered .none (expireSilence c s) := by
  unfold Machine.expireSilence
  dsimp only
  split
  · split
    · next hu => exact h.loseLink hc hu
    · unfold silenceIsolated
      dsimp only
      refine putLink (each (fun b t h => h.putPower ?_) h) ?_ ?_
      · rfl
      · rfl
      · exact id
    all_goals exact h
  · exact h

theorem expireLostHold (h : Powered .none s) {c : Nat} (hc : validCab c = true) :
    Powered .none (expireLostHold c s) := by
  have h1 : Powered .none (Machine.putLink c (s.link c).endLostHold s) := h.putLink rfl id
  unfold Machine.expireLostHold
  dsimp only
  split
  · split
    · next hs =>
      have hl : ((Machine.putLink c (s.link c).endLostHold s).link c).state = .lost := by
        rw [link_putLink_self hc]; exact hs
      exact linkChanged (examineRaises (h1.enterTraining hc (by rw [hl]; decide) (by rw [hl]; decide)))
    · exact h1.examineRaises
  · exact h

end Powered
end Sys2Proof.Machine
end

section
/-! A restart, block by block: what it makes of the state, and that it keeps the invariant of O60. -/

namespace Sys2Proof.Machine

/-! ### All links at once -/

/-- Every link passes through `g`. -/
def eachLink (g : Link → Link) (s : State) : State := forEach allCabs (fun c s => putLink c (g (s.link c)) s) s

theorem eachLink_link (g : Link → Link) (s : State) {c : Nat} (hc : validCab c = true) :
    (eachLink g s).link c = g (s.link c) := by
  have h := forEach_read (fun s c => s.link c) (fun c s => putLink c (g (s.link c)) s)
    (fun c x => if validCab c = true then g x else x) (fun i j s => by
      rw [link_putLink]
      by_cases hij : i = j
      · subst hij; simp [validCab_iff]
      · simp [hij]) allCabs_nodup s c
  refine h.trans ?_
  rw [if_pos (mem_allCabs.mpr hc), if_pos hc]

theorem eachLink_eq (g : Link → Link) (s : State) : ∃ x, eachLink g s = { s with links := x } := by
  unfold eachLink
  refine forEach_keeps (P := fun t => ∃ x, t = { s with links := x }) (fun c _ t h => ?_) ⟨_, rfl⟩
  obtain ⟨x, rfl⟩ := h
  exact ⟨_, rfl⟩

theorem putLink_self (c : Nat) (s : State) : putLink c (s.link c) s = s := by
  unfold putLink State.link
  rw [set1_get1]

/-- A link that is UP is handed the message. -/
def Link.handIfUp (m : CabMsg) (l : Link) : Link := if l.state = .up then l.hand m else l

theorem sendIfUp_eq (c : Nat) (m : CabMsg) (s : State) : sendIfUp c m s = putLink c ((s.link c).handIfUp m) s := by
  unfold sendIfUp Link.handIfUp
  split
  · rfl
  · rw [putLink_self]

theorem restartBonds_eq (s : State) : restartBonds s =
    { eachLink (Link.handIfUp .zero) (eachLink Link.discardQueued s) with bond := BondController.reset } := by
  have h : ∀ t, forEach allCabs (fun c => sendIfUp c .zero) t = eachLink (Link.handIfUp .zero) t := fun t =>
    congrArg (fun f => forEach allCabs f t) (funext fun c => funext fun u => sendIfUp_eq c .zero u)
  unfold restartBonds
  dsimp only
  rw [h]
  rfl

/-! ### The state in which the envelope restarts -/

/-- One link at a restart, with the discard and the ZERO of R128 and R186. -/
def Link.rebooted (l : Link) : Link := (l.discardQueued.handIfUp .zero).restarted

/-- What the blocks before the envelope make of the state (log entry 22). -/
structure Rebooted (s t : State) : Prop where
  session : ∀ b, t.session b = Session.vacant (s.session b).serial
  entry   : ∀ e, t.entry e = if (s.entry e).state = .claimed
              then { s.entry e with state := .opened, claimant := none } else s.entry e
  link    : ∀ c, validCab c = true → t.link c = (s.link c).rebooted
  rest    : ∃ sessions entries links, t = { s with
              sessions := sessions, plans := { s.plans with entries := entries }, links := links
              bond := BondController.reset, ready := ReadyList.reset, order := s.order.restarted
              alloc := { s.alloc with snapshot := none, again := false, stale := false, lastOrder := []
                                      periodTimer := some (s.alloc.period * 1000) } }

/-- The state that the envelope's restart finds. -/
def rebootBlocks (s : State) : State :=
  restartAllocator { restartLinks (restartBonds (reopenClaims (closeForRestart { s with order := s.order.restarted })))
    with ready := ReadyList.reset }

theorem applyRestart_eq (s : State) : applyRestart s = evaluateAlarm (restartEnvelope (rebootBlocks s)) := rfl

theorem rebootBlocks_spec (s : State) : Rebooted s (rebootBlocks s) := by
  have hs := closeAll_session { s with order := s.order.restarted }
  have he := closeAll_entry { s with order := s.order.restarted }
  obtain ⟨x, y, hq⟩ := closeAll_eq { s with order := s.order.restarted }
  unfold rebootBlocks
  generalize reopenClaims (closeForRestart { s with order := s.order.restarted }) = t at *
  rw [restartBonds_eq]
  have hl := fun c => eachLink_link Link.discardQueued t (c := c)
  obtain ⟨l, hd⟩ := eachLink_eq Link.discardQueued t
  generalize eachLink Link.discardQueued t = u at *
  have hl2 := fun c => eachLink_link (Link.handIfUp .zero) u (c := c)
  obtain ⟨l2, hz⟩ := eachLink_eq (Link.handIfUp .zero) u
  generalize eachLink (Link.handIfUp .zero) u = v at *
  have hl3 := fun c => eachLink_link Link.restarted { v with bond := BondController.reset } (c := c)
  obtain ⟨l3, hr⟩ := eachLink_eq Link.restarted { v with bond := BondController.reset }
  change Rebooted s (restartAllocator { eachLink Link.restarted { v with bond := BondController.reset } with
    ready := ReadyList.reset })
  generalize eachLink Link.restarted { v with bond := BondController.reset } = z at *
  have ht : ∀ c, t.link c = s.link c := fun c => by rw [hq]; rfl
  have hsz : ∀ b, z.session b = t.session b := fun b => by rw [hr, hz, hd]; rfl
  have hez : ∀ e, z.entry e = t.entry e := fun e => by rw [hr, hz, hd]; rfl
  exact {
    session := fun b => (hsz b).trans (hs b)
    entry := fun e => (hez e).trans (he e)
    link := fun c hc => by
      have h3 : z.link c = (v.link c).restarted := hl3 c hc
      exact h3.trans (by rw [hl2 c hc, hl c hc, ht]; rfl)
    rest := ⟨x, y, l3, by rw [hr, hz, hd, hq]; rfl⟩ }

theorem Link.rebooted_isolated (l : Link) : l.rebooted.state = .isolated ↔ l.state = .isolated := by
  have hs : (l.discardQueued.handIfUp .zero).state = l.state := by
    unfold Link.handIfUp
    split
    · exact Link.hand_state ..
    · rfl
  unfold Link.rebooted Link.restarted
  dsimp only
  rw [hs]
  split
  · next hi => exact iff_of_true hi hi
  · next hi =>
    rw [Link.train_state]
    exact iff_of_false (by decide) hi

namespace Powered

variable {w : Waiver} {s : State}

/-- With no session, no grant and no setpoint there is nothing to bound. -/
theorem ofIdle (hd : PowerRange s.plans.defaultPlan.power) (he : ∀ e, PowerRange (s.entry e).plan.power)
    (hs : ∀ b, ∃ n, s.session b = Session.vacant n) (hn : s.alloc.snapshot = none) (ho : s.alloc.lastOrder = [])
    (hb : s.bond = BondController.reset) (hi : ∀ c, (s.cabFaults c).isolated = true ↔ (s.link c).state = .isolated) :
    Powered .none s := by
  have hg : ∀ b, (s.session b).grant = 0 := fun b => by
    obtain ⟨n, hn⟩ := hs b
    rw [hn]; rfl
  have hm : ∀ c m, s.module c m = Module.reset := fun c m => by
    unfold State.module
    rw [hb]
    exact reset_module c m
  have hp : ∀ b, s.power b = BayPower.reset := fun b => by
    unfold State.power
    rw [hb]
    exact reset_power b
  have hc : clippedSum s = 0 := bays_sum_eq_zero fun b => by rw [hg]; exact Nat.min_zero _
  exact {
    defaultPlan := hd, entries := he
    sessions := fun b => by
      obtain ⟨n, hn⟩ := hs b
      rw [hn]
      exact .vacant n
    snapshot := fun p h => by rw [hn] at h; cases h
    linked := fun b h => absurd (hg b) h
    listed := fun b h => absurd (hg b) h
    order := by rw [ho]; exact ⟨List.nodup_nil, nofun⟩
    granted := fun b => .inl (by rw [hp]; exact Nat.zero_le _)
    carried := fun b => .inl (by rw [hp]; exact Nat.zero_le _)
    modules := fun c m => .inr (.inl (by rw [hm]; simp [ModuleState.outOfService, Module.reset]))
    isolated := fun c => .inl (hi c)
    contactors := fun c m h => by rw [hm] at h; cases h
    available := .inl (by rw [hc]; exact Nat.zero_le _)
    stop := fun _ => .inl hc }

theorem ofRebooted {t : State} (h : Powered .none s) (hr : Rebooted s t) : Powered .none t := by
  obtain ⟨x, y, l, ht⟩ := hr.rest
  refine ofIdle ?_ (fun e => ?_) (fun b => ⟨_, hr.session b⟩) ?_ ?_ ?_ fun c => ?_
  · rw [ht]; exact h.defaultPlan
  · rw [hr.entry]
    split
    · exact h.entries e
    · exact h.entries e
  · rw [ht]
  · rw [ht]
  · rw [ht]
  · have hf : t.cabFaults c = s.cabFaults c := by rw [ht]; rfl
    have hi : (s.cabFaults c).isolated = true ↔ (s.link c).state = .isolated := (h.isolated c).resolve_right id
    rw [hf, hi]
    by_cases hc : validCab c = true
    · rw [hr.link c hc, Link.rebooted_isolated]
    · rw [link_out hc, link_out hc]

theorem applyRestart (h : Powered .none s) : Powered .none (applyRestart s) := by
  have h1 := h.ofRebooted (rebootBlocks_spec s)
  rw [applyRestart_eq]
  generalize rebootBlocks s = t at *
  refine evaluateAlarm (recompute (recomputeBuilding (placeWalker (h1.putEnv ?_))))
  rfl

theorem reset : Powered .none State.reset := by
  refine ofIdle (s := State.reset) (.inl rfl) (fun e => ?_) (fun b => ⟨0, reset_session b⟩) rfl rfl rfl fun c => ?_
  · rw [reset_entry]; exact .inl rfl
  · rw [reset_cabFaults, reset_link]; decide

theorem putLines (h : Powered w s) {lines : Vector Line 8} {waiting : List Instr} :
    Powered w { s with lines := lines, pending := waiting } := { h with }

/-! ### Time -/

theorem tick (h : Powered .none s) : Powered .none (tick s) := by
  have hl : ∀ c, ((Machine.tick s).link c).state = (s.link c).state ∧
      ((Machine.tick s).link c).adopted = (s.link c).adopted :=
    fun c => by
      rcases link_tick_cases s c with ⟨e, e'⟩ | e
      · rw [e, e']; exact ⟨rfl, rfl⟩
      · rw [e]; exact ⟨rfl, rfl⟩
  have hp : ∀ b, ((Machine.tick s).power b).commanded = (s.power b).commanded := fun b => by rw [power_tick]; rfl
  have hg : ∀ b, ((Machine.tick s).session b).grant = (s.session b).grant := fun b => by rw [session_tick]; rfl
  have hb : ∀ b, bonded s b ≤ bonded (Machine.tick s) b := fun b => bonded_mono fun m h1 h2 => by
    rw [module_tick]; exact ⟨h1, h2⟩
  have hc : clippedSum (Machine.tick s) = clippedSum s := clippedSum_congr hp hg
  exact {
    defaultPlan := h.defaultPlan, entries := h.entries, snapshot := h.snapshot, order := h.order
    sessions := fun b => by rw [session_tick]; exact { h.sessions b with }
    linked := fun b hn => by rw [(hl _).1]; exact h.linked b (hg b ▸ hn)
    listed := fun b hn => h.listed b (hg b ▸ hn)
    granted := fun b => by rw [hp, hg]; exact h.granted b
    carried := fun b => by
      rw [hp]
      exact (h.carried b).imp_left fun hk => Nat.le_trans hk (Nat.mul_le_mul_left 300 (hb b))
    modules := fun c m => by rw [(hl c).1, (hl c).2, module_tick]; exact h.modules c m
    isolated := fun c => by rw [(hl c).1]; exact h.isolated c
    contactors := fun c m hm => by
      rw [module_tick] at hm ⊢
      exact h.contactors c m ((Timer.tick_isSome _).symm.trans hm)
    available := by rw [hc]; exact h.available
    stop := fun hs => by rw [hc]; exact h.stop hs }

end Powered
end Sys2Proof.Machine
end

section
/-! Every step keeps the bounds on grants and setpoints: O60. -/

namespace Sys2Proof.Machine

theorem takeOverdraw_env (s : State) : (takeOverdraw s).env = s.env := by
  have hn : ∀ flag t, (overdrawNotice flag t).env = t.env := fun flag t => by
    unfold overdrawNotice
    split
    · exact (notify_ripple _ _ _).env
    · rfl
  unfold takeOverdraw
  dsimp only
  obtain ⟨lines, he, -⟩ := evaluateAlarm_eq (overdrawNotice s.faults.overdrawMinute.isNone
    (if s.faults.overdrawMinute.isNone then { s with faults :=
      { s.faults with overdrawMinute := some s.clock.minute } } else s))
  rw [he]
  refine (hn _ _).trans ?_
  split <;> rfl

namespace Powered

variable {w : Waiver} {s : State}

theorem takeOrder (h : Powered .none s) {i : Instr} {f : State → State × List Byte}
    (hi : Machine.orderEffect i = some f) :
    Powered .none (takeOrder i f s) := by
  unfold Machine.takeOrder
  split
  · exact h.takeFrame (h.orderEffect hi)
  · exact h

theorem walk (h : Powered .none s) : Powered .none (walk s) := by
  unfold Machine.walk
  dsimp only
  split
  · exact h
  · split
    · exact h
    · split
      · refine recompute (h.putEnv ?_)
        rfl
      · exact h

theorem expireFilter (h : Powered .none s) {l : Nat} : Powered .none (expireFilter l s) := by
  unfold Machine.expireFilter
  dsimp only
  split
  · exact handLevel h.putLine
  · exact h

/-- The overdraw timer's expiry sheds the excess (R97, R110). -/
theorem shedOverdraw (h : Powered .none s) :
    Powered .none (shed .overdraw ((s.env.available : Int) - s.env.excess.getD 0) (Machine.takeOverdraw s)) := by
  refine h.takeOverdraw.unbound.shedWithin ?_
  rw [takeOverdraw_env]
  exact Int.sub_le_self _ (Int.natCast_nonneg _)

theorem event (h : Powered .none s) {i : Instr} {f : State → State} (hi : Event i f) : Powered .none (f s) := by
  cases hi
  case powerOnReset => exact reset.putLines
  case restartTakesEffect =>
    dsimp only
    split
    · exact h.applyRestart
    · exact h
  case orderUnknownKind =>
    dsimp only
    split
    · exact h
    · exact h.takeFrame h
  case orderFrameDropped => exact h.putOrder
  case orderByteGapTimeout => exact h.putOrder
  case heldOrderTaken =>
    dsimp only
    split
    · split
      · exact takeCompleted (s := { s with order := { s.order with held := none } }) h.putOrder
      · exact h
    · exact h
  case orderLinkFrameSent => exact h.putOrder
  case cabinetFrameError hu => exact h.dropFrame
  case cabinetByteGapTimeout hu =>
    unfold exceedGap
    split
    · exact h
    · exact h.dropFrame
  case cabinetFrameSent hu => exact h.cabinetFrameSent
  case minuteEvent =>
    have h1 : Powered .none (advanceMinute s) := { h with }
    exact (each (fun _ _ h => h.minuteAt) h1).walk
  case identityTimerExpiry hu => exact h.expireIdentity
  case settlingTimerExpiry =>
    dsimp only
    split
    · refine recompute (h.putEnv ?_)
      rfl
    · exact h
  case meterWindowExpiry =>
    dsimp only
    split
    · refine recompute (recomputeBuilding (h.putEnv ?_))
      rfl
    · exact h
  case overdrawTimerExpiry =>
    dsimp only
    split
    · refine h.shedOverdraw.putEnv ?_
      rfl
    · exact h
  case periodTimerExpiry =>
    dsimp only
    split
    · exact h.requestPass.startPeriod
    · exact h
  case passComplete => exact h.completePass
  case rampTimerExpiry hu => exact h.expireRamp hu
  case contactorTimerExpiry hu _ => exact h.expireContactor
  case probeTimerExpiry hu => exact h.expireProbe hu
  case keepTimerExpiry hu => exact h.expireKeep
  case silenceTimerExpiry hu => exact h.expireSilence hu
  case lostHoldTimerExpiry hu => exact h.expireLostHold hu
  case yardPinChange => exact h.putLine
  case lineFilterExpiry hu => exact h.expireFilter
  case alarmBlinkToggle hu => exact h.putLine
  case orderByteReceived => exact h.receiveOrderByte
  case cabinetByteReceived hu => exact h.receiveCabinetByte hu

theorem exec (h : Powered .none s) {i : Instr} {s' : State} (hi : Machine.exec i s = .next s') : Powered .none s' := by
  rcases exec_next hi with ⟨f, hf, rfl⟩ | ⟨f, c, hf, hc, hm, rfl⟩ | ⟨f, hf, rfl⟩
  · exact h.takeOrder hf
  · exact h.messageEffect hf hc hm
  · exact h.event hf

theorem step (h : Powered .none s) {s' : State} (hs : Machine.step s = .next s') : Powered .none s' :=
  step_keeps (P := Powered .none) (fun _ _ h => { h with }) (fun _ _ _ hi h => h.exec hi) (fun _ _ h => h.tick) hs h

end Powered
end Sys2Proof.Machine

open Sys2Proof Sys2Proof.Machine

/-- Settles O60: the invariant is that of the parts of a step with nothing left open between them. -/
theorem stepKeepsPower : Obligations.StepKeepsPower :=
  fun s t h ht => (powered_iff t).mp (((powered_iff s).mpr h).step ht)

/-- Settles O56: the predicates that every step keeps, at reset. -/
theorem invariantsHoldAtReset : Obligations.InvariantsHoldAtReset := by
  obtain ⟨hb, hs⟩ := (sound_iff _).mp reset_sound
  exact ⟨hb, ⟨rfl, rfl⟩, hs, (powered_iff _).mp .reset⟩

end

section
/-! What a restart does, block by block: O18. -/

namespace Sys2Proof.Machine

/-! ### Frames on a link -/

/-- The frames of a link: those that wait, and the one being sent. -/
def Link.frames (l : Link) : List CabMsg × Option CabMsg := (l.outbound, l.sending)

/-- A frame handed to a link with those frames: it begins at once on a free line, and waits otherwise (R186). -/
def placeFrame (f : List CabMsg × Option CabMsg) (m : CabMsg) : List CabMsg × Option CabMsg :=
  match f.2 with
  | none => (f.1, some m)
  | some _ => (f.1 ++ [m], f.2)

theorem Link.hand_frames (l : Link) (m : CabMsg) : (l.hand m).frames = placeFrame l.frames m := by
  unfold Link.hand placeFrame Link.frames
  dsimp only
  cases hs : l.sending with
  | none => rfl
  | some _ => rfl

theorem Link.handAll_frames (l : Link) (ms : List CabMsg) : (l.handAll ms).frames = ms.foldl placeFrame l.frames := by
  induction ms generalizing l with
  | nil => rfl
  | cons m ms ih => exact (ih (l.hand m)).trans (by rw [Link.hand_frames]; rfl)

theorem Link.refilled_eq (l : Link) (ms : List CabMsg) : l.refilled ms = ms.foldl placeFrame l.discardQueued.frames :=
  Link.handAll_frames _ ms

/-! ### The links -/

/-- What a restart makes of a link (R146, R186): training afresh unless isolated, and nothing kept of the bays. -/
structure Link.Rebooted (l r : Link) : Prop where
  adopted   : r.adopted = false
  lostHold  : r.lostHold = none ∧ r.lostTimer = none
  bays      : r.bays = Vector.replicate 6 LinkBay.reset
  installed : r.installed = l.installed
  assembler : r.assembler = .hunting
  isolated  : l.state = .isolated → r.state = .isolated ∧ r.silence = some 2000 ∧ r.probe = l.probe
  training  : l.state ≠ .isolated → r.state = .training ∧ r.probeCount = 1 ∧ r.probe = some 1000 ∧ r.keep = none ∧
                r.silence = none
  frames    : r.frames = l.refilled (if l.state = .isolated then []
                else if l.state = .up then [.zero, .probe] else [.probe])

theorem Link.handIfUp_kept (l : Link) (m : CabMsg) : LinkKept l (l.handIfUp m) := by
  unfold Link.handIfUp
  split
  · exact l.hand_kept m
  · exact .refl l

theorem Link.handIfUp_frames (l : Link) (m : CabMsg) :
    (l.handIfUp m).frames = if l.state = .up then placeFrame l.frames m else l.frames := by
  unfold Link.handIfUp
  split
  · exact l.hand_frames m
  · rfl

/-- A link in no state but UP keeps its keep timer when a frame is handed to it. -/
theorem Link.hand_keep {l : Link} (h : l.state ≠ .up) (m : CabMsg) : (l.hand m).keep = l.keep := by
  unfold Link.hand Link.begin
  split
  · exact if_neg h
  · rfl

/-- A link that begins its training (R131). -/
theorem Link.train_spec (l : Link) : l.train.state = .training ∧ l.train.probeCount = 1 ∧ l.train.probe = some 1000 ∧
    l.train.keep = none ∧ l.train.silence = none ∧ l.train.lostHold = l.lostHold ∧ l.train.lostTimer = l.lostTimer ∧
    l.train.bays = l.bays ∧ l.train.installed = l.installed ∧ l.train.assembler = l.assembler := by
  have hk := Link.hand_kept { l with state := .training, probeCount := 0, keep := none, silence := none } .probe
  have hp := Link.hand_keep (l := { l with state := .training, probeCount := 0, keep := none, silence := none })
    (by simp) .probe
  unfold Link.train Link.sendProbe
  dsimp only
  refine ⟨?_, rfl, rfl, hp, ?_, ?_, ?_, ?_, ?_, ?_⟩ <;> rw [hk]

theorem Link.train_frames (l : Link) : l.train.frames = placeFrame l.frames .probe := Link.hand_frames _ .probe

theorem Link.rebooted_spec (l : Link) : l.Rebooted l.rebooted := by
  have hk : LinkKept l.discardQueued (l.discardQueued.handIfUp .zero) := Link.handIfUp_kept _ _
  have hf : (l.discardQueued.handIfUp .zero).frames =
    if l.state = .up then placeFrame l.discardQueued.frames .zero else l.discardQueued.frames :=
      Link.handIfUp_frames _ _
  have hs : (l.discardQueued.handIfUp .zero).state = l.state := by rw [hk]; rfl
  have hi : (l.discardQueued.handIfUp .zero).installed = l.installed := by rw [hk]; rfl
  have hp : (l.discardQueued.handIfUp .zero).probe = l.probe := by rw [hk]; rfl
  unfold Link.rebooted Link.restarted
  generalize l.discardQueued.handIfUp .zero = u at *
  dsimp only
  rw [hs]
  by_cases h : l.state = .isolated
  · rw [if_pos h]
    have hu : ¬ l.state = .up := by rw [h]; decide
    rw [if_neg hu] at hf
    exact {
      adopted := rfl, lostHold := ⟨rfl, rfl⟩, bays := rfl, installed := hi, assembler := rfl
      frames := by rw [if_pos h, Link.refilled_eq]; exact hf
      isolated := fun _ => ⟨h ▸ rfl, rfl, hp⟩
      training := fun hn => absurd h hn }
  · rw [if_neg h]
    obtain ⟨h1, h2, h3, h4, h5, h6, h7, h8, h9, h10⟩ := Link.train_spec { u with
      state := l.state, adopted := false, lostHold := none, lostTimer := none, bays := Vector.replicate 6 LinkBay.reset
      assembler := .hunting }
    exact {
      adopted := Link.train_adopted _, lostHold := ⟨h6, h7⟩, bays := h8, installed := h9.trans hi, assembler := h10
      isolated := fun hn => absurd hn h
      training := fun _ => ⟨h1, h2, h3, h4, h5⟩
      frames := by
        refine (Link.train_frames _).trans ?_
        change placeFrame u.frames .probe = _
        rw [hf, if_neg h, Link.refilled_eq]
        by_cases hup : l.state = .up
        · rw [if_pos hup, if_pos hup]; rfl
        · rw [if_neg hup, if_neg hup]; rfl }

theorem Link.Rebooted.bay {l r : Link} (h : l.Rebooted r) (p : Nat) : r.bay p = ⟨0, 0, false, 0, false, false⟩ := by
  unfold Link.bay
  rw [h.bays]
  exact get1_replicate_default 6 _ p

/-! ### The envelope -/

theorem examineRaises_none {s : State} (h : s.bond.raiseList = []) : examineRaises s = s := by
  have hp : putRaiseList [] s = s := by
    rw [← h]
    rfl
  unfold examineRaises
  rw [h]
  unfold examineFrom
  rw [hp, ite_self]

/-- Where no setpoint stands, no raise waits and no pass is in flight, a change of the available power requests a pass
and does nothing else (R67). -/
theorem handOnAvailable_idle {s : State} (hb : s.bond = BondController.reset) (hn : s.alloc.snapshot = none)
    (old : Nat) :
    handOnAvailable old s = if s.env.available = old then s else requestPass s := by
  have hp : ∀ b, s.power b = BayPower.reset := fun b => by
    unfold State.power
    rw [hb]
    exact reset_power b
  have hc : commandedSum s = 0 := bays_sum_eq_zero fun b => congrArg BayPower.commanded (hp b)
  have hm : markStale s = s := by
    unfold markStale inFlight
    rw [hn]
    rfl
  have hq : (requestPass s).bond.raiseList = [] := by
    rw [(requestPass_quiet s).power.bond, hb]
    rfl
  unfold handOnAvailable
  simp only [hm, ite_self, hc, Nat.not_lt_zero, if_false, examineRaises_none hq]

/-- With nothing in flight a request starts a pass where allocation is enabled (R75). -/
theorem requestPass_first {s : State} (hn : s.alloc.snapshot = none) :
    requestPass s = if allocationEnabled s = true then startPass s else s := by
  unfold requestPass inFlight
  rw [hn]
  rfl

theorem stageOfLines_congr {s t : State} (h : t.lines = s.lines) : stageOfLines t = stageOfLines s := by
  unfold stageOfLines functionLevel State.line
  rw [h]

theorem meterAssigned_congr {s t : State} (h : t.lines = s.lines) : meterAssigned t = meterAssigned s := by
  unfold meterAssigned State.line
  rw [h]

/-- The envelope at a restart (R58, R61, R63, R70). -/
def Envelope.restarted (e : Envelope) (stage : Nat) (assigned : Bool) : Envelope :=
  { e with
    walker := if e.activeBank = 0 then 0 else 1
    lineStage := stage
    settling := some 2000
    meterWindow := if assigned then some 60000 else none
    windowCount := 0
    lastWindow := none
    building := e.reserve
    overdraw := none
    excess := none }

theorem recomputeBuilding_restartSettings (s : State) : recomputeBuilding (restartSettings s) =
    { s with env := s.env.restarted (stageOfLines s) (meterAssigned s) } := by
  have hb : ∀ a, buildingOf a (restartSettings s).env = s.env.reserve := fun a => by
    unfold buildingOf
    cases a <;> rfl
  unfold recomputeBuilding
  rw [hb]
  rfl

/-- The envelope's restart: its values, and a pass where they change the available power (R72). -/
theorem restartEnvelope_idle {s : State} (hb : s.bond = BondController.reset)
    (ha : s.alloc = { s.alloc with
      snapshot := none, again := false, stale := false, periodTimer := some (s.alloc.period * 1000) }) :
    ∃ x, restartEnvelope s = { s with
        env := (s.env.restarted (stageOfLines s) (meterAssigned s)).fresh, alloc := { s.alloc with snapshot := x } } ∧
      (x.isSome = true ↔ (s.env.restarted (stageOfLines s) (meterAssigned s)).fresh.available ≠ s.env.available ∧
        allocationEnabled s = true) := by
  have hn : s.alloc.snapshot = none := by rw [ha]
  have hsame : { s.alloc with snapshot := none } = s.alloc := by rw [ha]
  unfold restartEnvelope
  rw [recomputeBuilding_restartSettings]
  have hv : (s.env.restarted (stageOfLines s) (meterAssigned s)).available = s.env.available := rfl
  have hs : (s.env.restarted (stageOfLines s) (meterAssigned s)).siteCeiling = s.env.siteCeiling := rfl
  generalize s.env.restarted (stageOfLines s) (meterAssigned s) = e at *
  change ∃ x, handOnAvailable e.available { s with env := e.fresh } = _ ∧ _
  rw [handOnAvailable_idle (s := { s with env := e.fresh }) hb hn,
    requestPass_first (s := { s with env := e.fresh }) hn, hv]
  have hen : allocationEnabled { s with env := e.fresh } = allocationEnabled s := by
    unfold allocationEnabled Envelope.fresh
    dsimp only
    rw [hs]
  rw [hen]
  by_cases hx : e.fresh.available = s.env.available
  · exact ⟨none, by rw [if_pos hx, hsame], iff_of_false nofun fun h => h.1 hx⟩
  · rw [if_neg hx]
    by_cases hw : allocationEnabled s = true
    · refine ⟨some (takeSnapshot { s with env := e.fresh }), ?_, iff_of_true rfl ⟨hx, hw⟩⟩
      rw [if_pos hw]
      exact congrArg (fun a : Allocator => { s with
        env := e.fresh, alloc := { a with snapshot := some (takeSnapshot { s with env := e.fresh }) } }) ha.symm
    · exact ⟨none, by rw [if_neg hw, hsame], iff_of_false nofun fun h => hw h.2⟩

theorem alarmWanted_congr {s t : State} (h : t.faults = s.faults) : alarmWanted t = alarmWanted s := by
  unfold alarmWanted State.cabFaults
  rw [h]

end Sys2Proof.Machine

open Sys2Proof Sys2Proof.Machine

/-- Settles O18: the blocks before the envelope, then the envelope, then the alarm indication. -/
theorem restartTakesEffect : Obligations.RestartTakesEffect := by
  refine ⟨fun s h => ?_, fun s h => ⟨applyRestart s, ?_, ?_⟩⟩
  · exact congrArg Host.Outcome.next (if_neg (by rw [h]; decide))
  · exact congrArg Host.Outcome.next (if_pos h)
  rw [applyRestart_eq]
  obtain ⟨hsession, hentry, hlink, sessions, entries, links, hq⟩ := rebootBlocks_spec s
  generalize rebootBlocks s = u at *
  obtain ⟨x, hu, hx⟩ := restartEnvelope_idle (s := u) (by rw [hq]) (by rw [hq])
  have hlines : u.lines = s.lines := by rw [hq]
  have henv : u.env = s.env := by rw [hq]
  rw [stageOfLines_congr hlines, meterAssigned_congr hlines, henv] at hu hx
  obtain ⟨lines, ht, hkept⟩ := evaluateAlarm_eq (restartEnvelope u)
  rw [hu] at ht hkept ⊢
  have hfaults : u.faults = s.faults := by rw [hq]
  have halarm : alarmWanted { u with
      env := (s.env.restarted (stageOfLines s) (meterAssigned s)).fresh, alloc := { u.alloc with snapshot := x } } =
    alarmWanted s := alarmWanted_congr hfaults
  rw [halarm] at ht
  rw [ht]
  have hline : ∀ l, u.line l = s.line l := fun l => congrArg (fun v => get1 v (Line.reset true) l) hlines
  have hen : allocationEnabled u = allocationEnabled s := by rw [hq]; rfl
  refine ⟨?clock, ?pending, fun b _ => hsession b, hentry, ?masks, ?plan, ?cursor, ?env, ?alloc, ?snapshot, ?bond,
    fun c hc => ?link, ?ready, ?faults, fun l => ?line, ?order⟩
  case env => rfl
  case snapshot => exact hen ▸ hx
  case link =>
    have hr := Link.rebooted_spec (s.link c)
    rw [← hlink c hc] at hr
    refine ⟨hr.adopted, hr.lostHold.1, hr.lostHold.2, hr.bay, hr.installed, hr.assembler, ?_, hr.frames⟩
    by_cases hi : (s.link c).state = .isolated
    · rw [if_pos hi]
      exact hr.isolated hi
    · rw [if_neg hi]
      exact hr.training hi
  case line =>
    obtain ⟨h1, h2, h3, h4⟩ := hkept l
    exact ⟨h1.trans (congrArg _ (hline l)), h3.trans (congrArg _ (hline l)), h4.trans (congrArg _ (hline l)),
      h2.trans (congrArg _ (hline l))⟩
  all_goals subst hq; rfl

end

section
/-! Orders that can be taken, pass requests, and what a lowered grant depends on; SUSPEND BAY and RESUME BAY: O36. -/

namespace Sys2Proof.Machine

/-! ### Orders that can be taken, and requests -/

theorem takeOrder_taken {i : Instr} {f : OrderFrame} (hi : encodeOrder i = some f) (effect : State → State × List Byte)
    {s : State} (h : canTake s = true) :
    takeOrder i effect s = (effect s).1.replied f.tag (f.kind + 0x80) (effect s).2 := by
  unfold takeOrder
  rw [hi]
  exact takeFrame_taken f _ effect s h

/-- A request is heard where nothing before it ended a pass in flight (R75, R79). -/
theorem requested_requestPass {s t : State} (h : inFlight s = true → inFlight t = true) :
    Requested s (requestPass t) := by
  intro he
  rcases requestPass_cases t with ⟨hd, hr⟩ | ⟨-, hf, hr⟩ | ⟨-, hf, hr⟩ <;> rw [hr] at he ⊢
  · rw [hd] at he; cases he
  · exact ⟨hf, fun _ => rfl⟩
  · refine ⟨rfl, fun hs => ?_⟩
    rw [h hs] at hf
    cases hf

/-! ### What a lowered grant depends on -/

/-- The state with the sessions, the plans, the allocator and the frames to the host of `k`. -/
def State.recast (s k : State) : State :=
  { s with sessions := k.sessions, plans := k.plans, alloc := k.alloc, order := k.order }

def SameGrants (s k : State) : Prop := ∀ b, (k.session b).grant = (s.session b).grant

section
variable {s : State} (k : State)

theorem sendSetpoint_recast (b v : Nat) (s : State) :
    sendSetpoint b v (s.recast k) = (sendSetpoint b v s).recast k := by
  unfold sendSetpoint sendIfUp
  by_cases h : ((putPower b { s.power b with commanded := v } s).link (cabOf b)).state = .up
  · rw [if_pos h]
    exact if_pos h
  · rw [if_neg h]
    exact if_neg h

theorem sendSetpoint_sessions (b v : Nat) (s : State) : (sendSetpoint b v s).sessions = s.sessions := by
  unfold sendSetpoint sendIfUp
  split <;> rfl

variable {k}

theorem raiseLimit_recast (hx : SameGrants s k) (b : Nat) : raiseLimit (s.recast k) b = raiseLimit s b :=
  congrArg (min · (300 * bonded s b)) (hx b)

theorem raiseOf_recast (hx : SameGrants s k) (b : Nat) : raiseOf (s.recast k) b = raiseOf s b := by
  unfold raiseOf
  rw [raiseLimit_recast hx]
  rfl

/-- A raise reads of the sessions their grants alone (R111). -/
theorem examineFrom_recast (hx : SameGrants s k) (l : List Nat) :
    examineFrom l (s.recast k) = (examineFrom l s).recast k := by
  induction l generalizing s with
  | nil => rfl
  | cons b l ih =>
    have hg : ((s.recast k).session b).grant = (s.session b).grant := hx b
    unfold examineFrom
    simp only [hg, raiseLimit_recast hx, raiseOf_recast hx, sendSetpoint_recast]
    have hs : ∀ v, SameGrants (sendSetpoint b v s) k := fun v j => by
      rw [hx j]
      exact congrArg (fun v => (get1 v (Session.vacant 0) j).grant) (sendSetpoint_sessions b v s).symm
    have hp : (s.recast k).power b = s.power b := rfl
    simp only [hp, ih hx, ih (hs _), apply_ite (fun t : State => t.recast k)]
    rfl

theorem examineRaises_recast (hx : SameGrants s k) : examineRaises (s.recast k) = (examineRaises s).recast k := by
  unfold examineRaises
  by_cases h : s.faults.stopMinute.isSome = true
  · rw [if_pos h]
    exact if_pos h
  · rw [if_neg h]
    exact (if_neg h).trans (examineFrom_recast hx _)

theorem trimBondList_recast (hx : SameGrants s k) (b : Nat) :
    trimBondList b (s.recast k) = (trimBondList b s).recast k := by
  have hg : ((s.recast k).session b).grant = (s.session b).grant := hx b
  unfold trimBondList
  rw [hg]
  rfl

theorem reduce_recast (b v : Nat) : reduce b v (s.recast k) = (reduce b v s).recast k := by
  unfold reduce
  rw [sendSetpoint_recast]
  rfl

/-- A lowered grant reads of the sessions their grants alone, and writes no session, plan or frame to the host
(R110). -/
theorem lowerGrant_recast (hx : SameGrants s k) (b : Nat) :
    lowerGrant b (s.recast k) = (lowerGrant b s).recast k := by
  have hg : ((s.recast k).session b).grant = (s.session b).grant := hx b
  have h1 : (if (s.session b).grant < (s.power b).commanded then reduce b (s.session b).grant (s.recast k)
      else s.recast k) =
      (if (s.session b).grant < (s.power b).commanded then reduce b (s.session b).grant s else s).recast k := by
    rw [reduce_recast, apply_ite (fun t : State => t.recast k)]
  have hs : (if (s.session b).grant < (s.power b).commanded then reduce b (s.session b).grant s else s).sessions =
      s.sessions := by
    split
    · exact sendSetpoint_sessions _ _ _
    · rfl
  unfold lowerGrant
  by_cases hl : (s.link (cabOf b)).state = .up
  · rw [if_pos hl]
    refine (if_pos hl).trans ?_
    dsimp only
    rw [hg, show (s.recast k).power b = s.power b from rfl, h1]
    generalize (if (s.session b).grant < (s.power b).commanded then reduce b (s.session b).grant s else s) = u at *
    have hu : SameGrants (putRaiseList (u.bond.raiseList.filter fun j => j ≠ b) u) k := fun j => by
      rw [hx j]
      exact congrArg (fun v => (get1 v (Session.vacant 0) j).grant) hs.symm
    exact (congrArg examineRaises (trimBondList_recast hu b)).trans (examineRaises_recast hu)
  · rw [if_neg hl]
    exact if_neg hl

end

/-- A lowered grant changes no session, no plan, nothing of the allocator and no frame to the host. -/
theorem lowerGrant_keeps (b : Nat) (s : State) : lowerGrant b s = (lowerGrant b s).recast s :=
  lowerGrant_recast (s := s) (k := s) (fun _ => rfl) b

/-! ### Holds -/

theorem lowerGrant_session (b j : Nat) (s : State) : (lowerGrant b s).session j = s.session j := by
  rw [lowerGrant_keeps]
  rfl

/-- A hold reason set on an open session that does not bear it (R23). -/
theorem setHold_open {r : HoldReason} {b : Nat} {s : State} (hb : validBay b = true)
    (ho : (s.session b).state ≠ .vacant)
    (hr : (s.session b).holds.has r = false) : setHold r b s = requestPass
      (if (s.session b).holds.any = true then putSession b ((s.session b).held r) s
        else lowerGrant b (putSession b ((s.session b).held r) s)) := by
  unfold setHold Session.isOpen withdrawGrant Session.held
  by_cases ha : (s.session b).holds.any = true
  · simp [ho, hr, ha]
  · simp [ho, hr, ha, session_putSession_self _ _ _ hb, putSession_putSession]

theorem setHold_requested {r : HoldReason} {b : Nat} {s : State} (hb : validBay b = true)
    (ho : (s.session b).state ≠ .vacant) (hr : (s.session b).holds.has r = false) :
    Requested s (setHold r b s) ∧ (setHold r b s).session b = (s.session b).held r ∧
      (setHold r b s).bond = (if (s.session b).holds.any = true then s
        else lowerGrant b (putSession b ((s.session b).held r) s)).bond ∧
      (setHold r b s).links = (if (s.session b).holds.any = true then s
        else lowerGrant b (putSession b ((s.session b).held r) s)).links := by
  rw [setHold_open hb ho hr, requestPass_session, (requestPass_quiet _).power.bond, (requestPass_quiet _).power.links]
  by_cases ha : (s.session b).holds.any = true
  · rw [if_pos ha, if_pos ha]
    exact ⟨requested_requestPass id, session_putSession_self _ _ _ hb, rfl, rfl⟩
  · rw [if_neg ha, if_neg ha]
    refine ⟨requested_requestPass fun h => ?_, ?_, rfl, rfl⟩
    · rw [lowerGrant_keeps]
      exact h
    · rw [lowerGrant_session, session_putSession_self _ _ _ hb]

/-! ### SUSPEND BAY and RESUME BAY -/

/-- SUSPEND BAY for an open session, which is answered with its serial and its holds (R25). -/
theorem exec_suspendBay {tag b : Byte} {s : State} (hs : canTake s = true) (hb : validBay b.toNat = true)
    (ho : (s.session b.toNat).state ≠ .vacant) :
    exec (.suspendBay tag b) s = .next ((setHold .host b.toNat s).replied tag 0xA1
      (0x00 :: holdsBytes ((setHold .host b.toNat s).session b.toNat))) := by
  refine congrArg Host.Outcome.next ((takeOrder_taken rfl (effectSuspendBay b) hs).trans ?_)
  have he : effectSuspendBay b s = (setHold .host b.toNat s,
      okBody (holdsBytes ((setHold .host b.toNat s).session b.toNat))) := by
    unfold effectSuspendBay Session.isOpen num
    simp [hb, ho]
  rw [he]
  rfl

/-- RESUME BAY for an open session (R26). -/
theorem exec_resumeBay {tag b : Byte} {s : State} (hs : canTake s = true) (hb : validBay b.toNat = true)
    (ho : (s.session b.toNat).state ≠ .vacant) :
    exec (.resumeBay tag b) s = .next ((clearHold .host b.toNat s).replied tag 0xA2
      (0x00 :: holdsBytes ((clearHold .host b.toNat s).session b.toNat))) := by
  refine congrArg Host.Outcome.next ((takeOrder_taken rfl (effectResumeBay b) hs).trans ?_)
  have he : effectResumeBay b s = (clearHold .host b.toNat s,
      okBody (holdsBytes ((clearHold .host b.toNat s).session b.toNat))) := by
    unfold effectResumeBay Session.isOpen num
    simp [hb, ho]
  rw [he]
  rfl

/-- A hold reason that stands is not set again (R23). -/
theorem setHold_standing {r : HoldReason} {b : Nat} {s : State} (hr : (s.session b).holds.has r = true) :
    setHold r b s = s := by
  unfold setHold
  simp [hr]

end Sys2Proof.Machine

open Sys2Proof Sys2Proof.Machine

/-- Settles O36: SUSPEND BAY sets the HOST hold and RESUME BAY clears it, each once. -/
theorem suspendAndResumeBay : Obligations.SuspendAndResumeBay := by
  intro tag b s hs hb ho
  refine ⟨fun hh => ⟨?_, ?_⟩, fun hh => ⟨?_, ?_⟩⟩
  · rw [exec_suspendBay hs hb ho, setHold_standing (r := .host) hh]
    rfl
  · rcases clearHold_cases .host b.toNat s with ⟨-, -, hc⟩ | ⟨hn, -⟩
    · have hx : (clearHold .host b.toNat s).session b.toNat =
          { s.session b.toNat with holds := { (s.session b.toNat).holds with host := false } } := by
        rw [hc, requestPass_session, session_putSession_self _ _ _ hb]
        rfl
      refine ⟨clearHold .host b.toNat s, hc ▸ requestPass_quiet _, hc ▸ requested_requestPass id, ?_, by rw [hx]⟩
      rw [exec_resumeBay hs hb ho, hx]
      rfl
    · rcases hn with hn | hn
      · exact absurd (of_decide_eq_false hn) (not_not.mpr ho)
      · exact absurd (hn.symm.trans hh) (by decide)
  · rcases clearHold_cases .host b.toNat s with ⟨-, hn, -⟩ | ⟨-, hc⟩
    · exact absurd (hn.symm.trans hh) (by decide)
    · rw [exec_resumeBay hs hb ho, hc]
      rfl
  · have hy : (s.session b.toNat).held .host = if (s.session b.toNat).holds.any
        then { s.session b.toNat with holds := { (s.session b.toNat).holds with host := true } }
        else { s.session b.toNat with
          holds := { (s.session b.toNat).holds with host := true }, grant := 0, short := false, preShort := false } :=
      if_neg (by simp [ho, Holds.has, hh])
    obtain ⟨hreq, hx, hbond, hlinks⟩ := setHold_requested hb ho (r := .host) hh
    have hr := setHold_ripple .host b.toNat s hb
    rw [hy] at hx hbond hlinks hr
    refine ⟨setHold .host b.toNat s, hr, hreq, hx, ⟨hbond, hlinks⟩, ?_⟩
    rw [exec_suspendBay hs hb ho, hx]
    congr 3
    split <;> rfl

end

section
/-! PLUG messages: O37. -/

namespace Sys2Proof.Machine

/-! ### A link's record of a bay -/

theorem set1_set1 {α : Type} {n : Nat} (v : Vector α n) (i : Nat) (x y : α) : set1 (set1 v i x) i y = set1 v i y := by
  unfold set1
  split
  · rfl
  · apply Vector.ext
    intro j hj
    simp only [Vector.getElem_setIfInBounds]
    split <;> rfl

theorem linkBay_putLinkBay_self {b : Nat} (hb : validBay b = true) (x : LinkBay) (s : State) :
    (putLinkBay b x s).linkBay b = x := by
  unfold State.linkBay putLinkBay
  rw [link_putLink_self (cabOf_valid hb)]
  refine get1_set1_self _ _ _ _ (Nat.succ_pos _) ?_
  unfold posOf
  omega

theorem putLinkBay_putLinkBay {b : Nat} (hb : validBay b = true) (x y : LinkBay) (s : State) :
    putLinkBay b y (putLinkBay b x s) = putLinkBay b y s := by
  unfold putLinkBay
  rw [link_putLink_self (cabOf_valid hb)]
  dsimp only
  rw [set1_set1]
  unfold putLink
  rw [set1_set1]

theorem link_putLinkBay_state {b : Nat} (hb : validBay b = true) (x : LinkBay) (s : State) :
    ((putLinkBay b x s).link (cabOf b)).state = (s.link (cabOf b)).state := by
  unfold putLinkBay
  rw [link_putLink_self (cabOf_valid hb)]

/-! ### A good frame -/

theorem Link.heard_eq (l : Link) : l.heard = { l with silence := l.heard.silence } := by
  unfold Link.heard
  split <;> rfl

theorem goodFrame_link {c : Nat} (hc : validCab c = true) (s : State) : (goodFrame c s).link c = (s.link c).heard :=
  link_putLink_self hc _ s

theorem goodFrame_serves {c : Nat} (hc : validCab c = true) (s : State) :
    ((goodFrame c s).link c).serves = (s.link c).serves := by
  rw [goodFrame_link hc, Link.heard_eq]
  rfl

theorem goodFrame_linkBay {b : Nat} (hb : validBay b = true) (s : State) :
    (goodFrame (cabOf b) s).linkBay b = s.linkBay b := by
  unfold State.linkBay
  rw [goodFrame_link (cabOf_valid hb), Link.heard_eq]
  rfl

/-! ### The opening of a session -/

/-- The opening of a session on a VACANT bay (R2, R139, R154). -/
theorem plugPresent_vacant {b : Nat} {s : State} (hb : validBay b = true) (hv : (s.session b).state = .vacant) :
    Quiet (putSession b (openedSession s b) (resetCounts b s)) (plugPresent b s) ∧
      (plugPresent b s).alloc = s.alloc ∧
      (plugPresent b s).order =
        noticed [openedNotice b (((s.session b).serial + 1) % 65536) s.clock.minute] s.order := by
  have hp : plugPresent b s = noticeOpened b (putSession b (openedSession s b) (resetCounts b s)) := by
    unfold plugPresent Session.isOpen
    rw [hv]
    rfl
  have hx : (putSession b (openedSession s b) (resetCounts b s)).session b = openedSession s b :=
    session_putSession_self _ _ _ hb
  rw [hp]
  unfold noticeOpened
  rw [hx]
  refine ⟨notify_quiet _ _ _, ?_, ?_⟩ <;> rw [notify_eq] <;> rfl

theorem plugPresent_open {b : Nat} {s : State} (ho : (s.session b).state ≠ .vacant) : plugPresent b s = s :=
  if_pos (decide_eq_true ho)

theorem plugAbsent_vacant {b : Nat} {s : State} (hv : (s.session b).state = .vacant) : plugAbsent b s = s :=
  if_neg (by rw [Session.isOpen, hv]; decide)

/-! ### The close of a session -/

/-- One session written in both of two states: what follows of the rest still does. -/
theorem Ripple.putSession {s t : State} (h : Ripple s t) (b : Nat) (x : Session) :
    Ripple (Machine.putSession b x s) (Machine.putSession b x t) :=
  { h with
    session := fun j => by
      rw [session_putSession, session_putSession]
      split
      · exact .refl x
      · exact h.session j }

/-- The session whose grant is withdrawn (R24). -/
def Session.withdrawn (x : Session) : Session := { x with grant := 0, short := false, preShort := false }

theorem withdrawGrant_eq (b : Nat) (s : State) :
    withdrawGrant b s = lowerGrant b (putSession b (s.session b).withdrawn s) := rfl

/-- The claim of a session that is closed (R36). -/
theorem endSessionClaim_eq (b : Nat) (s : State) : endSessionClaim b s = match (s.session b).planLink with
    | none => s
    | some e => putEntry e (if (s.entry e).reuse then { s.entry e with state := .opened, claimant := none }
        else { s.entry e with state := .spent, claimant := none, outcome := some (outcomeOf s b) }) s := by
  unfold endSessionClaim endClaim
  split
  · next he =>
    rw [he]
    dsimp only
    split <;> rfl
  · next he => rw [he]

theorem endSessionClaim_rest (b : Nat) (s : State) :
    ∃ x, endSessionClaim b s = { s with plans := { s.plans with entries := x } } := by
  rw [endSessionClaim_eq]
  split
  · exact ⟨_, rfl⟩
  · exact ⟨_, rfl⟩

theorem leftReason_code (x : SessionState) : (leftReason x).code = match x with
    | .satisfied => 2 | .active => 3 | .overdue => 4 | .identifying => 5 | .vacant => 5 := by
  cases x <;> rfl

/-- The SESSION notice of a close, byte by byte (R156). -/
theorem leftNotice_eq (cause b minute : Nat) (x : Session) :
    leftNotice cause b minute x = (.session, sessionHead (leftReason x.state) b x minute ++ sessionTail cause x) := by
  have hm : x.targetMet = decide (x.state ≠ .identifying ∧ x.plan.target ≤ x.battery) := (Bool.decide_and ..).symm
  unfold leftNotice sessionNotice sessionHead sessionTail encIdentity encOpt encFlag markedByte mark
  rw [leftReason_code, hm]
  simp only [List.append_assoc] <;> rfl

theorem noticeClosed_order (cause : CloseCause) (b : Nat) (s : State) : (noticeClosed cause b s).order =
    noticed [leftNotice cause.code b s.clock.minute (s.session b)] s.order := by
  unfold noticeClosed
  rw [notify_eq, leftNotice_eq]

theorem requestPass_eq (s : State) : ∃ a, requestPass s = { s with alloc := a } := by
  rcases requestPass_cases s with ⟨-, h⟩ | ⟨-, -, h⟩ | ⟨-, -, h⟩ <;> rw [h]
  · exact ⟨_, rfl⟩
  · exact ⟨_, rfl⟩
  · exact ⟨_, rfl⟩

/-- What the close of an open session does (R20, R156): the claim ends, the bond controller is given the grant 0, the
record becomes VACANT, and a pass is requested. -/
structure Closed (cause : CloseCause) (b : Nat) (s r : State) : Prop where
  ripple    : Ripple (putSession b (Session.vacant (s.session b).serial) (endSessionClaim b s)) r
  requested : Requested s r
  session   : r.session b = Session.vacant (s.session b).serial
  bond      : r.bond = (lowerGrant b (putSession b (Session.vacant (s.session b).serial) s)).bond
  links     : r.links = (lowerGrant b (putSession b (Session.vacant (s.session b).serial) s)).links
  order     : r.order = noticed [leftNotice cause.code b s.clock.minute (s.session b)] s.order

theorem closeSession_closed {cause : CloseCause} {b : Nat} (hb : validBay b = true) (s : State) :
    Closed cause b s (closeSession cause b s) := by
  have hr1 := (noticeClosed_quiet cause b (endSessionClaim b s)).ripple
  have ho := noticeClosed_order cause b (endSessionClaim b s)
  have hn : ∃ x o, noticeClosed cause b (endSessionClaim b s) = { s with plans := x, order := o } := by
    obtain ⟨x, hx⟩ := endSessionClaim_rest b s
    unfold noticeClosed
    rw [notify_eq, hx]
    exact ⟨_, _, rfl⟩
  have hx : (endSessionClaim b s).session b = s.session b ∧ (endSessionClaim b s).order = s.order ∧
      (endSessionClaim b s).clock = s.clock := by
    obtain ⟨x, hx⟩ := endSessionClaim_rest b s
    rw [hx]
    exact ⟨rfl, rfl, rfl⟩
  rw [hx.1, hx.2.1, hx.2.2] at ho
  unfold closeSession
  dsimp only
  rw [withdrawGrant_eq]
  generalize noticeClosed cause b (endSessionClaim b s) = n at *
  have hs : n.session b = s.session b := by
    obtain ⟨x, o, hn⟩ := hn
    rw [hn]; rfl
  have ha : n.alloc = s.alloc := by
    obtain ⟨x, o, hn⟩ := hn
    rw [hn]
  rw [lowerGrant_session, session_putSession_self _ _ _ hb, hs]
  change Closed cause b s (requestPass (putSession b (Session.vacant (s.session b).serial) _))
  have hsame : SameGrants (putSession b (Session.vacant (s.session b).serial) s)
      (putSession b (s.session b).withdrawn n) := fun j => by
    have hj : n.session j = s.session j := by
      obtain ⟨x, o, hn⟩ := hn
      rw [hn]; rfl
    rw [session_putSession, session_putSession]
    split
    · rfl
    · rw [hj]
  have hp : putSession b (s.session b).withdrawn n =
      (putSession b (Session.vacant (s.session b).serial) s).recast
        (putSession b (s.session b).withdrawn n) := by
    obtain ⟨x, o, hn⟩ := hn
    rw [hn]; rfl
  have hlow : lowerGrant b (putSession b (s.session b).withdrawn n) =
      (lowerGrant b (putSession b (Session.vacant (s.session b).serial) s)).recast
        (putSession b (s.session b).withdrawn n) :=
    (congrArg (lowerGrant b) hp).trans (lowerGrant_recast hsame b)
  have hr2 := (lowerGrant_ripple b
    (putSession b (s.session b).withdrawn n)).putSession b
      (Session.vacant (s.session b).serial)
  rw [putSession_putSession, hlow] at hr2
  rw [hlow]
  exact {
    ripple := ((hr1.putSession b _).trans hr2).trans (requestPass_ripple _)
    requested := requested_requestPass fun h => by
      have : inFlight n = true := by unfold inFlight; rw [ha]; exact h
      exact this
    session := by rw [requestPass_session, session_putSession_self _ _ _ hb]
    bond := (requestPass_quiet _).power.bond
    links := (requestPass_quiet _).power.links
    order := by
      obtain ⟨a, hq⟩ := requestPass_eq (putSession b (Session.vacant (s.session b).serial)
        ((lowerGrant b (putSession b (Session.vacant (s.session b).serial) s)).recast
          (putSession b (s.session b).withdrawn n)))
      rw [hq]
      exact ho }

/-! ### The message -/

theorem exec_plug {c : Nat} {p x : Byte} {s : State} (hc : validCab c = true) (hp : validPosition p.toNat = true)
    (hx : (markerOf x).isSome = true) : exec (.plug c p x) s = .next (actPlug c p x (goodFrame c s)) := by
  have hv : validPlug p x = true := by rw [validPlug, hp, hx]; rfl
  refine (if_pos hc).trans (congrArg Host.Outcome.next ?_)
  unfold takePlug takeChecked
  rw [if_pos hv]

/-- A PLUG message at a link that takes none (R139). -/
theorem exec_plug_discarded {c : Nat} {p x : Byte} {s : State} (hc : validCab c = true)
    (hp : validPosition p.toNat = true)
    (hx : (markerOf x).isSome = true) (hn : (s.link c).serves = false) :
    exec (.plug c p x) s = .next (goodFrame c s) := by
  rw [exec_plug hc hp hx, actPlug, goodFrame_serves hc, hn]
  rfl

/-- The link after a PLUG message that it takes: the presence is kept (R139). -/
def seenAt (b : Nat) (v : Bool) (s : State) : State :=
  putLinkBay b { s.linkBay b with present := v } (goodFrame (cabOf b) s)

theorem seenAt_state {b : Nat} (hb : validBay b = true) (v : Bool) (s : State) :
    ((seenAt b v s).link (cabOf b)).state = (s.link (cabOf b)).state := by
  unfold seenAt
  rw [link_putLinkBay_state hb, goodFrame_link (cabOf_valid hb), Link.heard_eq]

theorem resetCounts_seenAt {b : Nat} (hb : validBay b = true) (v : Bool) (s : State) :
    resetCounts b (seenAt b v s) =
      putLinkBay b { s.linkBay b with present := v, lastBattery := 0, lastAuxiliary := 0 } (goodFrame (cabOf b) s) := by
  unfold resetCounts seenAt
  rw [linkBay_putLinkBay_self hb, putLinkBay_putLinkBay hb]

theorem openedSession_seenAt {b : Nat} (hb : validBay b = true) (v : Bool) (s : State) :
    openedSession (seenAt b v s) b = openedSession s b := by
  unfold openedSession
  rw [seenAt_state hb]
  rfl

theorem exec_plug_taken {c : Nat} {p : Byte} {s : State} (v : Bool) (hc : validCab c = true)
    (hp : validPosition p.toNat = true) (hn : (s.link c).serves = true) :
    exec (.plug c p (if v then 1 else 0)) s = .next ((if v then plugPresent else plugAbsent) (bayAt c p.toNat)
      (seenAt (bayAt c p.toNat) v s)) := by
  have hb := validBay_bayAt hc hp
  have hx : (markerOf (if v then 1 else 0)).isSome = true := by cases v <;> rfl
  have hg := goodFrame_linkBay hb s
  have hcab := cabOf_bayAt hc hp
  unfold seenAt
  rw [hcab] at hg ⊢
  rw [exec_plug hc hp hx, actPlug, goodFrame_serves hc, hn]
  change Host.Outcome.next _ = _
  rw [if_pos rfl]
  dsimp only [num]
  rw [hg]
  cases v <;> rfl

end Sys2Proof.Machine

open Sys2Proof Sys2Proof.Machine

/-- Settles O37: a PLUG present opens a session on a VACANT bay, a PLUG absent closes an open one. -/
theorem plugReportsOpenAndCloseSessions : Obligations.PlugReportsOpenAndCloseSessions := by
  intro c p s hc hp
  have hb := validBay_bayAt hc hp
  have hcab := cabOf_bayAt hc hp
  refine ⟨fun hn => ⟨exec_plug_discarded hc hp rfl hn, exec_plug_discarded hc hp rfl hn⟩, fun hn => ?_⟩
  have habsent := exec_plug_taken false hc hp hn
  have hpresent := exec_plug_taken true hc hp hn
  generalize bayAt c p.toNat = b at *
  subst hcab
  refine ⟨fun hv => ?_, fun ho => ?_⟩
  · obtain ⟨hq, ha, hord⟩ := plugPresent_vacant (s := seenAt b true s) hb hv
    rw [resetCounts_seenAt hb, openedSession_seenAt hb] at hq
    exact ⟨habsent.trans (congrArg Host.Outcome.next (plugAbsent_vacant hv)), _, hq, hpresent, ha, hord⟩
  · have hclosed := closeSession_closed (cause := .unplugged) hb (seenAt b false s)
    have he : plugAbsent b (seenAt b false s) = closeSession .unplugged b (seenAt b false s) :=
      if_pos (decide_eq_true ho)
    refine ⟨hpresent.trans (congrArg Host.Outcome.next (plugPresent_open ho)), _, ?_,
      habsent.trans (congrArg Host.Outcome.next he), hclosed.requested, hclosed.session, ⟨hclosed.bond, hclosed.links⟩,
      hclosed.order⟩
    have hr := hclosed.ripple
    rw [endSessionClaim_eq] at hr
    exact hr

end

section
/-! Identities and the identity timer: O38 and O39. -/

namespace Sys2Proof.Machine

/-! ### Matching -/

/-- A match reads the plan table alone (R33). -/
theorem matchEntry_congr {s t : State} (h : t.plans = s.plans) (v : U24) : matchEntry t v = matchEntry s v := by
  have he : t.entry = s.entry := funext fun e => congrArg (fun p : PlanTable => get1 p.entries PlanEntry.free e) h
  have hc : candidates t v = candidates s v := by
    unfold candidates entryMatches maskOf
    rw [he, h]
  have ht : ∀ ks, topCandidates t v ks = topCandidates s v ks := fun ks => by
    induction ks with
    | nil => rfl
    | cons k ks ih =>
      unfold topCandidates
      rw [hc, ih]
  unfold matchEntry
  rw [ht, he]

/-! ### A record handed over -/

/-- The READY notice of a record added to a list, byte by byte (R149). -/
theorem readyNotice_eq (r : ReadyRecord) (l : ReadyList) : readyNotice r l =
    (.ready, r.bytes ++ enc8 (l.add r).records.length ++ encFlag (l.add r).overflow ++
      encFlag (decide (readySize ≤ l.records.length))) := by
  unfold readyNotice ReadyRecord.bytes encIdentity encOpt markedByte
  simp only [List.append_assoc]
  rfl

theorem addReady_eq (b : Nat) (s : State) : addReady b s = { s with
    ready := s.ready.add (readyRecordOf s b)
    order := noticed [readyNotice (readyRecordOf s b) s.ready] s.order } := by
  rw [readyNotice_eq]
  exact notify_eq ..

theorem addReady_quiet (b : Nat) (s : State) :
    Quiet { s with ready := s.ready.add (readyRecordOf s b) } (addReady b s) :=
  notify_quiet _ _ { s with ready := s.ready.add (readyRecordOf s b) }

/-! ### Requests -/

/-- A request changes the allocator alone, and ends no pass in flight (R75, R79). -/
theorem requestPass_alloc (s : State) : ∃ a, requestPass s = { s with alloc := a } ∧ AllocKept s.alloc a ∧
    (inFlight s = true → a.snapshot.isSome = true) := by
  obtain ⟨a, ha⟩ := requestPass_eq s
  refine ⟨a, ha, ?_, fun hf => ?_⟩
  · have := (requestPass_ripple s).alloc
    rwa [ha] at this
  · rcases requestPass_cases s with ⟨-, h⟩ | ⟨-, -, h⟩ | ⟨-, hn, -⟩
    · rw [← show (requestPass s).alloc = a by rw [ha], h]
      exact hf
    · rw [← show (requestPass s).alloc = a by rw [ha], h]
      exact hf
    · rw [hf] at hn
      cases hn

theorem Quiet.ofAlloc {s : State} {a : Allocator} (h : AllocKept s.alloc a) : Quiet s { s with alloc := a } :=
  ⟨.ofAlloc h, ⟨rfl, rfl, rfl⟩⟩

/-! ### Binding -/

/-- A state with a session's record handed over where it is due. -/
def handedOver (p : Prop) [Decidable p] (b : Nat) (s : State) : State :=
  if p then { s with ready := s.ready.add (readyRecordOf s b) } else s

/-- What a binding does beyond the record that it writes (R5, R149): from `s`, where the record stands in `t`. -/
structure Bound (p : Prop) [Decidable p] (b : Nat) (s t r : State) : Prop where
  quiet     : Quiet (handedOver p b t) r
  requested : Requested s r
  order     : r.order = noticed (if p then [readyNotice (readyRecordOf t b) t.ready] else []) t.order

theorem bind_bound {b : Nat} {plan : Plan} {link : Option Nat} (s : State) :
    Bound (((s.session b).rebound plan link s.clock.minute).state = .satisfied) b s
      (putSession b ((s.session b).rebound plan link s.clock.minute) s) (bind b plan link s) := by
  unfold bind
  dsimp only
  generalize (s.session b).rebound plan link s.clock.minute = y
  by_cases hy : y.state = .satisfied
  · rw [if_pos hy]
    obtain ⟨a, ha, -⟩ := requestPass_alloc (addReady b (putSession b y s))
    have ho : (addReady b (putSession b y s)).alloc = s.alloc := by rw [addReady_eq]; rfl
    exact {
      quiet := by
        unfold handedOver
        rw [if_pos hy]
        exact (addReady_quiet _ _).trans (requestPass_quiet _)
      requested := requested_requestPass fun h => by unfold inFlight; rw [ho]; exact h
      order := by rw [if_pos hy, ha, addReady_eq] }
  · rw [if_neg hy]
    obtain ⟨a, ha, -⟩ := requestPass_alloc (putSession b y s)
    exact {
      quiet := by
        unfold handedOver
        rw [if_neg hy]
        exact requestPass_quiet _
      requested := requested_requestPass id
      order := by rw [if_neg hy, ha]; rfl }

/-- The record of a session that is bound (R5, R12). -/
theorem rebound_eq (x : Session) (plan : Plan) (link : Option Nat) (m : Nat) : x.rebound plan link m = { x with
    plan := plan, planLink := link, countdown := some (countdownFrom plan.departure m)
    state := if plan.target ≤ x.battery then .satisfied else .active
    idTimer := none
    windowOpen := 0 < plan.power && 0 < plan.window && decide (countdownFrom plan.departure m ≤ plan.window) } := by
  unfold Session.rebound Session.opensWindow stateFor
  split <;> simp [SessionState.counts]

/-! ### Acceptance -/

/-- An acceptance for a session (R8): a change of more than 20 steps requests a pass once the session is bound. -/
theorem updateAcceptance_eq {b : Nat} {s : State} (v : Nat) (ho : (s.session b).state ≠ .vacant) :
    updateAcceptance b v s =
      if (min v 3000 + 20 < (s.session b).acceptance ∨ (s.session b).acceptance + 20 < min v 3000) ∧
          (s.session b).state ≠ .identifying
        then requestPass (putSession b { s.session b with acceptance := min v 3000 } s)
        else putSession b { s.session b with acceptance := min v 3000 } s :=
  if_pos (decide_eq_true ho)

/-- An acceptance recorded for a bound session that had `n`: from `s`, where the record stands in `t`. -/
structure Accepted (v n : Nat) (s t r : State) : Prop where
  changed : ∃ a, r = { t with alloc := a } ∧ AllocKept t.alloc a ∧ (inFlight s = true → a.snapshot.isSome = true)
  request : min v 3000 + 20 < n ∨ n + 20 < min v 3000 → Requested s r
  same    : min v 3000 ≤ n + 20 → n ≤ min v 3000 + 20 → r.alloc = s.alloc

theorem Accepted.quiet {v n : Nat} {s t r : State} (h : Accepted v n s t r) : Quiet t r := by
  obtain ⟨a, rfl, hk, -⟩ := h.changed
  exact .ofAlloc hk

theorem Accepted.session {v n : Nat} {s t r : State} (h : Accepted v n s t r) (b : Nat) :
    r.session b = t.session b := by
  obtain ⟨a, rfl, -⟩ := h.changed
  rfl

theorem updateAcceptance_accepted {b : Nat} (v : Nat) {x : Session} (s : State) (hb : validBay b = true)
    (hs : x.state = .active ∨ x.state = .satisfied ∨ x.state = .overdue) :
    Accepted v x.acceptance s (putSession b { x with acceptance := min v 3000 } s)
      (updateAcceptance b v (putSession b x s)) := by
  have hx := session_putSession_self b x s hb
  have ho : x.state ≠ .vacant := by rcases hs with h | h | h <;> rw [h] <;> decide
  have hi : x.state ≠ .identifying := by rcases hs with h | h | h <;> rw [h] <;> decide
  rw [updateAcceptance_eq v (by rw [hx]; exact ho), hx, putSession_putSession]
  by_cases hv : min v 3000 + 20 < x.acceptance ∨ x.acceptance + 20 < min v 3000
  · rw [if_pos ⟨hv, hi⟩]
    obtain ⟨a, ha, hk, hf⟩ := requestPass_alloc (putSession b { x with acceptance := min v 3000 } s)
    exact ⟨⟨a, ha, hk, hf⟩, fun _ => requested_requestPass id, by omega⟩
  · rw [if_neg fun h => hv h.1]
    exact ⟨⟨s.alloc, rfl, rfl, id⟩, fun h => absurd h hv, fun _ _ => rfl⟩

theorem matchAndBind_some {b e : Nat} {v : U24} {s : State} (h : matchEntry s v = some e) :
    Bound (((s.session b).rebound (s.entry e).plan (some e) s.clock.minute).state = .satisfied) b s
      (putSession b ((s.session b).rebound (s.entry e).plan (some e) s.clock.minute) (claimEntry e b s))
      (matchAndBind b v s) := by
  unfold matchAndBind
  rw [h]
  obtain ⟨hq, hr, ho⟩ := bind_bound (b := b) (plan := (s.entry e).plan) (link := some e) (claimEntry e b s)
  exact ⟨hq, hr, ho⟩

theorem matchAndBind_none {b : Nat} {v : U24} {s : State} (h : matchEntry s v = none) :
    Bound (((s.session b).rebound s.plans.defaultPlan none s.clock.minute).state = .satisfied) b s
      (putSession b ((s.session b).rebound s.plans.defaultPlan none s.clock.minute) s) (matchAndBind b v s) := by
  unfold matchAndBind
  rw [h]
  exact bind_bound s

/-- A claim found late (R6, R149). -/
theorem lateClaim_bound (b e : Nat) (s : State) :
    Bound (((s.session b).rebound (s.entry e).plan (some e) s.clock.minute).state = .satisfied ∧
        (s.session b).state = .active) b s
      (putSession b ((s.session b).rebound (s.entry e).plan (some e) s.clock.minute) (claimEntry e b s))
      (lateClaim b e s) := by
  unfold lateClaim
  dsimp only
  generalize (s.session b).rebound (s.entry e).plan (some e) s.clock.minute = y
  have hreq : Requested s (requestPass (putSession b y (claimEntry e b s))) := requested_requestPass id
  obtain ⟨a, ha, hk, -⟩ := requestPass_alloc (putSession b y (claimEntry e b s))
  rw [ha] at hreq ⊢
  by_cases hp : y.state = .satisfied ∧ (s.session b).state = .active
  · rw [if_pos hp]
    refine ⟨?_, ?_, ?_⟩
    · unfold handedOver
      rw [if_pos hp]
      exact (Quiet.ofAlloc (s := { putSession b y (claimEntry e b s) with
        ready := s.ready.add (readyRecordOf (putSession b y (claimEntry e b s)) b) }) hk).trans
        (addReady_quiet b { putSession b y (claimEntry e b s) with alloc := a })
    · rw [addReady_eq]
      exact hreq
    · rw [addReady_eq, if_pos hp]
      rfl
  · rw [if_neg hp]
    refine ⟨?_, hreq, ?_⟩
    · unfold handedOver
      rw [if_neg hp]
      exact .ofAlloc hk
    · rw [if_neg hp]
      rfl

/-- A request made before a binding changes what follows no further. -/
theorem Bound.ofAlloc {p : Prop} [Decidable p] {b : Nat} {s t r : State} {a : Allocator} (hk : AllocKept t.alloc a)
    (hf : inFlight s = true → a.snapshot.isSome = true)
    (h : Bound p b { s with alloc := a } { t with alloc := a } r) : Bound p b s t r where
  quiet := by
    refine Quiet.trans ?_ h.quiet
    unfold handedOver
    split
    · exact Quiet.ofAlloc (s := { t with ready := t.ready.add (readyRecordOf t b) }) hk
    · exact .ofAlloc hk
  requested he := ⟨(h.requested he).1, fun hs => (h.requested he).2 (hf hs)⟩
  order := h.order

/-- A claim found late, for a session whose record `z` was written with a request (R6, R8). -/
theorem lateClaim_recorded {b : Nat} (e : Nat) {z : Session} {s : State} {a : Allocator} (hb : validBay b = true)
    (hk : AllocKept s.alloc a) (hf : inFlight s = true → a.snapshot.isSome = true) :
    Bound ((z.rebound (s.entry e).plan (some e) s.clock.minute).state = .satisfied ∧ z.state = .active) b s
      (putSession b (z.rebound (s.entry e).plan (some e) s.clock.minute) (claimEntry e b s))
      (lateClaim b e { putSession b z s with alloc := a }) := by
  have hl := lateClaim_bound b e { putSession b z s with alloc := a }
  have hz : State.session { putSession b z s with alloc := a } b = z := session_putSession_self b z s hb
  rw [hz] at hl
  rw [← putSession_claimEntry_putSession b e b z]
  exact Bound.ofAlloc (t := putSession b _ (claimEntry e b (putSession b z s))) hk hf
    ⟨hl.quiet, hl.requested, hl.order⟩

/-! ### The message -/

theorem exec_identity {c : Nat} {p : Byte} {v : U24} {a : U16} {s : State} (hc : validCab c = true)
    (hp : validPosition p.toNat = true) : exec (.identity c p v a) s = .next (if (s.link c).serves = true
      then takeIdentity (bayAt c p.toNat) v a.toNat (goodFrame c s) else goodFrame c s) := by
  refine (if_pos hc).trans (congrArg Host.Outcome.next ?_)
  unfold takeIdentityMsg takeChecked num
  rw [if_pos hp, actIdentity, goodFrame_serves hc]

/-- An identity for an IDENTIFYING session (R3, R8). -/
theorem takeIdentity_identifying {b : Nat} {s : State} (v : U24) (a : Nat) (hb : validBay b = true)
    (hi : (s.session b).state = .identifying) : takeIdentity b v a s =
      if v = 0 then putSession b { s.session b with acceptance := min a 3000 } s
      else matchAndBind b v (putSession b
        { s.session b with acceptance := min a 3000, identity := some v, idTimer := none } s) := by
  have hu : updateAcceptance b a s = putSession b { s.session b with acceptance := min a 3000 } s := by
    rw [updateAcceptance_eq a (by rw [hi]; decide), if_neg fun h => h.2 hi]
  have ht : takeIdentity b v a s =
      let s1 := updateAcceptance b a s
      if v = 0 then s1
      else matchAndBind b v (putSession b { s1.session b with identity := some v, idTimer := none } s1) := by
    unfold takeIdentity
    dsimp only
    rw [hi]
  rw [ht, hu]
  dsimp only
  rw [session_putSession_self _ _ _ hb, putSession_putSession]

theorem takeIdentity_vacant {b : Nat} {s : State} (v : U24) (a : Nat) (hv : (s.session b).state = .vacant) :
    takeIdentity b v a s = s := by
  unfold takeIdentity
  dsimp only
  rw [hv]

/-- An identity 0, or one for a session that has an identity (R7). -/
theorem takeIdentity_repeated {b : Nat} {s : State} (v : U24) (a : Nat)
    (hs : (s.session b).state = .active ∨ (s.session b).state = .satisfied ∨ (s.session b).state = .overdue)
    (hv : (s.session b).identity.isSome = true ∨ v = 0) : takeIdentity b v a s = updateAcceptance b a s := by
  unfold takeIdentity
  dsimp only
  rcases hs with h | h | h <;> rw [h] <;> exact if_pos hv

/-- An identity for an anonymous session `x` that is bound (R6). -/
theorem takeIdentity_late {b : Nat} {s : State} {x : Session} (v : U24) (a : Nat) (hx : s.session b = x)
    (hs : x.state = .active ∨ x.state = .satisfied ∨ x.state = .overdue) (hi : x.identity = none) (hv : v ≠ 0) :
    takeIdentity b v a s =
      let s1 := updateAcceptance b a (putSession b { x with identity := some v } s)
      if x.state = .overdue then s1 else (matchEntry s1 v).elim s1 fun e => lateClaim b e s1 := by
  have hn : ¬ (x.identity.isSome = true ∨ v = 0) := fun h => h.elim (fun h => by rw [hi] at h; cases h) hv
  unfold takeIdentity
  dsimp only
  rw [hx]
  rcases hs with h | h | h <;> rw [h]
  · refine (if_neg hn).trans ?_
    cases matchEntry _ v <;> rfl
  · refine (if_neg hn).trans ?_
    cases matchEntry _ v <;> rfl
  · exact if_neg hn

end Sys2Proof.Machine

open Sys2Proof Sys2Proof.Machine

/-- Settles O38: an identity binds to the entry that it matches or to the default plan, the timer to the default
plan. -/
theorem identityAndTimerBindASession : Obligations.IdentityAndTimerBindASession := by
  refine ⟨fun c p v a s hc hp => ?_, fun b s hb => ⟨fun hi ht => ?_, fun hn => ?_⟩, rebound_eq⟩
  · have hb := validBay_bayAt hc hp
    have hx := exec_identity (v := v) (a := a) (s := s) hc hp
    generalize bayAt c p.toNat = b at *
    refine ⟨fun hn => ?_, fun hn hi => ⟨fun hv => ?_, fun hv => ?_⟩⟩
    · rw [hx]
      rcases hn with hn | hn
      · rw [hn, if_neg (by decide)]
      · rw [takeIdentity_vacant (s := goodFrame c s) v _ hn, ite_self]
    · rw [hx, if_pos hn, takeIdentity_identifying (s := goodFrame c s) v _ hb hi, if_pos hv]
      rfl
    · rw [if_pos hn, takeIdentity_identifying (s := goodFrame c s) v _ hb hi, if_neg hv] at hx
      cases hm : matchEntry s v with
      | some e =>
        have h := matchAndBind_some (b := b) (e := e) (v := v) (s := putSession b { s.session b with
          acceptance := min a.toNat 3000, identity := some v, idTimer := none } (goodFrame c s))
          ((matchEntry_congr rfl v).trans hm)
        rw [session_putSession_self _ _ _ hb, putSession_claimEntry_putSession] at h
        exact ⟨_, h.quiet, hx, h.requested, h.order⟩
      | none =>
        have h := matchAndBind_none (b := b) (v := v) (s := putSession b { s.session b with
          acceptance := min a.toNat 3000, identity := some v, idTimer := none } (goodFrame c s))
          ((matchEntry_congr rfl v).trans hm)
        rw [session_putSession_self _ _ _ hb, putSession_putSession] at h
        exact ⟨_, h.quiet, hx, h.requested, h.order⟩
  · have h := bind_bound (b := b) (plan := s.plans.defaultPlan) (link := none) s
    exact ⟨_, h.quiet, (if_pos hb).trans (congrArg Host.Outcome.next (if_pos ⟨hi, ht⟩)), h.requested, h.order⟩
  · refine (if_pos hb).trans (congrArg Host.Outcome.next (if_neg fun h => ?_))
    rcases hn with hn | hn
    · exact hn h.1
    · rw [hn] at h
      cases h.2

/-- Settles O39: a late identity is recorded and matched once, a repeated one changes the acceptance alone. -/
theorem lateAndRepeatedIdentities : Obligations.LateAndRepeatedIdentities := by
  intro c p v a s hc hp hn
  have hb := validBay_bayAt hc hp
  have hx := exec_identity (v := v) (a := a) (s := s) hc hp
  rw [if_pos hn] at hx
  generalize bayAt c p.toNat = b at *
  dsimp only
  intro hs
  have hself : (goodFrame c s).session b = s.session b := rfl
  generalize s.session b = x at *
  refine ⟨fun hv => ?_, fun hi hv => ?_⟩
  · have h := updateAcceptance_accepted (b := b) a.toNat (goodFrame c s) hb hs
    have hsame : putSession b x (goodFrame c s) = goodFrame c s := by rw [← hself, putSession_self]
    rw [hsame] at h
    rw [takeIdentity_repeated v _ (hself ▸ hs) (hself ▸ hv.imp_left Option.isSome_iff_ne_none.mpr)] at hx
    exact ⟨_, h.quiet, hx, by rw [h.session, session_putSession_self _ _ _ hb], h.request, h.same⟩
  have h := updateAcceptance_accepted (b := b) a.toNat (x := { x with identity := some v }) (goodFrame c s) hb hs
  rw [takeIdentity_late v _ hself hs hi hv] at hx
  dsimp only at hx
  generalize updateAcceptance b a.toNat (putSession b { x with identity := some v } (goodFrame c s)) = s1 at *
  have hplans : s1.plans = s.plans := by
    obtain ⟨A, rfl, -⟩ := h.changed
    rfl
  rw [matchEntry_congr hplans] at hx
  refine ⟨fun hm => ⟨s1, h.quiet, ?_, by rw [h.session, session_putSession_self _ _ _ hb], h.request, h.same⟩,
    fun e ho hm => ?_⟩
  · rw [hx]
    rcases hm with ho | hm
    · exact congrArg Host.Outcome.next (if_pos ho)
    · rw [hm]
      exact congrArg Host.Outcome.next (ite_self _)
  · rw [hm, if_neg ho] at hx
    obtain ⟨A, rfl, hk, hf⟩ := h.changed
    have hl := lateClaim_recorded e (s := goodFrame c s)
        (z := { x with identity := some v, acceptance := min a.toNat 3000 })
      hb hk hf
    exact ⟨_, hl.quiet, hx, hl.requested, hl.order⟩

end

section
/-! Power-on reset: O3. -/

namespace Sys2Proof.Machine

theorem get1_replicate_inside {α : Type} {n : Nat} (x d : α) {i : Nat} (h1 : 1 ≤ i) (h2 : i ≤ n) :
    get1 (Vector.replicate n x) d i = x := by
  unfold get1
  rw [if_neg (by omega), Vector.getElem?_replicate, if_pos (by omega)]
  rfl

end Sys2Proof.Machine

open Sys2Proof Sys2Proof.Machine

/-- Settles O3: every bank is filled with the value of its reset rule. -/
theorem powerOnResetGivesResetValues : Obligations.PowerOnResetGivesResetValues := by
  have hceiling : ∀ c, validCab c = true → State.reset.ceiling c = ⟨1200, false⟩ := fun c hc =>
    get1_replicate_inside _ _ (validCab_iff.mp hc).1 (validCab_iff.mp hc).2
  refine ⟨fun s => rfl, fun b _ => ⟨reset_session b, reset_power b⟩, fun e _ => reset_entry e, rfl, rfl, rfl, rfl, rfl,
    hceiling, reset_step, rfl, rfl, rfl, rfl, rfl, rfl, rfl, rfl, rfl, rfl, rfl, rfl, rfl, rfl, rfl, rfl, rfl,
    fun c m _ _ => reset_module c m, rfl, reset_bondList, fun c _ => ?_, rfl, fun c _ => reset_cabFaults c, rfl, rfl,
      rfl,
    rfl, rfl, fun pin => ⟨rfl, rfl, rfl, rfl, rfl⟩, rfl⟩
  rw [reset_link]
  exact ⟨rfl, rfl, rfl, rfl, rfl, rfl, rfl, rfl, rfl, rfl, rfl, rfl, fun p => get1_replicate_default 6 _ p⟩

end

section
/-! Bodies put together from fields, and where each field stands: for O16. -/

namespace Sys2Proof.Machine

/-! ### Fields one after another -/

/-- The fields, each with its place, where the first stands at `n`. -/
def placed : Nat → List (List Byte) → List (Nat × List Byte)
  | _, [] => []
  | n, f :: fs => (n, f) :: placed (n + f.length) fs

/-- The fields, each `n` places further on. -/
def shifted (n : Nat) (fs : List (Nat × List Byte)) : List (Nat × List Byte) := fs.map fun f => (n + f.1, f.2)

theorem Layout.right {x y : List Byte} {fs : List (Nat × List Byte)} (h : Layout y fs) :
    Layout (x ++ y) (shifted x.length fs) := by
  intro f hf
  obtain ⟨g, hg, rfl⟩ := List.mem_map.mp hf
  dsimp only
  rw [List.drop_length_add_append]
  exact h g hg

theorem Layout.left {x y : List Byte} {fs : List (Nat × List Byte)} (h : Layout x fs) : Layout (x ++ y) fs := by
  intro f hf
  have hx := h f hf
  by_cases h0 : f.2 = []
  · rw [h0]; rfl
  · have hlen := congrArg List.length hx
    rw [List.length_take, List.length_drop] at hlen
    have hpos := List.length_pos_iff.mpr h0
    rw [List.drop_append_of_le_length (by omega), List.take_append_of_le_length (by rw [List.length_drop]; omega)]
    exact hx

theorem Layout.mono {body : List Byte} {fs gs : List (Nat × List Byte)} (h : Layout body fs) (hg : ∀ g ∈ gs, g ∈ fs) :
    Layout body gs := fun f hf => h f (hg f hf)

/-- The fields of a part stand in the whole, from where the part stands. -/
theorem Layout.within {body x : List Byte} {n : Nat} {fs : List (Nat × List Byte)}
    (hb : (body.drop n).take x.length = x) (h : Layout x fs) : Layout body (shifted n fs) := by
  intro f hf
  obtain ⟨g, hg, rfl⟩ := List.mem_map.mp hf
  have hd : body.drop n = x ++ (body.drop n).drop x.length := by
    conv_lhs => rw [← List.take_append_drop x.length (body.drop n), hb]
  dsimp only
  rw [← List.drop_drop, hd]
  exact h.left g hg

theorem layout_single (x : List Byte) : Layout x [(0, x)] := by
  rintro f hf
  rw [List.mem_singleton.mp hf]
  exact List.take_length

theorem placed_add (m n : Nat) (fs : List (List Byte)) : placed (m + n) fs = shifted m (placed n fs) := by
  induction fs generalizing n with
  | nil => rfl
  | cons f fs ih =>
    unfold placed
    rw [Nat.add_assoc, ih]
    rfl

theorem layout_placed (fs : List (List Byte)) : Layout fs.flatten (placed 0 fs) := by
  induction fs with
  | nil => exact nofun
  | cons f fs ih =>
    intro g hg
    rcases List.mem_cons.mp hg with rfl | hg
    · exact (layout_single f).left _ (List.mem_singleton.mpr rfl)
    · rw [Nat.zero_add, ← Nat.add_zero f.length, placed_add] at hg
      exact ih.right g hg

/-- Fields put one after another stand at their places. -/
theorem layout_fields {body : List Byte} {fs : List (Nat × List Byte)} (hb : body = (fs.map Prod.snd).flatten)
    (hp : placed 0 (fs.map Prod.snd) = fs) : Layout body fs := by
  have h := layout_placed (fs.map Prod.snd)
  rwa [hp, ← hb] at h

/-- Records of one width, one for each unit. -/
theorem layout_records {f : Nat → List Byte} {w : Nat} (hw : ∀ i, (f i).length = w) {i : Nat}
    {fs : List (Nat × List Byte)} (h : Layout (f i) fs) (l : List Nat) (k : Nat) (hk : l[k]? = some i) :
    Layout (l.flatMap f) (shifted (w * k) fs) := by
  induction l generalizing k with
  | nil => cases hk
  | cons j l ih =>
    rw [List.flatMap_cons]
    cases k with
    | zero =>
      cases hk
      have hz : shifted (w * 0) fs = fs := by simp [shifted]
      rw [hz]
      exact h.left
    | succ k =>
      have hs : shifted (w * (k + 1)) fs = shifted (f j).length (shifted (w * k) fs) := by
        simp only [shifted, List.map_map, hw, Nat.mul_succ]
        refine List.map_congr_left fun g _ => ?_
        simp only [Function.comp_apply]
        congr 1
        omega
      rw [hs]
      exact (ih k hk).right

/-! ### Widths -/

@[simp] theorem enc8_length (n : Nat) : (enc8 n).length = 1 := rfl

@[simp] theorem enc16_length (n : Nat) : (enc16 n).length = 2 := rfl

@[simp] theorem enc24_length (n : Nat) : (enc24 n).length = 3 := rfl

@[simp] theorem be24_length (v : U24) : (be24 v).length = 3 := rfl

@[simp] theorem encFlag_eq (b : Bool) : encFlag b = [mark b] := rfl

@[simp] theorem encOpt_eq {α : Type} (enc : α → List Byte) (d : α) (o : Option α) :
    encOpt enc d o = enc (o.getD d) ++ [mark o.isSome] := rfl

@[simp] theorem encIdentity_eq (o : Option U24) : encIdentity o = be24 (o.getD 0) ++ [mark o.isSome] := rfl

/-! ### Sessions, plan entries and the status -/

theorem sessionBytes_layout (x : Session) :
    Layout (sessionBytes x) [(0, enc8 x.state.code), (1, enc16 x.serial), (3, enc16 x.opened),
      (5, be24 (x.identity.getD 0)), (8, [mark x.identity.isSome]), (9, enc8 (x.planLink.getD 0)),
      (10, [mark x.planLink.isSome]), (11, enc16 x.plan.departure), (13, enc16 (x.countdown.getD 0)),
      (15, [mark x.countdown.isSome]), (16, enc24 x.plan.target), (19, enc24 x.battery), (22, enc24 x.auxiliary),
      (25, enc8 x.plan.window), (26, enc16 x.plan.power), (28, [mark x.windowOpen]), (29, [mark x.plan.priority]),
      (30, enc16 x.acceptance), (32, enc8 x.holds.code), (33, enc16 x.grant), (35, [mark x.short]),
      (36, [mark x.preShort]), (37, enc16 (secondsUp x.idTimer))] :=
  layout_fields (by unfold sessionBytes; simp) (by simp [placed])

/-- A limit bank's three stages, in turn. -/
theorem toList_three {α : Type} (v : Vector α 3) (d : α) : v.toList = [get1 v d 1, get1 v d 2, get1 v d 3] := by
  obtain ⟨⟨l⟩, hl⟩ := v
  match l, hl with
  | [a, b, c], _ => rfl

/-- The outcome of a closed claim, as READ PLAN gives it (R43). -/
theorem SessionOutcome.bytes_layout (o : SessionOutcome) :
    Layout o.bytes [(0, enc8 o.bay), (1, be24 (o.identity.getD 0)),
    (4, [mark o.identity.isSome]), (5, enc24 o.battery), (8, enc24 o.auxiliary), (11, enc16 o.closeMinute),
    (13, [mark o.targetMet])] :=
  layout_fields (by simp [SessionOutcome.bytes]) (by simp [placed])

@[simp] theorem SessionOutcome.bytes_length (o : SessionOutcome) : o.bytes.length = 14 := rfl

theorem entryBytes_layout (x : PlanEntry) (cursor : Nat) :
    Layout (entryBytes x cursor) [(0, enc8 x.state.code), (1, enc8 x.kind.code), (2, be24 x.identity),
      (5, [mark x.reuse]), (6, enc16 x.plan.departure), (8, enc24 x.plan.target), (11, enc8 x.plan.window),
      (12, enc16 x.plan.power), (14, [mark x.plan.priority]), (15, enc8 (x.claimant.getD 0)),
      (16, [mark x.claimant.isSome]), (17, [mark x.outcome.isSome]),
      (18, (x.outcome.getD SessionOutcome.unfilled).bytes), (32, enc8 cursor)] :=
  layout_fields (by simp [entryBytes, Plan.bytes]) (by simp [placed])

theorem statusBytes_layout (s : State) :
    Layout (statusBytes s) [(0, enc8 partCode ++ enc8 layoutEdition), (2, [mark s.order.noticeLost]),
      (3, [mark s.order.enables.session]),
      (4, [mark s.order.enables.ready]), (5, [mark s.order.enables.fault]), (6, [mark s.order.enables.shed]),
      (7, [mark s.order.enables.pass]), (8, [mark s.order.enables.link]), (9, [mark s.order.enables.line]),
      (10, [mark s.order.enables.narrow]), (11, enc8 s.order.replies), (12, enc8 s.order.notices),
      (13, [mark s.clock.setMarker]), (14, [mark s.env.siteCeiling.isSome]), (15, [mark s.faults.stopMinute.isSome]),
      (16, [mark (allocationEnabled s)]), (17, [mark (inFlight s)]),
      (18, allCabs.flatMap fun c => enc8 (s.link c).state.code), (26, enc8 s.ready.records.length),
      (27, [mark s.ready.overflow]), (28, [mark s.faults.alarm])] :=
  layout_fields (by simp [statusBytes, NoticeEnables.bytes]) (by simp [placed, allCabs])

/-- The record of a unit, at places counted from the start of the whole. -/
theorem Layout.unit {body : List Byte} {n : Nat} {l : List Nat} {f : Nat → List Byte} (w : Nat) {i k : Nat}
    {fs gs : List (Nat × List Byte)} (hb : Layout body [(n, l.flatMap f)]) (hw : ∀ i, (f i).length = w)
    (hk : l[k]? = some i) (h : Layout (f i) fs) (hg : gs = shifted n (shifted (w * k) fs)) : Layout body gs :=
  hg ▸ .within (hb _ (List.mem_singleton.mpr rfl)) (layout_records hw h l k hk)

theorem allCabs_getElem {c : Nat} (h : validCab c = true) : allCabs[c - 1]? = some c := by
  have := validCab_iff.mp h
  unfold allCabs
  rw [List.getElem?_range' (by omega)]
  congr 1
  omega

theorem allLines_getElem {l : Nat} (h : validLine l = true) : allLines[l - 1]? = some l :=
  allCabs_getElem (c := l) h

theorem allModules_getElem {m : Nat} (h : validModule m = true) : allModules[m - 1]? = some m := by
  have := validModule_iff.mp h
  obtain rfl | rfl | rfl | rfl : m = 1 ∨ m = 2 ∨ m = 3 ∨ m = 4 := by omega
  all_goals rfl

theorem baysOf_getElem (c : Nat) {p : Nat} (h : validPosition p = true) : (baysOf c)[p - 1]? = some (bayAt c p) := by
  have := validPosition_iff.mp h
  obtain rfl | rfl | rfl | rfl | rfl | rfl : p = 1 ∨ p = 2 ∨ p = 3 ∨ p = 4 ∨ p = 5 ∨ p = 6 := by omega
  all_goals rfl

/-! ### The envelope -/

@[simp] theorem ceilingBytes_length (x : CabinetCeiling) : (ceilingBytes x).length = 3 := rfl

theorem ceilingBytes_layout (x : CabinetCeiling) : Layout (ceilingBytes x) [(0, enc16 x.steps), (2, [mark x.locked])] :=
  layout_fields (by simp [ceilingBytes]) (by simp [placed])

theorem envelopeBytes_layout (s : State) :
    Layout (envelopeBytes s) [(0, enc16 s.clock.minute), (2, [mark s.clock.setMarker]),
      (3, enc16 (s.env.siteCeiling.getD 0)), (5, [mark s.env.siteCeiling.isSome]), (6, [mark s.env.siteCeiling.isSome]),
      (7, allCabs.flatMap fun c => ceilingBytes (s.ceiling c)),
      (31, enc8 s.env.activeBank), (32, enc8 s.env.walker), (33, enc16 (scheduleLimit s.env)),
      (35, enc8 s.env.lineStage), (36, enc8 s.env.effStage), (37, enc16 (tenths s.env.settling)),
      (39, enc16 (get1 s.env.stageLimits 0 1)), (41, enc16 (get1 s.env.stageLimits 0 2)),
      (43, enc16 (get1 s.env.stageLimits 0 3)), (45, [mark (meterAssigned s)]),
      (46, enc16 s.env.whPerPulse), (48, enc16 s.env.windowCount), (50, enc16 (s.env.lastWindow.getD 0)),
      (52, [mark s.env.lastWindow.isSome]), (53, enc16 (remaining 1000 s.env.meterWindow)), (55, enc16 s.env.reserve),
      (57, enc16 s.env.building), (59, enc16 s.env.margin), (61, enc16 (siteLimit s.env)), (63, enc16 s.env.available),
      (65, enc16 (commandedSum s)), (67, enc16 (tenths s.env.overdraw)), (69, enc16 (s.env.excess.getD 0)),
      (71, [mark s.env.excess.isSome])] :=
  layout_fields (by unfold envelopeBytes; simp [toList_three s.env.stageLimits 0]) (by simp [placed, allCabs])

/-! ### A cabinet -/

@[simp] theorem moduleBytes_length (x : Module) : (moduleBytes x).length = 3 := rfl

theorem moduleBytes_layout (x : Module) : Layout (moduleBytes x) [(0, enc8 x.state.code), (1, enc8 (x.bay.getD 0)),
    (2, [mark x.bay.isSome])] :=
  layout_fields (by simp [moduleBytes]) (by simp [placed])

@[simp] theorem linkBayBytes_length (s : State) (b : Nat) : (linkBayBytes s b).length = 16 := rfl

theorem linkBayBytes_layout {c p : Nat} (hc : validCab c = true) (hp : validPosition p = true) (s : State) :
    Layout (linkBayBytes s (bayAt c p)) [(0, [mark ((s.link c).bay p).present]),
      (1, be24 ((s.link c).bay p).identitySeen),
      (4, enc24 ((s.link c).bay p).lastBattery), (7, enc24 ((s.link c).bay p).lastAuxiliary),
      (10, [mark ((s.link c).bay p).insulation]), (11, [mark ((s.link c).bay p).derate]),
      (12, enc16 (s.power (bayAt c p)).reported), (14, enc16 (s.power (bayAt c p)).commanded)] := by
  have hl : s.linkBay (bayAt c p) = (s.link c).bay p := by
    unfold State.linkBay
    rw [cabOf_bayAt hc hp, posOf_bayAt hp]
  exact layout_fields (by simp [linkBayBytes, hl]) (by simp [placed])

theorem cabinetBytes_layout (c : Nat) (s : State) :
    Layout (cabinetBytes c s) [(0, enc8 (s.link c).state.code), (1, [mark (s.link c).adopted]),
      (2, enc8 (s.link c).probeCount), (3, enc16 (secondsUp (s.link c).probe)), (5, enc16 (tenths (s.link c).silence)),
      (7, enc16 (tenths (s.link c).lostTimer)), (9, enc24 (s.link c).lostSum),
        (12, enc8 (moduleSet (s.link c).installed)),
      (13, allModules.flatMap fun m => moduleBytes (s.module c m)), (25, (baysOf c).flatMap (linkBayBytes s)),
      (121, ceilingBytes (s.ceiling c))] :=
  layout_fields (by unfold cabinetBytes; simp) (by simp [placed, allModules, baysOf])

/-! ### Faults -/

theorem firstBytes_eq (o : Option FirstCode) : firstBytes o = match o with
    | some f => enc8 f.code.code ++ enc8 f.subject.kind.code ++ enc8 f.subject.number ++ [1]
    | none => [0, 0, 0, 0] := by
  cases o with
  | none => decide
  | some f => rfl

@[simp] theorem firstBytes_length (o : Option FirstCode) : (firstBytes o).length = 4 := rfl

@[simp] theorem recordBytes_length (f : CabinetFaults) : (recordBytes f).length = 16 := rfl

theorem recordBytes_layout (f : CabinetFaults) : Layout (recordBytes f) [(0, [mark f.correctable.isSome]),
    (1, [mark f.nonfatal.isSome]), (2, [mark f.fatal.isSome]), (3, firstBytes f.correctable),
      (7, firstBytes f.nonfatal),
    (11, firstBytes f.fatal), (15, [mark f.isolated])] :=
  layout_fields (by simp [recordBytes]) (by simp [placed])

theorem faultsBytes_layout (s : State) :
    Layout (faultsBytes s) [(0, allCabs.flatMap fun c => recordBytes (s.cabFaults c)),
      (128, [mark s.faults.overdrawMinute.isSome]),
      (129, enc16 (s.faults.overdrawMinute.getD 0)), (131, [mark s.faults.overdrawMinute.isSome]),
      (132, [mark s.faults.stopMinute.isSome]), (133, enc16 (s.faults.stopMinute.getD 0)),
      (135, [mark s.faults.stopMinute.isSome]), (136, [mark s.faults.notices.correctable]),
      (137, [mark s.faults.alarms.correctable]), (138, [mark s.faults.notices.nonfatal]),
      (139, [mark s.faults.alarms.nonfatal]), (140, [mark s.faults.notices.fatal]),
      (141, [mark s.faults.alarms.fatal]), (142, [mark s.faults.alarm])] :=
  layout_fields (by unfold faultsBytes enablesBytes; simp) (by simp [placed, allCabs])

/-! ### Lines -/

theorem drivenAsserted_eq (s : State) (x : Line) : drivenAsserted s x = match x.settings.function with
    | .generalOut => x.settings.outputLevel
    | .readyOut => decide (s.ready.records ≠ [])
    | .alarmOut => s.faults.alarm && (!x.settings.blink || x.blinkHalf)
    | _ => false := by
  unfold drivenAsserted
  cases x.settings.function
  case readyOut =>
    unfold readyIndication
    cases s.ready.records <;> rfl
  all_goals rfl

theorem rawPin_eq (s : State) (x : Line) : rawPin s x = if x.settings.function.isInput then x.pin
    else if x.settings.drive = .openDrain then (drivenAsserted s x != x.settings.invert) && x.pin
    else drivenAsserted s x != x.settings.invert := by
  unfold rawPin
  cases x.settings.drive <;> rfl

@[simp] theorem lineBytes_length (s : State) (l : Nat) : (lineBytes s l).length = 10 := rfl

theorem lineBytes_layout (s : State) (l : Nat) : Layout (lineBytes s l) [(0, enc8 (s.line l).settings.function.code),
    (1, [mark (s.line l).settings.invert]), (2, [mark (s.line l).settings.pullUp]),
    (3, enc8 (s.line l).settings.edge.code), (4, enc8 (s.line l).settings.drive.code),
    (5, [mark (s.line l).settings.blink]), (6, [mark (s.line l).settings.outputLevel]),
      (7, [mark (rawPin s (s.line l))]),
    (8, [mark ((s.line l).settings.function.isInput && (s.line l).level)]),
      (9, [mark (drivenAsserted s (s.line l))])] :=
  layout_fields (by simp [lineBytes, LineSettings.bytes, lineLevelBytes]) (by simp [placed])

theorem linesBytes_layout (s : State) :
    Layout (linesBytes s) [(0, allLines.flatMap (lineBytes s)), (80, enc8 (stopLinesAsserted s))] :=
  layout_fields (by simp [linesBytes]) (by simp [placed, allLines])

end Sys2Proof.Machine
end

section
/-! The read orders: O16. -/

namespace Sys2Proof.Machine

/-! ### Numbers, times and sets as they are sent -/

/-- A number of 8 bits out of a larger one. -/
theorem extract_byte (w n k : Nat) (h : n < 2 ^ w) :
    (BitVec.ofNat w n).extractLsb' k 8 = BitVec.ofNat 8 (n / 2 ^ k) := by
  apply BitVec.eq_of_toNat_eq
  rw [BitVec.extractLsb'_toNat, BitVec.toNat_ofNat, BitVec.toNat_ofNat, Nat.mod_eq_of_lt h, Nat.shiftRight_eq_div_pow]

theorem enc8_eq {n : Nat} (h : n < 256) : enc8 n = [BitVec.ofNat 8 n] := by
  unfold enc8
  rw [if_pos h]

theorem enc16_eq {n : Nat} (h : n < 65536) : enc16 n = [BitVec.ofNat 8 (n / 256), BitVec.ofNat 8 n] := by
  unfold enc16 be16
  rw [if_pos h, extract_byte 16 n 8 h, extract_byte 16 n 0 h, Nat.pow_zero, Nat.div_one]
  rfl

theorem enc24_eq {n : Nat} (h : n < 16777216) :
    enc24 n = [BitVec.ofNat 8 (n / 65536), BitVec.ofNat 8 (n / 256), BitVec.ofNat 8 n] := by
  unfold enc24 be24
  rw [if_pos h, extract_byte 24 n 16 h, extract_byte 24 n 8 h, extract_byte 24 n 0 h, Nat.pow_zero, Nat.div_one]
  rfl

/-- A remaining time in its unit: exact where it is a multiple, and else one of the two about it (log entry 13). -/
theorem remaining_spec (unit ms : Nat) : (ms % unit = 0 → remaining unit (some ms) = ms / unit) ∧
    ms / unit ≤ remaining unit (some ms) ∧ remaining unit (some ms) ≤ ms / unit + 1 := by
  unfold remaining
  dsimp only [Option.getD_some]
  split
  · exact ⟨fun _ => rfl, Nat.le_refl _, Nat.le_succ _⟩
  · next h =>
    refine ⟨fun h0 => absurd h0 h, ?_⟩
    split <;> omega

theorem remaining_none (unit : Nat) : remaining unit none = 0 := by
  unfold remaining
  simp

theorem holds_byte (h : Holds) : enc8 h.code = [(if h.host then 1 else 0) ||| (if h.fault then 2 else 0) |||
    (if h.link then 4 else 0) ||| (if h.stop then 8 else 0)] := by
  obtain ⟨host, fault, link, stop⟩ := h
  revert host fault link stop
  decide

/-- The byte of a set of modules holds bit `m - 1` for module `m` (R144). -/
theorem moduleSet_spec (ms : List Nat) : moduleSet ms < 16 ∧
    ∀ m, validModule m = true → (moduleSet ms).testBit (m - 1) = ms.contains m := by
  have hm : moduleSet ms = (if ms.contains 1 then 1 else 0) + (if ms.contains 2 then 2 else 0) +
      (if ms.contains 3 then 4 else 0) + (if ms.contains 4 then 8 else 0) := by
    unfold moduleSet
    simp only [List.foldl_cons, List.foldl_nil]
    split <;> split <;> split <;> split <;> rfl
  have hall : ∀ b1 b2 b3 b4 : Bool, let n := (if b1 then 1 else 0) + (if b2 then 2 else 0) + (if b3 then 4 else 0) +
      (if b4 then 8 else 0)
      n < 16 ∧ n.testBit 0 = b1 ∧ n.testBit 1 = b2 ∧ n.testBit 2 = b3 ∧ n.testBit 3 = b4 := by decide
  obtain ⟨h, h1, h2, h3, h4⟩ := hall (ms.contains 1) (ms.contains 2) (ms.contains 3) (ms.contains 4)
  rw [hm]
  refine ⟨h, fun m hv => ?_⟩
  have := validModule_iff.mp hv
  obtain rfl | rfl | rfl | rfl : m = 1 ∨ m = 2 ∨ m = 3 ∨ m = 4 := by omega
  exacts [h1, h2, h3, h4]

theorem lostSum_eq (l : Link) : l.lostSum = match l.lostHold with
    | some held => held.toList.sum
    | none => 0 := by
  unfold Link.lostSum
  cases l.lostHold <;> rfl

theorem isInput_iff (f : LineFunction) : f.isInput = false ↔ f = .generalOut ∨ f = .alarmOut ∨ f = .readyOut := by
  cases f <;> decide

theorem meterAssigned_iff (s : State) :
    meterAssigned s = true ↔ ∃ k, validLine k = true ∧ (s.line k).settings.function = .meterPulse := by
  unfold meterAssigned
  simp only [List.any_eq_true, decide_eq_true_eq]
  refine exists_congr fun k => and_congr_left fun _ => ?_
  exact mem_allLines

/-! ### The orders -/

theorem effectReadPlan_valid {e : Byte} {s : State} (h : validEntry e.toNat = true) :
    effectReadPlan e s = (s, okBody (entryBytes (s.entry e.toNat) s.plans.cursor)) := if_pos h

theorem effectReadSession_valid {b : Byte} {s : State} (h : validBay b.toNat = true) :
    effectReadSession b s = (s, okBody (sessionBytes (s.session b.toNat))) := if_pos h

theorem effectReadCabinet_valid {c : Byte} {s : State} (h : validCab c.toNat = true) :
    effectReadCabinet c s = (s, okBody (cabinetBytes c.toNat s)) := if_pos h

/-- An order that can be taken is carried out and answered (R180). -/
theorem order_next {i : Instr} (f : OrderFrame) (effect : State → State × List Byte) {s : State}
    (hx : exec i s = .next (takeOrder i effect s)) (hi : encodeOrder i = some f) (h : canTake s = true) :
    exec i s = .next ((effect s).1.replied f.tag (f.kind + 0x80) (effect s).2) := by
  rw [hx, takeOrder_taken hi effect h]

/-! ### The fields of the replies -/

theorem entryBytes_outcome (x : PlanEntry) (cursor : Nat) :
    (x.outcome = none → Layout (entryBytes x cursor) [(18, List.replicate 14 0)]) ∧
    (∀ o, x.outcome = some o → Layout (entryBytes x cursor) [(18, enc8 o.bay), (19, be24 (o.identity.getD 0)),
      (22, [mark o.identity.isSome]), (23, enc24 o.battery), (26, enc24 o.auxiliary), (29, enc16 o.closeMinute),
      (31, [mark o.targetMet])]) := by
  have h : Layout (entryBytes x cursor) [(18, (x.outcome.getD SessionOutcome.unfilled).bytes)] :=
    (entryBytes_layout x cursor).mono (by simp)
  refine ⟨fun hx => ?_, fun o hx => ?_⟩ <;> rw [hx] at h
  · exact h
  · exact .within (h _ (List.mem_singleton.mpr rfl)) o.bytes_layout

theorem entryBytes_fields (x : PlanEntry) (cursor : Nat) :
    Layout (entryBytes x cursor) [(0, enc8 x.state.code), (1, enc8 x.kind.code), (2, be24 x.identity),
      (5, [mark x.reuse]), (6, enc16 x.plan.departure), (8, enc24 x.plan.target), (11, enc8 x.plan.window),
      (12, enc16 x.plan.power), (14, [mark x.plan.priority]), (15, enc8 (x.claimant.getD 0)),
      (16, [mark x.claimant.isSome]), (17, [mark x.outcome.isSome]), (32, enc8 cursor)] :=
  (entryBytes_layout x cursor).mono (by simp)

theorem envelopeBytes_ceiling (s : State) {c : Nat} (hc : validCab c = true) :
    Layout (envelopeBytes s) [(4 + 3 * c, enc16 (s.ceiling c).steps), (6 + 3 * c, [mark (s.ceiling c).locked])] := by
  have h : Layout (envelopeBytes s) [(7, allCabs.flatMap fun c => ceilingBytes (s.ceiling c))] :=
    (envelopeBytes_layout s).mono (by simp)
  have := validCab_iff.mp hc
  exact h.unit 3 (fun c => ceilingBytes_length (s.ceiling c)) (allCabs_getElem hc) (ceilingBytes_layout _)
    (by simp [shifted]; omega)

theorem cabinetBytes_fields (c : Nat) (s : State) :
    Layout (cabinetBytes c s) [(0, enc8 (s.link c).state.code), (1, [mark (s.link c).adopted]),
      (2, enc8 (s.link c).probeCount), (3, enc16 (secondsUp (s.link c).probe)), (5, enc16 (tenths (s.link c).silence)),
      (7, enc16 (tenths (s.link c).lostTimer)), (9, enc24 (s.link c).lostSum),
        (12, enc8 (moduleSet (s.link c).installed)),
      (121, enc16 (s.ceiling c).steps), (123, [mark (s.ceiling c).locked])] := by
  have h : Layout (cabinetBytes c s) [(121, ceilingBytes (s.ceiling c))] := (cabinetBytes_layout c s).mono (by simp)
  exact List.forall_mem_append.mpr ⟨(cabinetBytes_layout c s).mono (gs := [_, _, _, _, _, _, _, _]) (by simp),
    Layout.within (h _ (List.mem_singleton.mpr rfl)) (ceilingBytes_layout (s.ceiling c))⟩

theorem cabinetBytes_module (c : Nat) (s : State) {m : Nat} (hm : validModule m = true) :
    Layout (cabinetBytes c s) [(10 + 3 * m, enc8 (s.module c m).state.code),
      (11 + 3 * m, enc8 ((s.module c m).bay.getD 0)), (12 + 3 * m, [mark (s.module c m).bay.isSome])] := by
  have h : Layout (cabinetBytes c s) [(13, allModules.flatMap fun m => moduleBytes (s.module c m))] :=
    (cabinetBytes_layout c s).mono (by simp)
  have := validModule_iff.mp hm
  exact h.unit 3 (fun m => moduleBytes_length (s.module c m)) (allModules_getElem hm) (moduleBytes_layout _)
    (by simp [shifted]; omega)

theorem cabinetBytes_bay {c p : Nat} (hc : validCab c = true) (hp : validPosition p = true) (s : State) :
    Layout (cabinetBytes c s) [(9 + 16 * p, [mark ((s.link c).bay p).present]),
      (10 + 16 * p, be24 ((s.link c).bay p).identitySeen), (13 + 16 * p, enc24 ((s.link c).bay p).lastBattery),
      (16 + 16 * p, enc24 ((s.link c).bay p).lastAuxiliary), (19 + 16 * p, [mark ((s.link c).bay p).insulation]),
      (20 + 16 * p, [mark ((s.link c).bay p).derate]), (21 + 16 * p, enc16 (s.power (bayAt c p)).reported),
      (23 + 16 * p, enc16 (s.power (bayAt c p)).commanded)] := by
  have h : Layout (cabinetBytes c s) [(25, (baysOf c).flatMap (linkBayBytes s))] :=
    (cabinetBytes_layout c s).mono (by simp)
  have := validPosition_iff.mp hp
  exact h.unit 16 (linkBayBytes_length s) (baysOf_getElem c hp) (linkBayBytes_layout hc hp s)
    (by simp [shifted]; omega)

theorem faultsBytes_record (s : State) {c : Nat} (hc : validCab c = true) :
    Layout (faultsBytes s) [(16 * c - 16, [mark (s.cabFaults c).correctable.isSome]),
      (16 * c - 15, [mark (s.cabFaults c).nonfatal.isSome]), (16 * c - 14, [mark (s.cabFaults c).fatal.isSome]),
      (16 * c - 13, firstBytes (s.cabFaults c).correctable), (16 * c - 9, firstBytes (s.cabFaults c).nonfatal),
      (16 * c - 5, firstBytes (s.cabFaults c).fatal), (16 * c - 1, [mark (s.cabFaults c).isolated])] := by
  have h : Layout (faultsBytes s) [(0, allCabs.flatMap fun c => recordBytes (s.cabFaults c))] :=
    (faultsBytes_layout s).mono (by simp)
  have := validCab_iff.mp hc
  exact h.unit 16 (fun c => recordBytes_length (s.cabFaults c)) (allCabs_getElem hc) (recordBytes_layout _)
    (by simp [shifted]; omega)

theorem linesBytes_line (s : State) {l : Nat} (hl : validLine l = true) :
    Layout (linesBytes s) [(10 * l - 10, enc8 (s.line l).settings.function.code),
      (10 * l - 9, [mark (s.line l).settings.invert]), (10 * l - 8, [mark (s.line l).settings.pullUp]),
      (10 * l - 7, enc8 (s.line l).settings.edge.code), (10 * l - 6, enc8 (s.line l).settings.drive.code),
      (10 * l - 5, [mark (s.line l).settings.blink]), (10 * l - 4, [mark (s.line l).settings.outputLevel]),
      (10 * l - 3, [mark (rawPin s (s.line l))]),
      (10 * l - 2, [mark ((s.line l).settings.function.isInput && (s.line l).level)]),
      (10 * l - 1, [mark (drivenAsserted s (s.line l))])] := by
  have h : Layout (linesBytes s) [(0, allLines.flatMap (lineBytes s))] := (linesBytes_layout s).mono (by simp)
  have := validLine_iff.mp hl
  exact h.unit 10 (lineBytes_length s) (allLines_getElem hl) (lineBytes_layout s l) (by simp [shifted]; omega)

theorem statusBytes_link (s : State) {c : Nat} (hc : validCab c = true) :
    Layout (statusBytes s) [(17 + c, enc8 (s.link c).state.code)] := by
  have h : Layout (statusBytes s) [(18, allCabs.flatMap fun c => enc8 (s.link c).state.code)] :=
    (statusBytes_layout s).mono (by simp)
  have := validCab_iff.mp hc
  exact h.unit 1 (fun c => enc8_length _) (allCabs_getElem hc) (layout_single _) (by simp [shifted]; omega)

end Sys2Proof.Machine

open Sys2Proof Sys2Proof.Machine

/-- Settles O16: the reply of each read order, and where each field stands in it. -/
theorem readOrdersAnswerAndChangeNothing : Obligations.ReadOrdersAnswerAndChangeNothing := by
  refine ⟨fun tag s h => ?_, fun n => ⟨enc8_eq, enc16_eq, enc24_eq⟩, ?_, sessionBytes_layout, ?_, fun s => ?_, ?_⟩
  · refine ⟨order_next ⟨tag, 0x0A, []⟩ effectReadEnvelope rfl rfl h, fun e he => ?_, fun b hb => ?_, fun c hc => ?_,
      order_next ⟨tag, 0x34, []⟩ effectReadFaults rfl rfl h, order_next ⟨tag, 0x39, []⟩ effectReadLines rfl rfl h,
      order_next ⟨tag, 0x3D, []⟩ effectReadStatus rfl rfl h, order_next ⟨tag, 0x3E, []⟩ effectRestart rfl rfl h⟩
    · rw [order_next ⟨tag, 0x14, [e]⟩ (effectReadPlan e) rfl rfl h, effectReadPlan_valid he]
      rfl
    · rw [order_next ⟨tag, 0x20, [b]⟩ (effectReadSession b) rfl rfl h, effectReadSession_valid hb]
      rfl
    · rw [order_next ⟨tag, 0x30, [c]⟩ (effectReadCabinet c) rfl rfl h, effectReadCabinet_valid hc]
      rfl
  · exact ⟨remaining_none 100, remaining_none 1000, rfl, fun ms => ⟨rfl, (remaining_spec 100 ms).1,
      (remaining_spec 1000 ms).1, (remaining_spec 100 ms).2.1, (remaining_spec 100 ms).2.2,
        (remaining_spec 1000 ms).2.1,
      (remaining_spec 1000 ms).2.2⟩⟩
  · exact fun x cursor => ⟨entryBytes_fields x cursor, entryBytes_outcome x cursor⟩
  · refine ⟨(envelopeBytes_layout s).mono (by simp [scheduleLimit, Envelope.step]), fun v hv => ?limit,
      fun c hc => envelopeBytes_ceiling s hc, fun c hc => ⟨?cabinet, fun m hm => cabinetBytes_module c s hm,
        fun p hp => cabinetBytes_bay hc hp s⟩, ⟨fun c hc => ?record, (faultsBytes_layout s).mono (by simp)⟩,
      fun l hl => ?line, (linesBytes_layout s).mono (by simp), (statusBytes_layout s).mono ?status,
      fun c hc => statusBytes_link s hc⟩
    case limit =>
      have h : Layout (envelopeBytes s) [(61, enc16 (siteLimit s.env))] := (envelopeBytes_layout s).mono (by simp)
      have hs : siteLimit s.env = min v (runningLimit s.env) := by unfold siteLimit; rw [hv]
      rw [hs] at h
      exact h
    case cabinet => exact cabinetBytes_fields c s
    case record =>
      have h := faultsBytes_record s hc
      simp only [firstBytes_eq] at h
      exact h
    case line =>
      have h := linesBytes_line s hl
      rw [rawPin_eq, drivenAsserted_eq] at h
      exact h
    case status =>
      have hp : enc8 partCode ++ enc8 layoutEdition = [0x48, 0x01] := rfl
      simp [hp, OrderLink.replies, OrderLink.notices, allocationEnabled, inFlight]
  · exact ⟨rfl, rfl, rfl, rfl, rfl, rfl, rfl, rfl, rfl, rfl, rfl, rfl, holds_byte, moduleSet_spec, lostSum_eq,
        isInput_iff,
      fun s => ⟨rfl, meterAssigned_iff s⟩⟩

end

section
/-! Matching: the entry a match request is answered with, and what an entry compares: O35. -/

namespace Sys2Proof.Machine

/-! ### Candidates -/

theorem mem_candidates {s : State} {v : U24} {k : PlanKind} {e : Nat} : e ∈ candidates s v k ↔
    validEntry e = true ∧ (s.entry e).state ≠ .free ∧ (s.entry e).kind = k ∧ entryMatches s (s.entry e) v = true := by
  simp [candidates, mem_allEntries, and_assoc]

theorem candidates_ascending (s : State) (v : U24) (k : PlanKind) : (candidates s v k).Pairwise (· < ·) :=
  List.Pairwise.filter _ List.pairwise_lt_range'

theorem planKindOf_code (k : PlanKind) : planKindOf (BitVec.ofNat 8 k.code) = some k := by
  cases k <;> rfl

theorem PlanKind.code_injective : Function.Injective PlanKind.code := fun a b h =>
  Option.some.inj (by rw [← planKindOf_code a, h, planKindOf_code b])

/-- The candidates of the top kind are those of the first of the kinds that has any (R32). -/
theorem topCandidates_cases (s : State) (v : U24) {ks : List PlanKind} (hk : ks.Pairwise fun j k => j.code < k.code) :
    (topCandidates s v ks = [] ∧ ∀ j ∈ ks, candidates s v j = []) ∨
    ∃ k ∈ ks, topCandidates s v ks = candidates s v k ∧ candidates s v k ≠ [] ∧
      ∀ j ∈ ks, candidates s v j ≠ [] → k.code ≤ j.code := by
  induction ks with
  | nil => exact .inl ⟨rfl, nofun⟩
  | cons k ks ih =>
    obtain ⟨hfirst, hrest⟩ := List.pairwise_cons.mp hk
    unfold topCandidates
    by_cases hc : candidates s v k = []
    · rw [if_pos (List.isEmpty_iff.mpr hc)]
      rcases ih hrest with ⟨ht, hall⟩ | ⟨j, hj, ht, hne, hmin⟩
      · exact .inl ⟨ht, List.forall_mem_cons.mpr ⟨hc, hall⟩⟩
      · exact .inr ⟨j, List.mem_cons_of_mem _ hj, ht, hne, List.forall_mem_cons.mpr ⟨fun h => absurd hc h, hmin⟩⟩
    · rw [if_neg (mt List.isEmpty_iff.mp hc)]
      exact .inr ⟨k, List.mem_cons_self, rfl, hc, List.forall_mem_cons.mpr
        ⟨fun _ => Nat.le_refl _, fun j hj _ => Nat.le_of_lt (hfirst j hj)⟩⟩

theorem mem_kindRank (k : PlanKind) : k ∈ kindRank := by
  cases k <;> decide

/-- A vehicle with a candidate has a top kind: the one of the lowest rank among the kinds that have any (R32). -/
theorem topCandidates_of_candidate {s : State} {v : U24} {e : Nat} {j : PlanKind} (he : e ∈ candidates s v j) :
    ∃ k, topCandidates s v kindRank = candidates s v k ∧ candidates s v k ≠ [] ∧
      ∀ i, candidates s v i ≠ [] → k.code ≤ i.code := by
  rcases topCandidates_cases s v (ks := kindRank) (by decide) with ⟨-, hall⟩ | ⟨k, -, ht, hne, hmin⟩
  · rw [hall j (mem_kindRank j)] at he
    cases he
  · exact ⟨k, ht, hne, fun i => hmin i (mem_kindRank i)⟩

/-! ### The entry chosen -/

/-- The first that passes a test in an ascending list: no lower member passes. -/
theorem find?_ascending {l : List Nat} {p : Nat → Bool} {a b : Nat} (hl : l.Pairwise (· < ·)) (ha : l.find? p = some a)
    (hb : b ∈ l) (hlt : b < a) : p b = false := by
  obtain ⟨-, before, after, rfl, hbefore⟩ := List.find?_eq_some_iff_append.mp ha
  have hafter := (List.pairwise_cons.mp (List.pairwise_append.mp hl).2.1).1
  rcases List.mem_append.mp hb with hb | hb
  · simpa using hbefore b hb
  · rcases List.mem_cons.mp hb with rfl | hb
    · exact absurd hlt (Nat.lt_irrefl b)
    · exact absurd hlt (Nat.lt_asymm (hafter b hb))

/-- The entry that a match names is the first OPEN one of the candidates of its kind, and no kind of a lower rank has
any candidate (R32). -/
theorem matchEntry_some {s : State} {v : U24} {e : Nat} (h : matchEntry s v = some e) :
    e ∈ candidates s v (s.entry e).kind ∧
      (candidates s v (s.entry e).kind).find? (fun e => (s.entry e).state = .opened) = some e ∧
      ∀ j, candidates s v j ≠ [] → (s.entry e).kind.code ≤ j.code := by
  rcases topCandidates_cases s v (ks := kindRank) (by decide) with ⟨ht, -⟩ | ⟨k, -, ht, -, hmin⟩
  · rw [matchEntry, ht] at h
    cases h
  · rw [matchEntry, ht] at h
    have hm := List.mem_of_find?_eq_some h
    obtain ⟨-, -, rfl, -⟩ := mem_candidates.mp hm
    exact ⟨hm, h, fun j => hmin j (mem_kindRank j)⟩

/-- Where a match names no entry, an OPEN candidate is outranked by a candidate of another kind (R32). -/
theorem matchEntry_none {s : State} {v : U24} {e : Nat} (h : matchEntry s v = none)
    (he : e ∈ candidates s v (s.entry e).kind) (ho : (s.entry e).state = .opened) :
    ∃ k, k ∈ candidates s v (s.entry k).kind ∧ (s.entry k).kind.code < (s.entry e).kind.code := by
  obtain ⟨j, ht, hne, hmin⟩ := topCandidates_of_candidate he
  rw [matchEntry, ht] at h
  have hnone := List.find?_eq_none.mp h
  obtain ⟨k, hk⟩ := List.exists_mem_of_ne_nil _ hne
  obtain ⟨-, -, rfl, -⟩ := mem_candidates.mp hk
  refine ⟨k, hk, Nat.lt_of_le_of_ne (hmin _ (List.ne_nil_of_mem he)) fun hc => ?_⟩
  rw [PlanKind.code_injective hc] at hnone
  exact hnone e he (decide_eq_true ho)

/-! ### What an entry compares -/

/-- Two identities agree outside a mask where they agree in each bit that the mask leaves compared (R30). -/
theorem xor_and_not_eq_zero_iff {w : Nat} (x y m : BitVec w) :
    (x ^^^ y) &&& ~~~m = 0 ↔ ∀ i, i < w → m.getLsbD i = false → x.getLsbD i = y.getLsbD i := by
  rw [BitVec.eq_of_getLsbD_eq_iff]
  refine forall_congr' fun i => forall_congr' fun hi => ?_
  simp only [BitVec.ofNat_eq_ofNat, BitVec.getLsbD_and, BitVec.getLsbD_xor, BitVec.getLsbD_not, BitVec.getLsbD_zero, hi,
    decide_true, Bool.true_and]
  cases m.getLsbD i <;> simp

theorem entryMatches_iff (s : State) (x : PlanEntry) (v : U24) : entryMatches s x v = true ↔
    ∀ i, i < 24 → (maskOf s x.kind).getLsbD i = false → x.identity.getLsbD i = v.getLsbD i := by
  unfold entryMatches
  rw [decide_eq_true_iff]
  exact xor_and_not_eq_zero_iff ..

end Sys2Proof.Machine

open Sys2Proof Sys2Proof.Machine

/-- Settles O35: a match names the first OPEN candidate of the top kind, and a kind's mask says which bits count. -/
theorem matchChoosesLowestOpenEntryOfTopKind : Obligations.MatchChoosesLowestOpenEntryOfTopKind := by
  refine ⟨fun s v e h => ?_, fun s v h e he ho hm => ?_, entryMatches_iff, fun s => ⟨rfl, rfl, rfl, rfl, rfl⟩,
    fun g => rfl⟩
  · obtain ⟨hc, hf, htop⟩ := matchEntry_some h
    obtain ⟨hv, ho⟩ := matchEntry_opened h
    obtain ⟨-, -, -, hm⟩ := mem_candidates.mp hc
    refine ⟨hv, ho, hm, fun k hk hnf hkm => htop _ (List.ne_nil_of_mem (mem_candidates.mpr ⟨hk, hnf, rfl, hkm⟩)),
      fun k hk hlt hko hkk => ?_⟩
    by_contra hkm
    have hnf : (s.entry k).state ≠ .free := by rw [hko]; decide
    have hkc := mem_candidates.mpr ⟨hk, hnf, hkk, Bool.eq_true_of_not_eq_false hkm⟩
    exact of_decide_eq_false (find?_ascending (candidates_ascending ..) hf hkc hlt) hko
  · have hnf : (s.entry e).state ≠ .free := by rw [ho]; decide
    obtain ⟨k, hk, hlt⟩ := matchEntry_none h (mem_candidates.mpr ⟨he, hnf, rfl, hm⟩) ho
    obtain ⟨hkv, hkf, -, hkm⟩ := mem_candidates.mp hk
    exact ⟨k, hkv, hkf, hkm, hlt⟩

end

section
/-! RELEASE PLAN, SET GROUP MASK and SET DEFAULT PLAN: O34. -/

namespace Sys2Proof.Machine

/-! ### What the orders carry -/

theorem enc8_toNat (b : Byte) : enc8 b.toNat = [b] := by
  rw [enc8_eq b.isLt, BitVec.ofNat_toNat, BitVec.setWidth_eq]

/-- The power of an order, after the clamps of R37. -/
theorem clampPower_toNat (p : U16) : clampPower p.toNat = if p = 0 then 0 else min 100 (max 20 p.toNat) := by
  unfold clampPower
  simp only [BitVec.toNat_eq, BitVec.ofNat_eq_ofNat, BitVec.toNat_ofNat, Nat.zero_mod]

theorem badTimes_eq_false_iff {d : U16} {t : U24} :
    badTimes d t = false ↔ d.toNat < 1440 ∧ t.toNat ≤ 999999 := by
  simp [badTimes]

/-! ### Releasing an entry -/

theorem entry_putEntry_self {e : Nat} (he : validEntry e = true) (x : PlanEntry) (s : State) :
    (putEntry e x s).entry e = x := by
  rw [entry_putEntry, if_pos ⟨rfl, validEntry_iff.mp he⟩]

theorem entry_putEntry_other {e k : Nat} (h : k ≠ e) (x : PlanEntry) (s : State) :
    (putEntry e x s).entry k = s.entry k := by
  rw [entry_putEntry, if_neg fun hk => h hk.1.symm]

theorem session_dropLink {b : Nat} (hb : validBay b = true) (c : Nat) (s : State) :
    (dropLink c s).session b = if c = b then { s.session b with planLink := none } else s.session b := by
  unfold dropLink
  rw [session_putSession]
  by_cases hc : c = b
  · subst hc
    rw [if_pos ⟨rfl, validBay_iff.mp hb⟩, if_pos rfl]
  · rw [if_neg fun h => hc h.1, if_neg hc]

/-- A release writes the entry and, for a CLAIMED one, drops the claimant's plan link (R42, R18). -/
theorem releaseEntry_eq (e : Nat) (s : State) : releaseEntry e s = { s with
    plans := { s.plans with entries := set1 s.plans.entries e PlanEntry.free }
    sessions := if (s.entry e).state = .claimed then (dropLink ((s.entry e).claimant.getD 0) s).sessions
      else s.sessions } := by
  unfold releaseEntry
  dsimp only
  split <;> rfl

theorem releaseEntry_session (e : Nat) {b : Nat} (hb : validBay b = true) (s : State) :
    (releaseEntry e s).session b = if (s.entry e).state = .claimed ∧ (s.entry e).claimant = some b
      then { s.session b with planLink := none } else s.session b := by
  unfold releaseEntry
  dsimp only
  rw [putEntry_at_session]
  by_cases hc : (s.entry e).state = .claimed
  · rw [if_pos hc, session_dropLink hb]
    have hb0 : 0 ≠ b := by rintro rfl; cases hb
    cases (s.entry e).claimant with
    | none => simp [hb0]
    | some c => simp [hc]
  · rw [if_neg hc, if_neg fun h => hc h.1]

/-- RELEASE PLAN of an entry that there is (R42). -/
theorem effectReleasePlan_valid {e : Byte} {s : State} (he : validEntry e.toNat = true) :
    effectReleasePlan e s =
      (releaseEntry e.toNat s, [0x00, BitVec.ofNat 8 (s.entry e.toNat).state.code]) := by
  have hc : (s.entry e.toNat).state.code < 256 := by cases (s.entry e.toNat).state <;> decide
  refine (if_pos he).trans ?_
  rw [enc8_eq hc]
  rfl

/-- SET GROUP MASK of a group from 1 to 4 (R45). -/
theorem effectSetGroupMask_valid {g : Byte} {m : U24} {s : State} (h1 : 1 ≤ g.toNat) (h4 : g.toNat ≤ 4) :
    effectSetGroupMask g m s =
      ({ s with plans := { s.plans with masks := set1 s.plans.masks g.toNat m } }, 0x00 :: be24 m) :=
  if_pos (by simp [h1, h4])

/-- SET DEFAULT PLAN with times in range (R44). -/
theorem effectSetDefaultPlan_valid {f : DefaultOrder} {s : State} (hd : f.departure.toNat < 1440)
    (ht : f.target.toNat ≤ 999999) :
    effectSetDefaultPlan f s = ({ s with plans := { s.plans with defaultPlan := defaultPlanOf f } }, [0x00]) :=
  if_neg (by rw [badTimes_eq_false_iff.mpr ⟨hd, ht⟩]; decide)

theorem defaultPlanOf_eq (f : DefaultOrder) : defaultPlanOf f = ⟨f.departure.toNat, f.target.toNat,
    min 60 f.window.toNat, if f.power = 0 then 0 else min 100 (max 20 f.power.toNat), f.priority ≠ 0⟩ := by
  unfold defaultPlanOf
  rw [clampPower_toNat]

end Sys2Proof.Machine

open Sys2Proof Sys2Proof.Machine

/-- Settles O34: RELEASE PLAN frees the entry and drops the claimant's link, and the other two write one value. -/
theorem releaseMaskAndDefaultPlanOrders : Obligations.ReleaseMaskAndDefaultPlanOrders := by
  intro tag s h
  refine ⟨fun e he => ⟨releaseEntry e.toNat s, ?_, ?_, ?_, ?_, ?_⟩, fun g m h1 h4 =>
    ⟨{ s with plans := { s.plans with masks := set1 s.plans.masks g.toNat m } }, ?_, rfl, fun k => ?_⟩,
    fun f hd ht => ?_⟩
  · rw [order_next ⟨tag, 0x13, [e]⟩ (effectReleasePlan e) rfl rfl h, effectReleasePlan_valid he]
    rfl
  · rw [releaseEntry_eq]
  · exact entry_putEntry_self he _ _
  · intro k hk
    rw [releaseEntry_eq]
    exact entry_putEntry_other hk PlanEntry.free s
  · exact fun b hb => releaseEntry_session e.toNat hb s
  · rw [order_next ⟨tag, 0x15, [g] ++ be24 m⟩ (effectSetGroupMask g m) rfl rfl h, effectSetGroupMask_valid h1 h4]
    rfl
  · dsimp only
    rw [get1_set1]
    exact if_congr ⟨fun hk => hk.1.symm, fun hk => ⟨hk.symm, h1, h4⟩⟩ rfl rfl
  · rw [order_next ⟨tag, 0x16, defaultOrderBytes f⟩ (effectSetDefaultPlan f) rfl rfl h,
      effectSetDefaultPlan_valid hd ht, defaultPlanOf_eq]
    rfl

end

section
/-! PUT PLAN and PUT PLAN NEXT: O32 and O33. -/

namespace Sys2Proof.Machine

/-! ### The amendment of a session (R17, R149) -/

/-- An amendment changes the plan, the countdown, the state and the window open flag (R17). -/
theorem Session.amended_eq (x : Session) (p : Plan) (m : Nat) : x.amended p m = { x with
    plan := p, countdown := (x.amended p m).countdown, state := (x.amended p m).state,
    windowOpen := (x.amended p m).windowOpen } := by
  unfold Session.amended
  dsimp only
  split <;> rfl

/-- The countdown is counted again from a new departure (R17). -/
theorem Session.amended_countdown (x : Session) (p : Plan) (m : Nat) : (x.amended p m).countdown =
    if p.departure = x.plan.departure then x.countdown else some (countdownFrom p.departure m) := by
  unfold Session.amended
  dsimp only
  by_cases hd : p.departure = x.plan.departure
  · rw [if_pos hd, if_neg (not_not.mpr hd)]
  · rw [if_neg hd, if_pos hd]

/-- A bound session takes the state that its battery energy gives, except that an OVERDUE one stays so while its
departure does (R17). -/
theorem Session.amended_state (x : Session) (p : Plan) (m : Nat) : (x.amended p m).state =
    if x.state = .vacant ∨ x.state = .identifying ∨ (x.state = .overdue ∧ p.departure = x.plan.departure) then x.state
    else if p.target ≤ x.battery then .satisfied else .active := by
  unfold Session.amended stateFor
  by_cases hd : p.departure = x.plan.departure
  · cases hs : x.state <;> simp [hd, hs, SessionState.counts]
  · cases x.state <;> simp [hd, SessionState.counts]

theorem Session.amended_windowOpen (x : Session) (p : Plan) (m : Nat) :
    (x.amended p m).windowOpen = (x.amended p m).opensWindow := rfl

/-- What the amendment of a session from record `x` to `y` does beyond the record that it writes: from `s`, where the
record stands in `t`. -/
structure Amended (b : Nat) (x y : Session) (s t r : State) : Prop where
  quiet     : Quiet (handedOver (y.state = .satisfied ∧ (x.state = .active ∨ x.state = .overdue)) b t) r
  order     : r.order = noticed (if y.state = .satisfied ∧ (x.state = .active ∨ x.state = .overdue)
    then [readyNotice (readyRecordOf t b) t.ready] else []) t.order
  requested : y.state ≠ x.state ∨ (x.windowOpen = false ∧ y.windowOpen = true) → Requested s r

/-- A pass is requested on a condition: the allocator alone may change. -/
theorem requestPass_if {p : Prop} [Decidable p] {s t : State} (h : t.alloc = s.alloc) : ∃ a,
    (if p then requestPass t else t) = { t with alloc := a } ∧ AllocKept t.alloc a ∧
      (p → Requested s { t with alloc := a }) := by
  by_cases hp : p
  · obtain ⟨a, ha, hk, -⟩ := requestPass_alloc t
    refine ⟨a, by rw [if_pos hp, ha], hk, fun _ => ha ▸ requested_requestPass fun hs => ?_⟩
    unfold inFlight
    rw [h]
    exact hs
  · exact ⟨t.alloc, if_neg hp, rfl, fun h => absurd h hp⟩

/-- A record handed over on a condition, after a request (R149). -/
theorem handedOver_after_request {p : Prop} [Decidable p] (b : Nat) {t : State} {a : Allocator}
    (hk : AllocKept t.alloc a) :
    let r := if p then addReady b { t with alloc := a } else { t with alloc := a }
    Quiet (handedOver p b t) r ∧
      r.order = noticed (if p then [readyNotice (readyRecordOf t b) t.ready] else []) t.order ∧
      ∀ s, Requested s { t with alloc := a } → Requested s r := by
  unfold handedOver
  by_cases hp : p
  · simp only [if_pos hp]
    refine ⟨?_, ?_, fun s hr => ?_⟩
    · exact (Quiet.ofAlloc (s := { t with ready := t.ready.add (readyRecordOf t b) }) hk).trans
        (addReady_quiet b { t with alloc := a })
    · rw [addReady_eq]
      rfl
    · rw [addReady_eq]
      exact hr
  · simp only [if_neg hp]
    exact ⟨.ofAlloc hk, rfl, fun _ hr => hr⟩

theorem amendSession_amended (b : Nat) (p : Plan) (s : State) :
    Amended b (s.session b) ((s.session b).amended p s.clock.minute) s
      (putSession b ((s.session b).amended p s.clock.minute) s) (amendSession b p s) := by
  unfold amendSession
  dsimp only
  generalize s.session b = x
  generalize x.amended p s.clock.minute = y
  obtain ⟨a, ha, hk, hr⟩ := requestPass_if (p := y.state ≠ x.state ∨ (y.windowOpen = true ∧ ¬ x.windowOpen = true))
    (s := s) (t := putSession b y s) rfl
  obtain ⟨hq, ho, hreq⟩ := handedOver_after_request
    (p := y.state = .satisfied ∧ (x.state = .active ∨ x.state = .overdue)) b hk
  rw [ha]
  refine ⟨hq, ho, fun hc => hreq s (hr (hc.imp_right fun hw => ⟨hw.2, ?_⟩))⟩
  rw [hw.1]
  decide

theorem amendSession_plans (b : Nat) (p : Plan) (s : State) : (amendSession b p s).plans = s.plans := by
  rw [(amendSession_amended b p s).quiet.ripple.plans]
  unfold handedOver
  split <;> rfl

/-- The entry stands after the amendment of its claimant's session as it was written before it. -/
theorem amendSession_entry {e : Nat} (he : validEntry e = true) (x : PlanEntry) (b : Nat) (p : Plan) (s : State) :
    (amendSession b p (putEntry e x s)).entry e = x := by
  unfold State.entry
  rw [amendSession_plans]
  exact entry_putEntry_self he x s

/-! ### What an order is accepted for (R37) -/

theorem planOf_eq (f : PlanOrder) : planOf f = ⟨f.departure.toNat, f.target.toNat, min 60 f.window.toNat,
    if f.power = 0 then 0 else min 100 (max 20 f.power.toNat), f.priority ≠ 0⟩ := by
  unfold planOf
  rw [clampPower_toNat]

theorem acceptedKind_iff (f : PlanOrder) (k : PlanKind) : acceptedKind f = some k ↔
    planKindOf f.kind = some k ∧ ¬(k = .exact ∧ f.identity = 0) ∧ f.departure.toNat < 1440 ∧
      f.target.toNat ≤ 999999 := by
  rw [← badTimes_eq_false_iff]
  unfold acceptedKind
  cases planKindOf f.kind with
  | none => simp
  | some j =>
    dsimp only
    by_cases hb : (j = .exact ∧ f.identity = 0) ∨ badTimes f.departure f.target = true
    · rw [if_pos hb]
      refine ⟨nofun, fun ⟨hj, hi, ht⟩ => ?_⟩
      cases hj
      rcases hb with hb | hb
      · exact absurd hb hi
      · rw [hb] at ht
        cases ht
    · rw [if_neg hb]
      rw [not_or, Bool.not_eq_true] at hb
      exact ⟨fun hj => by cases hj; exact ⟨rfl, hb⟩, fun hj => hj.1⟩

/-! ### Writing an entry (R38, R40) -/

/-- An accepted write of an entry that is not CLAIMED leaves it OPEN (R38). -/
theorem writePlan_open {e : Nat} {f : PlanOrder} {k : PlanKind} {s : State} (hk : acceptedKind f = some k)
    (hs : (s.entry e).state ≠ .claimed) : writePlan e f s = (putEntry e (openEntryOf f k) s, .ok) := by
  unfold writePlan
  rw [hk]
  dsimp only
  cases hx : (s.entry e).state with
  | claimed => exact absurd hx hs
  | free => rfl
  | opened => rfl
  | spent => rfl

/-- An accepted write of a CLAIMED entry amends it, for its own kind and identity, and is refused STATE for another
(R40). -/
theorem writePlan_claimed {e : Nat} {f : PlanOrder} {k : PlanKind} {s : State} (hk : acceptedKind f = some k)
    (hs : (s.entry e).state = .claimed) : writePlan e f s =
      if (s.entry e).kind = k ∧ (s.entry e).identity = f.identity then
        (amendSession ((s.entry e).claimant.getD 0) (planOf f)
          (putEntry e { s.entry e with plan := planOf f, reuse := f.reuse ≠ 0 } s), .ok)
      else (s, .state) := by
  unfold writePlan
  rw [hk]
  dsimp only
  rw [hs]

/-- A write is answered OK, with the entry CLAIMED as it was or OPEN, or it is refused and changes nothing (R37, R38,
R40). -/
theorem writePlan_cases {e : Nat} (he : validEntry e = true) (f : PlanOrder) (s : State) :
    (∃ t, writePlan e f s = (t, .ok) ∧
      (t.entry e).state = if (s.entry e).state = .claimed then .claimed else .opened) ∨
    (∃ st, (st = .range ∨ st = .state) ∧ writePlan e f s = (s, st)) := by
  cases hk : acceptedKind f with
  | none => exact .inr ⟨.range, .inl rfl, by unfold writePlan; rw [hk]⟩
  | some k =>
    by_cases hs : (s.entry e).state = .claimed
    · rw [writePlan_claimed hk hs, if_pos hs]
      split
      · exact .inl ⟨_, rfl, by rw [amendSession_entry he]; exact hs⟩
      · exact .inr ⟨.state, .inr rfl, rfl⟩
    · rw [writePlan_open hk hs, if_neg hs]
      exact .inl ⟨_, rfl, by rw [entry_putEntry_self he]; rfl⟩

/-! ### The orders -/

/-- PUT PLAN of an entry that there is, answered OK (R38). -/
theorem exec_putPlan_ok {tag e : Byte} {f : PlanOrder} {s t : State} {x : PlanState} (h : canTake s = true)
    (he : validEntry e.toNat = true) (hw : writePlan e.toNat f s = (t, .ok)) (hx : (t.entry e.toNat).state = x) :
    exec (.putPlan tag e f) s = .next (t.replied tag 0x90 [0x00, e, BitVec.ofNat 8 x.code]) := by
  have hc : x.code < 256 := by cases x <;> decide
  have hf : effectPutPlan e f s = (t, okBody (enc8 e.toNat ++ enc8 x.code)) := by
    unfold effectPutPlan
    rw [if_neg (by simp [he])]
    dsimp only
    rw [hw]
    dsimp only
    rw [hx]
  rw [order_next ⟨tag, 0x10, [e] ++ planOrderBytes f⟩ (effectPutPlan e f) rfl rfl h, hf, enc8_toNat, enc8_eq hc]
  rfl

/-- PUT PLAN of an entry that there is, refused (R37, R40, R180). -/
theorem exec_putPlan_refused {tag e : Byte} {f : PlanOrder} {s : State} {st : Status} (h : canTake s = true)
    (he : validEntry e.toNat = true) (hst : st = .range ∨ st = .state) (hw : writePlan e.toNat f s = (s, st)) :
    exec (.putPlan tag e f) s = .next (s.replied tag 0x90 [st.byte, 0, 0]) := by
  have hf : effectPutPlan e f s = (s, refusal st 2) := by
    unfold effectPutPlan
    rw [if_neg (by simp [he])]
    dsimp only
    rw [hw]
    rcases hst with rfl | rfl <;> rfl
  rw [order_next ⟨tag, 0x10, [e] ++ planOrderBytes f⟩ (effectPutPlan e f) rfl rfl h, hf]
  rfl

/-- PUT PLAN NEXT with the cursor on an entry, answered OK (R41). -/
theorem exec_putPlanNext_ok {tag : Byte} {f : PlanOrder} {s t : State} (h : canTake s = true)
    (he : validEntry s.plans.cursor = true) (hw : writePlan s.plans.cursor f s = (t, .ok)) :
    exec (.putPlanNext tag f) s =
      .next ((setCursor (s.plans.cursor + 1) t).replied tag 0x92
        [0x00, BitVec.ofNat 8 s.plans.cursor, BitVec.ofNat 8 s.plans.cursor + 1]) := by
  obtain ⟨-, hc⟩ := validEntry_iff.mp he
  have hf : effectPutPlanNext f s = (setCursor (s.plans.cursor + 1) t,
      okBody (enc8 s.plans.cursor ++ enc8 (s.plans.cursor + 1))) := by
    unfold effectPutPlanNext
    dsimp only
    rw [if_neg (by omega), hw]
  rw [order_next ⟨tag, 0x12, planOrderBytes f⟩ (effectPutPlanNext f) rfl rfl h, hf, enc8_eq (by omega),
    enc8_eq (by omega), BitVec.ofNat_add]
  rfl

/-- PUT PLAN NEXT with the cursor on an entry, refused (R41). -/
theorem exec_putPlanNext_refused {tag : Byte} {f : PlanOrder} {s : State} {st : Status} (h : canTake s = true)
    (he : validEntry s.plans.cursor = true) (hst : st = .range ∨ st = .state)
    (hw : writePlan s.plans.cursor f s = (s, st)) :
    exec (.putPlanNext tag f) s = .next (s.replied tag 0x92
      [st.byte, BitVec.ofNat 8 s.plans.cursor, BitVec.ofNat 8 s.plans.cursor]) := by
  obtain ⟨-, hc⟩ := validEntry_iff.mp he
  have hf : effectPutPlanNext f s = (s, st.byte :: enc8 s.plans.cursor ++ enc8 s.plans.cursor) := by
    unfold effectPutPlanNext
    dsimp only
    rw [if_neg (by omega), hw]
    rcases hst with rfl | rfl <;> rfl
  rw [order_next ⟨tag, 0x12, planOrderBytes f⟩ (effectPutPlanNext f) rfl rfl h, hf, enc8_eq (by omega)]
  rfl

/-- PUT PLAN NEXT with the cursor past the last entry (R41). -/
theorem exec_putPlanNext_past {tag : Byte} {f : PlanOrder} {s : State} (h : canTake s = true)
    (hc : s.plans.cursor = 97) : exec (.putPlanNext tag f) s = .next (s.replied tag 0x92 [0x01, 97, 97]) := by
  have hf : effectPutPlanNext f s = (s, [0x01, 97, 97]) := by
    unfold effectPutPlanNext
    rw [hc]
    rfl
  rw [order_next ⟨tag, 0x12, planOrderBytes f⟩ (effectPutPlanNext f) rfl rfl h, hf]
  rfl

/-- SET PLAN CURSOR to an entry that there is (R41). -/
theorem exec_setPlanCursor {tag e : Byte} {s : State} (h : canTake s = true) (he : validEntry e.toNat = true) :
    exec (.setPlanCursor tag e) s = .next ((setCursor e.toNat s).replied tag 0x91 [0x00, e]) := by
  have hf : effectSetPlanCursor e s = (setCursor e.toNat s, okBody (enc8 e.toNat)) := if_pos he
  rw [order_next ⟨tag, 0x11, [e]⟩ (effectSetPlanCursor e) rfl rfl h, hf, enc8_toNat]
  rfl

end Sys2Proof.Machine

open Sys2Proof Sys2Proof.Machine

/-- Settles O32: PUT PLAN opens an entry that is not CLAIMED, and amends one that is together with its session. -/
theorem putPlanWritesOrAmendsTheEntry : Obligations.PutPlanWritesOrAmendsTheEntry := by
  refine ⟨fun tag e f k s h he hk => ⟨fun hs => ?_, fun hs hkind hid => ?_⟩, planOf_eq, acceptedKind_iff,
    fun x p m => ⟨x.amended_eq p m, x.amended_countdown p m, x.amended_state p m, x.amended_windowOpen p m⟩⟩
  · exact exec_putPlan_ok (x := .opened) h he (writePlan_open hk hs) (by rw [entry_putEntry_self he])
  · intro b x y s1
    obtain ⟨hq, ho, hr⟩ := amendSession_amended b (planOf f)
      (putEntry e.toNat { s.entry e.toNat with plan := planOf f, reuse := f.reuse ≠ 0 } s)
    have hw := (writePlan_claimed hk hs).trans (if_pos ⟨hkind, hid⟩)
    exact ⟨_, hq, exec_putPlan_ok (x := .claimed) h he hw (by rw [amendSession_entry he]; exact hs), ho, hr⟩

/-- Settles O33: PUT PLAN NEXT does at the cursor what PUT PLAN does, and moves on when that is answered OK. -/
theorem putPlanNextWritesAtTheCursor : Obligations.PutPlanNextWritesAtTheCursor := by
  intro tag f s h
  refine ⟨fun hv => ?_, exec_putPlanNext_past h, fun e he => exec_setPlanCursor h he⟩
  intro c
  have hc : c.toNat = s.plans.cursor := by
    have := validEntry_iff.mp hv
    exact BitVec.toNat_ofNat .. |>.trans (Nat.mod_eq_of_lt (by omega))
  have he : validEntry c.toNat = true := by rw [hc]; exact hv
  rcases writePlan_cases hv f s with ⟨t, hw, hx⟩ | ⟨st, hst, hw⟩
  · refine .inl ⟨t, ?_, exec_putPlanNext_ok h hv hw⟩
    rw [← hc] at hw hx ⊢
    rw [exec_putPlan_ok h he hw hx]
    split <;> rfl
  · refine .inr ⟨st.byte, hst.imp (congrArg Status.byte) (congrArg Status.byte), ?_,
      exec_putPlanNext_refused h hv hst hw⟩
    rw [← hc] at hw
    exact exec_putPlan_refused h he hst hw

end

section
/-! What the available power and the building estimate are computed from, and the operations that leave it alone: for
O58. -/

namespace Sys2Proof.Machine

/-! ### The quantities of R64 and R66 -/

/-- What the available power and the building estimate stand in and are computed from (R64, R66): the envelope apart
from the cabinets' ceilings, the line stage, the timers, the pulses counted and the measured excess, and whether a line
counts pulses. -/
def State.supply (s : State) : Envelope × Bool :=
  ({ s.env with
      ceilings := Vector.replicate 8 ⟨0, false⟩, lineStage := 0, settling := none, meterWindow := none
      windowCount := 0, overdraw := none, excess := none }, meterAssigned s)

/-- The invariant of O58 speaks of these quantities alone. -/
theorem envelopeInv_iff (s : State) : EnvelopeInv s ↔
    s.supply.1.available = availableOf s.supply.1 ∧ s.supply.1.building = buildingOf s.supply.2 s.supply.1 where
  mp h := ⟨h.available, h.building⟩
  mpr h := ⟨h.1, h.2⟩

theorem EnvelopeInv.of_supply {s t : State} (h : EnvelopeInv s) (hs : t.supply = s.supply) : EnvelopeInv t := by
  rw [envelopeInv_iff, hs]
  exact (envelopeInv_iff s).mp h

theorem meterAssigned_of_lines {s t : State}
    (h : ∀ l, (t.line l).settings.function = .meterPulse ↔ (s.line l).settings.function = .meterPulse) :
    meterAssigned t = meterAssigned s := by
  unfold meterAssigned
  simp only [h]

/-- The lines that count pulses are as they were, and so is the envelope where the supply looks. -/
theorem supply_of_lines {s t : State} (he : t.env = s.env)
    (h : ∀ l, (t.line l).settings.function = .meterPulse ↔ (s.line l).settings.function = .meterPulse) :
    t.supply = s.supply := by
  unfold State.supply
  rw [he, meterAssigned_of_lines h]

theorem Ripple.supply {s t : State} (h : Ripple s t) : t.supply = s.supply :=
  supply_of_lines h.env fun l => by unfold State.line; rw [h.lines]

/-! ### Writes of one item -/

@[simp] theorem supply_ite (c : Prop) [Decidable c] (s t : State) :
    (if c then s else t).supply = if c then s.supply else t.supply := apply_ite ..

@[simp] theorem supply_forEach {f : Nat → State → State} (hf : ∀ i s, (f i s).supply = s.supply) (l : List Nat)
    (s : State) : (forEach l f s).supply = s.supply := forEach_fields State.supply hf l s

section
variable (s : State)

@[simp] theorem putSession_supply (b : Nat) (x : Session) : (putSession b x s).supply = s.supply := rfl
@[simp] theorem putEntry_supply (e : Nat) (x : PlanEntry) : (putEntry e x s).supply = s.supply := rfl
@[simp] theorem putLink_supply (c : Nat) (x : Link) : (putLink c x s).supply = s.supply := rfl
@[simp] theorem putLinkBay_supply (b : Nat) (x : LinkBay) : (putLinkBay b x s).supply = s.supply := rfl
@[simp] theorem putPower_supply (b : Nat) (x : BayPower) : (putPower b x s).supply = s.supply := rfl
@[simp] theorem putModule_supply (c m : Nat) (x : Module) : (putModule c m x s).supply = s.supply := rfl
@[simp] theorem putBondList_supply (c : Nat) (l : List BondEntry) : (putBondList c l s).supply = s.supply := rfl
@[simp] theorem putRaiseList_supply (l : List Nat) : (putRaiseList l s).supply = s.supply := rfl
@[simp] theorem putCabFaults_supply (c : Nat) (x : CabinetFaults) : (putCabFaults c x s).supply = s.supply := rfl

/-! ### Operations that are ripples -/

@[simp] theorem requestPass_supply : (requestPass s).supply = s.supply := (requestPass_ripple s).supply
@[simp] theorem startPass_supply : (startPass s).supply = s.supply := (startPass_ripple s).supply
@[simp] theorem startPeriod_supply : (startPeriod s).supply = s.supply := (startPeriod_ripple s).supply
@[simp] theorem notify_supply (k : NoticeKind) (body : List Byte) : (notify k body s).supply = s.supply :=
  (notify_ripple k body s).supply
@[simp] theorem sendCab_supply (c : Nat) (m : CabMsg) : (sendCab c m s).supply = s.supply := rfl
@[simp] theorem sendIfUp_supply (c : Nat) (m : CabMsg) : (sendIfUp c m s).supply = s.supply :=
  (sendIfUp_ripple c m s).supply
@[simp] theorem reduce_supply (b v : Nat) : (reduce b v s).supply = s.supply := (reduce_ripple b v s).supply
@[simp] theorem examineRaises_supply : (examineRaises s).supply = s.supply := (examineRaises_ripple s).supply
@[simp] theorem lowerGrant_supply (b : Nat) : (lowerGrant b s).supply = s.supply := (lowerGrant_ripple b s).supply
@[simp] theorem shed_supply (cause : ShedCause) (target : Int) : (shed cause target s).supply = s.supply :=
  (shed_ripple cause target s).supply
@[simp] theorem linkChanged_supply (c : Nat) (before : LinkState) (cause : LinkCause) :
    (linkChanged c before cause s).supply = s.supply := (linkChanged_ripple c before cause s).supply
@[simp] theorem withdrawGrant_supply (b : Nat) : (withdrawGrant b s).supply = s.supply :=
  (withdrawGrant_ripple b s).supply

/-! ### The bond controller (chapter 5) -/

@[simp] theorem serveHead_supply (c : Nat) : (serveHead c s).supply = s.supply := by
  unfold serveHead
  split
  · rfl
  · split
    · rfl
    · split
      · rfl
      · rw [putBondList_supply, putModule_supply, sendIfUp_supply]

@[simp] theorem serveBonds_supply (c : Nat) : (serveBonds c s).supply = s.supply := by
  unfold serveBonds
  simp only [serveHead_supply]

@[simp] theorem cancelRamps_supply (b : Nat) : (cancelRamps b s).supply = s.supply :=
  supply_forEach (fun m t => by simp) _ s

@[simp] theorem releaseExcess_supply (b : Nat) : (releaseExcess b s).supply = s.supply :=
  supply_forEach (fun m t => by simp) _ s

@[simp] theorem releaseTest_supply (b : Nat) : (releaseTest b s).supply = s.supply := by
  unfold releaseTest
  split
  · exact supply_forEach (fun m t => by rw [putModule_supply, sendIfUp_supply]) _ s
  · rfl

@[simp] theorem rampTest_supply (b : Nat) : (rampTest b s).supply = s.supply := by
  unfold rampTest
  dsimp only
  split <;> rfl

@[simp] theorem takeReported_supply (c : Nat) (reported : Nat → Nat) : (takeReported c reported s).supply = s.supply := by
  unfold takeReported
  have hp := supply_forEach (f := fun b s => putPower b { s.power b with reported := reported (posOf b) } s)
    (fun _ _ => by rfl) (baysOf c) s
  simp [hp]

theorem rebuilt_supply : (rebuildRaises (rebuildBonds s)).supply = s.supply := by
  unfold rebuildRaises rebuildBonds
  rw [putRaiseList_supply]
  exact supply_forEach (fun c t => putBondList_supply t c _) allCabs s

@[simp] theorem bondPublication_supply : (bondPublication s).supply = s.supply := by
  unfold bondPublication
  simp [rebuilt_supply]

@[simp] theorem moduleOpened_supply (c m : Nat) : (moduleOpened c m s).supply = s.supply := by
  unfold moduleOpened
  split <;> simp

@[simp] theorem moduleClosed_supply (c m : Nat) : (moduleClosed c m s).supply = s.supply := by
  unfold moduleClosed
  dsimp only
  split <;> simp

@[simp] theorem narrowNotice_supply (b c m : Nat) (had : ModuleState) : (narrowNotice b c m had s).supply = s.supply :=
  notify_supply ..

@[simp] theorem clipSetpoint_supply (b : Nat) : (clipSetpoint b s).supply = s.supply := by
  unfold clipSetpoint
  simp

@[simp] theorem moduleFault_supply (c m : Nat) : (moduleFault c m s).supply = s.supply := by
  unfold moduleFault
  dsimp only
  split <;> simp

@[simp] theorem holdReported_supply (c : Nat) : (holdReported c s).supply = s.supply :=
  supply_forEach (fun _ _ => by rfl) (baysOf c) _

@[simp] theorem forgetModules_supply (c : Nat) : (forgetModules c s).supply = s.supply := by
  unfold forgetModules
  simp

@[simp] theorem bondLeavesUp_supply (held : Bool) (c : Nat) : (bondLeavesUp held c s).supply = s.supply := by
  have hp : (forEach (baysOf c) (fun b s => putPower b { s.power b with commanded := 0, ramp := none } s)
      (forgetModules c s)).supply = s.supply := (supply_forEach (fun _ _ => by rfl) _ _).trans (forgetModules_supply s c)
  unfold bondLeavesUp
  simp [hp]

@[simp] theorem bondDescriptor_supply (c : Nat) (l : List Nat) : (bondDescriptor c l s).supply = s.supply := by
  unfold bondDescriptor sendCeiling
  simp

@[simp] theorem adoptModules_supply (c : Nat) (l : List Nat) (v : Vector Byte 4) :
    (adoptModules c l v s).supply = s.supply := by
  unfold adoptModules
  simp

/-! ### Passes (chapter 4) -/

@[simp] theorem becomeIdle_supply : (becomeIdle s).supply = s.supply := rfl

theorem publish_supply (p : Snapshot) (r : PassResult) : (publish p r s).supply = s.supply := by
  have hb : ∀ b t, (publishBay p r b t).supply = t.supply := fun b t => by
    unfold publishBay
    split
    · exact putSession_supply t b _
    · exact putSession_supply t b _
  have hw : (writePublication p r s).supply = s.supply := by
    have hs := supply_forEach hb allBays s
    unfold writePublication
    generalize forEach allBays (publishBay p r) s = u at *
    exact (bondPublication_supply { u with alloc := { u.alloc with lastOrder := r.order } }).trans hs
  have hn : (passNotice p (writePublication p r s)).supply = s.supply := (notify_supply ..).trans hw
  unfold publish
  dsimp only
  split
  · exact (startPass_supply _).trans hn
  · exact (becomeIdle_supply _).trans hn

@[simp] theorem completePass_supply : (completePass s).supply = s.supply := by
  unfold completePass
  split
  · rfl
  · split
    · exact becomeIdle_supply s
    · dsimp only
      split
      · exact startPass_supply s
      · split
        · exact startPass_supply s
        · exact publish_supply ..

/-! ### Sessions, plans and the ready list (chapters 1, 2 and 7) -/

@[simp] theorem addReady_supply (b : Nat) : (addReady b s).supply = s.supply :=
  notify_supply { s with ready := s.ready.add (readyRecordOf s b) } _ _

@[simp] theorem claimEntry_supply (e b : Nat) : (claimEntry e b s).supply = s.supply := rfl

@[simp] theorem endSessionClaim_supply (b : Nat) : (endSessionClaim b s).supply = s.supply := by
  unfold endSessionClaim endClaim
  split
  · dsimp only
    split <;> rfl
  · rfl

@[simp] theorem plugPresent_supply (b : Nat) : (plugPresent b s).supply = s.supply := by
  unfold plugPresent noticeOpened resetCounts
  simp

@[simp] theorem bind_supply (b : Nat) (p : Plan) (link : Option Nat) : (bind b p link s).supply = s.supply := by
  unfold bind
  simp

@[simp] theorem matchAndBind_supply (b : Nat) (v : U24) : (matchAndBind b v s).supply = s.supply := by
  unfold matchAndBind
  split <;> simp

@[simp] theorem lateClaim_supply (b e : Nat) : (lateClaim b e s).supply = s.supply := by
  unfold lateClaim
  simp

@[simp] theorem updateAcceptance_supply (b v : Nat) : (updateAcceptance b v s).supply = s.supply := by
  unfold updateAcceptance
  simp

@[simp] theorem takeIdentity_supply (b : Nat) (v : U24) (a : Nat) : (takeIdentity b v a s).supply = s.supply := by
  unfold takeIdentity
  dsimp only
  split
  · rfl
  · simp
  · split
    · simp
    · split <;> simp
  · split
    · simp
    · split <;> simp
  · simp

@[simp] theorem countEnergy_supply (b battery auxiliary : Nat) : (countEnergy b battery auxiliary s).supply = s.supply := by
  unfold countEnergy
  simp

@[simp] theorem minuteAt_supply (b : Nat) : (minuteAt b s).supply = s.supply := by
  unfold minuteAt noticeOverdue
  simp

@[simp] theorem reclockSessions_supply : (reclockSessions s).supply = s.supply := by
  have hp := supply_forEach (f := fun b s => putSession b ((s.session b).reclocked s.clock.minute) s)
    (fun _ _ => by rfl) allBays s
  unfold reclockSessions
  simp [hp]

@[simp] theorem amendSession_supply (b : Nat) (p : Plan) : (amendSession b p s).supply = s.supply := by
  unfold amendSession
  simp

@[simp] theorem closeSession_supply (cause : CloseCause) (b : Nat) : (closeSession cause b s).supply = s.supply := by
  unfold closeSession noticeClosed
  simp

@[simp] theorem plugAbsent_supply (b : Nat) : (plugAbsent b s).supply = s.supply := by
  unfold plugAbsent
  simp

@[simp] theorem setHold_supply (r : HoldReason) (b : Nat) : (setHold r b s).supply = s.supply := by
  unfold setHold
  simp

@[simp] theorem clearHold_supply (r : HoldReason) (b : Nat) : (clearHold r b s).supply = s.supply := by
  unfold clearHold
  simp

@[simp] theorem holdCabinet_supply (r : HoldReason) (c : Nat) : (holdCabinet r c s).supply = s.supply :=
  supply_forEach (fun b t => setHold_supply t r b) _ s

@[simp] theorem writePlan_supply (e : Nat) (f : PlanOrder) : (writePlan e f s).1.supply = s.supply := by
  unfold writePlan
  split
  · rfl
  · dsimp only
    split
    · rfl
    · rfl
    · rfl
    · split
      · exact amendSession_supply ..
      · rfl

@[simp] theorem releaseEntry_supply (e : Nat) : (releaseEntry e s).supply = s.supply := by
  unfold releaseEntry dropLink
  simp

/-! ### Links (chapter 6) -/

@[simp] theorem enterTraining_supply (c : Nat) : (enterTraining c s).supply = s.supply := rfl
@[simp] theorem goodFrame_supply (c : Nat) : (goodFrame c s).supply = s.supply := rfl

@[simp] theorem retrainFromUp_supply (c : Nat) : (retrainFromUp c s).supply = s.supply := by
  unfold retrainFromUp
  simp

@[simp] theorem retrainLink_supply (c : Nat) : (retrainLink c s).supply = s.supply := by
  unfold retrainLink
  split <;> simp

@[simp] theorem isolateLink_supply (c : Nat) : (isolateLink c s).supply = s.supply := by
  unfold isolateLink
  dsimp only
  split <;> simp

@[simp] theorem leaveIsolation_supply (c : Nat) : (leaveIsolation c s).supply = s.supply := by
  unfold leaveIsolation
  simp

/-! ### Faults and the site stop (chapter 8) -/

@[simp] theorem evaluateAlarm_supply : (evaluateAlarm s).supply = s.supply := by
  obtain ⟨lines, he, hk⟩ := evaluateAlarm_eq s
  rw [he]
  refine supply_of_lines rfl fun l => ?_
  rw [← (hk l).settings]
  rfl

@[simp] theorem isolateCabinet_supply (c : Nat) : (isolateCabinet c s).supply = s.supply := by
  unfold isolateCabinet
  simp

@[simp] theorem faultEffect_supply (source : FaultSource) (c : Nat) (first : FirstCode) :
    (faultEffect source c first s).supply = s.supply := by
  unfold faultEffect
  split
  · split <;> simp
  all_goals simp

@[simp] theorem takeFault_supply (source : FaultSource) (c : Nat) (code : FaultCode) (x : Subject) :
    (takeFault source c code x s).supply = s.supply := by
  unfold takeFault recordFault faultNotice
  simp

@[simp] theorem linkFrameFault_supply (c : Nat) : (linkFrameFault c s).supply = s.supply := takeFault_supply ..

@[simp] theorem overdrawNotice_supply (flag : Bool) : (overdrawNotice flag s).supply = s.supply := by
  unfold overdrawNotice
  split
  · exact notify_supply ..
  · rfl

@[simp] theorem takeOverdraw_supply : (takeOverdraw s).supply = s.supply := by
  unfold takeOverdraw
  dsimp only
  rw [evaluateAlarm_supply, overdrawNotice_supply]
  split <;> rfl

@[simp] theorem beginStop_supply : (beginStop s).supply = s.supply := by
  unfold beginStop
  split
  · rfl
  · dsimp only
    rw [evaluateAlarm_supply, supply_forEach fun b t => setHold_supply t .stop b, shed_supply]
    rfl

@[simp] theorem endStop_supply : (endStop s).supply = s.supply := by
  unfold endStop
  dsimp only
  rw [evaluateAlarm_supply, requestPass_supply, examineRaises_supply,
    supply_forEach fun c t => serveBonds_supply t c, supply_forEach fun b t => clearHold_supply t .stop b]
  rfl

@[simp] theorem clearSite_supply (classes : Byte) : (clearSite classes s).supply = s.supply := by
  unfold clearSite
  split <;> rfl

@[simp] theorem clearCabinet_supply (c : Nat) (classes : Byte) : (clearCabinet c classes s).supply = s.supply := by
  unfold clearCabinet holdTest
  simp

end

end Sys2Proof.Machine
end

section
/-! Every step keeps the available power and the building estimate those of R66 and R64: O58. -/

namespace Sys2Proof.Machine

/-! ### Computations of A and B -/

/-- A computation of the available power where the building estimate stands (R66). -/
theorem recompute_envelopeInv {s : State} (h : s.env.building = buildingOf (meterAssigned s) s.env) :
    EnvelopeInv (recompute s) := by
  have hf : EnvelopeInv { s with env := s.env.fresh } := ⟨rfl, h⟩
  exact hf.of_supply (recompute_ripple s).supply

/-- A new value in the envelope, after which the available power is computed. -/
theorem recomputeAfter_envelopeInv {s : State} {e : Envelope} (h : e.building = buildingOf (meterAssigned s) e) :
    EnvelopeInv (recompute { s with env := e }) :=
  recompute_envelopeInv (s := { s with env := e }) h

/-- Both are computed (R64, R66). -/
theorem recompute_recomputeBuilding_envelopeInv (s : State) : EnvelopeInv (recompute (recomputeBuilding s)) :=
  recompute_envelopeInv rfl

/-- The available power depends on no bank but the active one (R56). -/
theorem availableOf_inactiveBank {e : Envelope} {b : Nat} (h : b ≠ e.activeBank) (x : Vector LimitStep 16) :
    availableOf { e with banks := set1 e.banks b x } = availableOf e := by
  have hs : scheduleLimit { e with banks := set1 e.banks b x } = scheduleLimit e := by
    unfold scheduleLimit
    rw [get1_set1_other _ _ _ _ _ h]
  have hr : runningLimit { e with banks := set1 e.banks b x } = runningLimit e := congrArg (min · _) hs
  unfold availableOf
  rw [hr]

/-! ### Lines (chapter 9) -/

theorem putLine_supply {l : Nat} {x : Line} {s : State}
    (h : x.settings.function = .meterPulse ↔ (s.line l).settings.function = .meterPulse) :
    (putLine l x s).supply = s.supply := by
  refine supply_of_lines rfl fun j => ?_
  rw [line_putLine]
  split
  · next hj => rw [h, hj.1]
  · rfl

/-- The line stage and the settling timer take no part in either quantity (R59). -/
@[simp] theorem updateStage_supply (s : State) : (updateStage s).supply = s.supply := by
  unfold updateStage
  dsimp only
  split <;> rfl

@[simp] theorem handLevel_supply (l : Nat) (s : State) : (handLevel l s).supply = s.supply := by
  unfold handLevel
  dsimp only
  split
  case h_4 => split <;> rfl
  all_goals simp [lineNotice]

/-- A function other than METER_PULSE is handed over without a computation (R59). -/
theorem handFunction_supply {f : LineFunction} (h : f ≠ .meterPulse) (s : State) :
    (handFunction f s).supply = s.supply := by
  cases f
  case meterPulse => exact absurd rfl h
  case curtailA => exact updateStage_supply s
  case curtailB => exact updateStage_supply s
  all_goals rfl

/-- METER_PULSE given or taken away computes both quantities (R63). -/
theorem handFunction_meterPulse (s : State) : EnvelopeInv (handFunction .meterPulse s) :=
  recompute_recomputeBuilding_envelopeInv _

/-- Starting or stopping the blinking leaves a line its settings. -/
theorem Line.blinking_settings (x : Line) (alarm : Bool) :
    (if x.blinks alarm then x.startBlink else x.stopBlink).settings = x.settings := by
  split <;> rfl

theorem Line.start_settings (x : Line) (alarm : Bool) : (x.start alarm).settings = x.settings :=
  Line.blinking_settings { x with
    level := false
    filter := if x.settings.function.isInput then filterFor x.settings.function x.pinAsserted else none } alarm

theorem Line.retune_settings (x : Line) (n : LineSettings) (alarm : Bool) : (x.retune n alarm).settings = n := by
  unfold Line.retune
  dsimp only
  generalize (if n.function.isInput && (n.invert != x.settings.invert) then !x.level else x.level) = level
  split
  · split <;> rfl
  · rfl

theorem Line.takePin_settings (x : Line) (high : Bool) : (x.takePin high).settings = x.settings := by
  unfold Line.takePin
  split
  · rfl
  · dsimp only
    split <;> rfl

theorem Line.toggle_settings (x : Line) : x.toggle.settings = x.settings := by
  unfold Line.toggle
  split <;> rfl

namespace EnvelopeInv

variable {s : State}

theorem handFunction (h : EnvelopeInv s) (f : LineFunction) : EnvelopeInv (handFunction f s) := by
  by_cases hf : f = .meterPulse
  · rw [hf]
    exact handFunction_meterPulse s
  · exact h.of_supply (handFunction_supply hf s)

/-- SET LINE computes both quantities where METER_PULSE comes or goes, and touches neither elsewhere (R175, R63). -/
theorem applyLine (h : EnvelopeInv s) {l : Nat} {n : LineSettings} : EnvelopeInv (applyLine l n s) := by
  unfold Machine.applyLine
  dsimp only
  split
  · next hn =>
    have hp := h.of_supply (putLine_supply (l := l) (x := (s.line l).retune n s.faults.alarm)
      (by rw [Line.retune_settings, hn]))
    split
    · exact hp
    · exact hp.of_supply (handLevel_supply ..)
  · next hn =>
    by_cases hnew : n.function = .meterPulse
    · rw [hnew]
      exact handFunction_meterPulse _
    · refine EnvelopeInv.handFunction ?_ _
      by_cases hold : (s.line l).settings.function = .meterPulse
      · rw [hold]
        exact handFunction_meterPulse _
      · refine h.of_supply ((handFunction_supply hold _).trans (putLine_supply ?_))
        rw [Line.start_settings]
        exact iff_of_false hnew hold

/-! ### Orders -/

theorem applyClock (h : EnvelopeInv s) (m : Nat) : EnvelopeInv (applyClock m s) := by
  have h1 : EnvelopeInv { s with clock := { minute := m, setMarker := true, prescaler := 0, fraction := 0 } } :=
    ⟨h.available, h.building⟩
  have h2 := h1.of_supply (reclockSessions_supply _)
  unfold Machine.applyClock
  dsimp only
  generalize reclockSessions _ = u at *
  have h3 : EnvelopeInv (recompute (placeWalker u)) := recomputeAfter_envelopeInv h2.building
  split
  · exact h3
  · exact h3.of_supply (requestPass_supply _)

theorem effectPutLimitStep (h : EnvelopeInv s) (b k : Byte) (a l : U16) (n : Byte) :
    EnvelopeInv (effectPutLimitStep b k a l n s).1 := by
  unfold Machine.effectPutLimitStep
  split
  · exact h
  · split
    · exact h
    · next hb => exact ⟨h.available.trans (availableOf_inactiveBank hb _).symm, h.building⟩

theorem effectSetSiteCeiling (h : EnvelopeInv s) (v : U16) : EnvelopeInv (effectSetSiteCeiling v s).1 := by
  unfold Machine.effectSetSiteCeiling
  split
  · exact h
  · split
    · exact h
    · exact (recomputeAfter_envelopeInv (e := { s.env with siteCeiling := some (num v) }) h.building).of_supply
        (requestPass_supply _)

/-- The cabinets' ceilings bound no more than a pass (R54). -/
theorem effectSetCabinetCeiling_supply (c : Byte) (v : U16) (s : State) :
    (effectSetCabinetCeiling c v s).1.supply = s.supply := by
  unfold Machine.effectSetCabinetCeiling
  split
  · rfl
  · split
    · rfl
    · exact (requestPass_supply _).trans (sendIfUp_supply _ _ _)

theorem effectSelectLimitBank (h : EnvelopeInv s) (b : Byte) : EnvelopeInv (effectSelectLimitBank b s).1 := by
  unfold Machine.effectSelectLimitBank
  split
  · exact h
  · exact recompute_envelopeInv (s := placeWalker { s with env := { s.env with activeBank := num b } }) h.building

theorem effectPutPlan_supply (e : Byte) (f : PlanOrder) (s : State) : (effectPutPlan e f s).1.supply = s.supply := by
  unfold effectPutPlan
  split
  · rfl
  · dsimp only
    split <;> exact writePlan_supply ..

theorem effectPutPlanNext_supply (f : PlanOrder) (s : State) : (effectPutPlanNext f s).1.supply = s.supply := by
  unfold effectPutPlanNext
  dsimp only
  split
  · rfl
  · have h := writePlan_supply s s.plans.cursor f
    split <;> exact h

theorem effectSuspendBay_supply (b : Byte) (s : State) : (effectSuspendBay b s).1.supply = s.supply := by
  unfold effectSuspendBay
  split
  · rfl
  · split
    · rfl
    · exact setHold_supply ..

theorem effectResumeBay_supply (b : Byte) (s : State) : (effectResumeBay b s).1.supply = s.supply := by
  unfold effectResumeBay
  split
  · rfl
  · split
    · rfl
    · exact clearHold_supply ..

theorem effectRetrain_supply (c : Byte) (s : State) : (effectRetrain c s).1.supply = s.supply := by
  unfold effectRetrain
  split
  · rfl
  · split
    · rfl
    · exact retrainLink_supply ..

theorem effectClearFaults_supply (x c : Byte) (s : State) : (effectClearFaults x c s).1.supply = s.supply := by
  unfold effectClearFaults
  split
  · exact (evaluateAlarm_supply _).trans (clearSite_supply ..)
  · split
    · exact (evaluateAlarm_supply _).trans (clearCabinet_supply ..)
    · rfl

theorem effectResumeSite_supply (s : State) : (effectResumeSite s).1.supply = s.supply := by
  unfold effectResumeSite
  split
  · rfl
  · dsimp only
    exact endStop_supply s

theorem effectSetLine (h : EnvelopeInv s) (l : Byte) (o : LineOrder) : EnvelopeInv (effectSetLine l o s).1 := by
  unfold Machine.effectSetLine
  split
  · exact h
  · split
    · exact h
    · split
      · exact h
      · exact h.applyLine

/-- The effect of every order leaves the available power and the building estimate up to date (Table 10-4). -/
theorem orderEffect (h : EnvelopeInv s) {i : Instr} {f : State → State × List Byte} (hi : orderEffect i = some f) :
    EnvelopeInv (f s).1 := by
  cases i <;> cases hi
  case setClock => unfold effectSetClock; split; exacts [h, h.applyClock _]
  case setSiteCeiling => exact h.effectSetSiteCeiling _
  case setCabinetCeiling => exact h.of_supply (effectSetCabinetCeiling_supply ..)
  case putLimitStep => exact h.effectPutLimitStep _ _ _ _ _
  case selectLimitBank => exact h.effectSelectLimitBank _
  case setCurtailStages => exact recomputeAfter_envelopeInv h.building
  case setMeter => exact recompute_recomputeBuilding_envelopeInv _
  case setMargin => exact recomputeAfter_envelopeInv h.building
  case setReserve => exact recompute_recomputeBuilding_envelopeInv _
  case readEnvelope => exact h
  case putPlan => exact h.of_supply (effectPutPlan_supply ..)
  case setPlanCursor => unfold effectSetPlanCursor; split <;> exact h.of_supply rfl
  case putPlanNext => exact h.of_supply (effectPutPlanNext_supply ..)
  case releasePlan => unfold effectReleasePlan; split; exacts [h.of_supply (releaseEntry_supply ..), h]
  case readPlan => unfold effectReadPlan; split <;> exact h
  case setGroupMask => unfold effectSetGroupMask; split <;> exact h.of_supply rfl
  case setDefaultPlan => unfold effectSetDefaultPlan; split <;> exact h.of_supply rfl
  case readSession => unfold effectReadSession; split <;> exact h
  case suspendBay => exact h.of_supply (effectSuspendBay_supply ..)
  case resumeBay => exact h.of_supply (effectResumeBay_supply ..)
  case reallocate => unfold effectReallocate; split; exacts [h.of_supply (requestPass_supply s), h]
  case setPeriod => exact h.of_supply rfl
  case readReady => unfold effectReadReady; split <;> exact h.of_supply rfl
  case clearReadyOverflow => exact h.of_supply rfl
  case readCabinet => unfold effectReadCabinet; split <;> exact h
  case retrain => exact h.of_supply (effectRetrain_supply ..)
  case readFaults => exact h
  case clearFaults => exact h.of_supply (effectClearFaults_supply ..)
  case setReporting => exact h.of_supply (evaluateAlarm_supply _)
  case resumeSite => exact h.of_supply (effectResumeSite_supply s)
  case setLine => exact h.effectSetLine _ _
  case readLines => exact h
  case setNotices => exact h.of_supply rfl
  case readStatus => exact h.of_supply rfl
  case restart => exact h.of_supply rfl

theorem takeFrame (h : EnvelopeInv s) {f : OrderFrame} {kind : Byte} {e : State → State × List Byte}
    (he : EnvelopeInv (e s).1) : EnvelopeInv (takeFrame f kind e s) := by
  unfold Machine.takeFrame
  split
  · exact he.of_supply rfl
  · split
    · exact h.of_supply rfl
    · exact h

theorem takeOrder (h : EnvelopeInv s) {i : Instr} {f : State → State × List Byte}
    (hi : Machine.orderEffect i = some f) : EnvelopeInv (takeOrder i f s) := by
  unfold Machine.takeOrder
  split
  · exact h.takeFrame (h.orderEffect hi)
  · exact h

theorem takeCompleted (h : EnvelopeInv s) {f : OrderFrame} : EnvelopeInv (takeCompleted f s) := by
  unfold Machine.takeCompleted
  split
  · exact h.takeFrame h
  · exact h.takeFrame h
  · split
    · next he => exact h.takeFrame (h.orderEffect he)
    · exact h

theorem receiveOrderByte (h : EnvelopeInv s) {b : Byte} : EnvelopeInv (receiveOrderByte b s) := by
  have ha : ∀ a, EnvelopeInv (setAssembler a s) := fun a => h.of_supply rfl
  unfold Machine.receiveOrderByte
  split
  · exact ha _
  · exact ha _
  · split
    · exact (ha _).takeCompleted
    · exact ha _

end EnvelopeInv

/-! ### Messages from a cabinet -/

section
variable (s : State)

theorem adoptBay_supply (b : Nat) (x : BayBlock) : (adoptBay b x s).supply = s.supply := by
  have hid : ∀ t, (handIdentity b x t).supply = t.supply := fun t => by
    unfold handIdentity
    split
    · rfl
    · exact takeIdentity_supply ..
  unfold adoptBay
  dsimp only
  split
  · split
    · rw [hid, plugPresent_supply]
    · rw [hid, clearHold_supply]
    all_goals
      split
      · exact clearHold_supply ..
      · rw [hid, plugPresent_supply, closeSession_supply]
  · split
    · exact closeSession_supply ..
    · rfl

theorem takeBayFaults_supply (b : Nat) (x : BayBlock) : (takeBayFaults b x s).supply = s.supply := by
  unfold takeBayFaults
  simp

theorem takeEnergy_supply (b : Nat) (x : BayBlock) : (takeEnergy b x s).supply = s.supply := by
  unfold takeEnergy
  simp

theorem takePresence_supply (b : Nat) (x : BayBlock) : (takePresence b x s).supply = s.supply := by
  unfold takePresence
  simp

/-- The overdraw timer and the measured excess take no part in either quantity (R68). -/
theorem evaluateOverdraw_supply : (evaluateOverdraw s).supply = s.supply := by
  unfold evaluateOverdraw
  split
  · rfl
  · split <;> rfl

theorem takePower_supply (c : Nat) (m : StatusMsg) : (takePower c m s).supply = s.supply :=
  (evaluateOverdraw_supply _).trans (takeReported_supply ..)

theorem serveStatus_supply (c : Nat) (m : StatusMsg) : (serveStatus c m s).supply = s.supply :=
  (takePower_supply ..).trans (supply_forEach (fun b t => by
    unfold serveBay
    rw [takeEnergy_supply, takeBayFaults_supply, takePresence_supply]) _ s)

theorem markAdopted_supply (c : Nat) : (markAdopted c s).supply = s.supply := by
  unfold markAdopted
  simp

theorem adoptStatus_supply (c : Nat) (m : StatusMsg) : (adoptStatus c m s).supply = s.supply := by
  unfold adoptStatus
  dsimp only
  rw [takePower_supply, supply_forEach fun b t => takeEnergy_supply .., supply_forEach fun b t => by
      rw [takeBayFaults_supply]; exact putLinkBay_supply .., supply_forEach fun b t => adoptBay_supply ..,
    adoptModules_supply, markAdopted_supply]

theorem actStatus_supply (c : Nat) (m : StatusMsg) : (actStatus c m s).supply = s.supply := by
  unfold actStatus
  dsimp only
  split
  · split
    · exact serveStatus_supply ..
    · exact adoptStatus_supply ..
  · exact serveStatus_supply ..
  all_goals rfl

theorem takeChecked_supply {act : State → State} (ha : ∀ t, (act t).supply = t.supply) (c : Nat) (good : Bool) :
    (takeChecked c good act s).supply = s.supply := by
  unfold takeChecked
  split
  · exact (ha _).trans (goodFrame_supply ..)
  · exact linkFrameFault_supply ..

theorem actDescriptor_supply (c : Nat) (ms : List Byte) : (actDescriptor c ms s).supply = s.supply := by
  have hu : ∀ l, (bringUp c l s).supply = s.supply := fun l => by
    unfold bringUp
    simp
  unfold actDescriptor
  split
  · exact hu _
  · exact hu _
  all_goals rfl

theorem actPlug_supply (c : Nat) (p x : Byte) : (actPlug c p x s).supply = s.supply := by
  unfold actPlug
  simp

theorem actIdentity_supply (c : Nat) (p : Byte) (v : U24) (a : U16) : (actIdentity c p v a s).supply = s.supply := by
  unfold actIdentity
  simp

theorem actModuleReport_supply (c : Nat) (m r : Byte) : (actModuleReport c m r s).supply = s.supply := by
  unfold actModuleReport
  dsimp only
  split
  · split
    · exact moduleOpened_supply ..
    · exact moduleClosed_supply ..
    · exact (takeFault_supply ..).trans (moduleFault_supply ..)
  · rfl

theorem actFault_supply (c : Nat) (code kind number : Byte) : (actFault c code kind number s).supply = s.supply := by
  unfold actFault
  dsimp only
  split
  · split
    · exact takeFault_supply ..
    · rfl
  · rfl

/-- No message from a cabinet changes what the two quantities are computed from. -/
theorem messageEffect_supply {i : Instr} {f : State → State} (hi : messageEffect i = some f) :
    (f s).supply = s.supply := by
  cases i <;> cases hi
  case descriptor => exact takeChecked_supply s (fun t => actDescriptor_supply t _ _) _ _
  case status => exact takeChecked_supply s (fun t => actStatus_supply t _ _) _ _
  case plug => exact takeChecked_supply s (fun t => actPlug_supply t _ _ _) _ _
  case identity => exact takeChecked_supply s (fun t => actIdentity_supply t _ _ _ _) _ _
  case moduleReport => exact takeChecked_supply s (fun t => actModuleReport_supply t _ _ _) _ _
  case faultMessage => exact takeChecked_supply s (fun t => actFault_supply t _ _ _ _) _ _

theorem dropFrame_supply (c : Nat) : (dropFrame c s).supply = s.supply := linkFrameFault_supply ..

theorem receiveCabinetByte_supply (c : Nat) (b : Byte) : (receiveCabinetByte c b s).supply = s.supply := by
  unfold receiveCabinetByte
  split
  · rfl
  · exact dropFrame_supply ..
  · unfold takeCabinetFrame
    split
    · exact linkFrameFault_supply ..
    · split
      · next hf =>
        obtain ⟨i, -, hi⟩ := Option.bind_eq_some_iff.mp hf
        exact messageEffect_supply _ hi
      · exact linkFrameFault_supply ..

/-! ### Timers of the bond controller and the links -/

theorem expireIdentity_supply (b : Nat) : (expireIdentity b s).supply = s.supply := by
  unfold expireIdentity
  simp

theorem expireRamp_supply (b : Nat) : (expireRamp b s).supply = s.supply := by
  unfold expireRamp
  simp

theorem expireContactor_supply (c m : Nat) : (expireContactor c m s).supply = s.supply := by
  unfold expireContactor
  simp

theorem expireProbe_supply (c : Nat) : (expireProbe c s).supply = s.supply := by
  unfold expireProbe
  dsimp only
  split
  · split <;> simp
  · rfl

theorem expireKeep_supply (c : Nat) : (expireKeep c s).supply = s.supply := by
  unfold expireKeep
  simp

theorem expireSilence_supply (c : Nat) : (expireSilence c s).supply = s.supply := by
  have hi : (silenceIsolated c s).supply = s.supply := supply_forEach (fun b t => putPower_supply t b _) _ s
  unfold expireSilence loseLink
  dsimp only
  split
  · split <;> simp [hi]
  · rfl

theorem expireLostHold_supply (c : Nat) : (expireLostHold c s).supply = s.supply := by
  unfold expireLostHold
  simp

theorem expireFilter_supply (l : Nat) : (expireFilter l s).supply = s.supply := by
  unfold expireFilter
  dsimp only
  split
  · exact (handLevel_supply ..).trans (putLine_supply .rfl)
  · rfl

end

/-! ### Events and time -/

namespace EnvelopeInv

variable {s : State}

theorem walk (h : EnvelopeInv s) : EnvelopeInv (walk s) := by
  unfold Machine.walk
  dsimp only
  split
  · exact h
  · split
    · exact h
    · split
      · exact recomputeAfter_envelopeInv h.building
      · exact h

theorem tick (h : EnvelopeInv s) : EnvelopeInv (tick s) := by
  have hm : meterAssigned (Machine.tick s) = meterAssigned s := meterAssigned_of_lines fun l => by
    by_cases hl : validLine l = true
    · have hv := validLine_iff.mp hl
      rw [show (Machine.tick s).line l = (s.line l).tick from get1_tabulate _ _ _ hv.1 hv.2]
      rfl
    · have hv := fun e => hl (validLine_iff.mpr e)
      rw [show (Machine.tick s).line l = Line.reset true from get1_out _ _ hv,
        show s.line l = Line.reset true from get1_out _ _ hv]
  refine ⟨h.available, ?_⟩
  rw [hm]
  exact h.building

theorem event (h : EnvelopeInv s) {i : Instr} {f : State → State} (hi : Event i f) : EnvelopeInv (f s) := by
  cases hi
  case powerOnReset =>
    -- with no window completed the estimate is the reserve, whatever counts pulses
    have hb : ∀ a, (0 : Nat) = buildingOf a Envelope.reset := fun a => by cases a <;> rfl
    exact ⟨rfl, hb _⟩
  case restartTakesEffect =>
    dsimp only
    split
    · rw [applyRestart_eq]
      generalize rebootBlocks s = u
      exact (recompute_recomputeBuilding_envelopeInv (restartSettings u)).of_supply (evaluateAlarm_supply _)
    · exact h
  case orderUnknownKind =>
    dsimp only
    split
    · exact h
    · exact h.takeFrame h
  case orderFrameDropped => exact h.of_supply rfl
  case orderByteGapTimeout => exact h.of_supply rfl
  case heldOrderTaken =>
    dsimp only
    split
    · split
      · exact takeCompleted (s := { s with order := { s.order with held := none } }) (h.of_supply rfl)
      · exact h
    · exact h
  case orderLinkFrameSent => exact h.of_supply rfl
  case cabinetFrameError => exact h.of_supply (dropFrame_supply ..)
  case cabinetByteGapTimeout =>
    unfold exceedGap
    split
    · exact h
    · exact h.of_supply (dropFrame_supply ..)
  case cabinetFrameSent => exact h.of_supply (putLink_supply ..)
  case minuteEvent =>
    have h1 : EnvelopeInv (advanceMinute s) := h.of_supply rfl
    exact (h1.of_supply (supply_forEach (fun b t => minuteAt_supply t b) allBays _)).walk
  case identityTimerExpiry => exact h.of_supply (expireIdentity_supply ..)
  case settlingTimerExpiry =>
    dsimp only
    split
    · exact recomputeAfter_envelopeInv h.building
    · exact h
  case meterWindowExpiry =>
    dsimp only
    split
    · exact recompute_recomputeBuilding_envelopeInv _
    · exact h
  case overdrawTimerExpiry =>
    dsimp only
    split
    · exact h.of_supply ((shed_supply ..).trans (takeOverdraw_supply s))
    · exact h
  case periodTimerExpiry =>
    dsimp only
    split
    · exact h.of_supply ((startPeriod_supply _).trans (requestPass_supply s))
    · exact h
  case passComplete => exact h.of_supply (completePass_supply s)
  case rampTimerExpiry => exact h.of_supply (expireRamp_supply ..)
  case contactorTimerExpiry => exact h.of_supply (expireContactor_supply ..)
  case probeTimerExpiry => exact h.of_supply (expireProbe_supply ..)
  case keepTimerExpiry => exact h.of_supply (expireKeep_supply ..)
  case silenceTimerExpiry => exact h.of_supply (expireSilence_supply ..)
  case lostHoldTimerExpiry => exact h.of_supply (expireLostHold_supply ..)
  case yardPinChange => exact h.of_supply (putLine_supply (by rw [Line.takePin_settings]))
  case lineFilterExpiry => exact h.of_supply (expireFilter_supply ..)
  case alarmBlinkToggle => exact h.of_supply (putLine_supply (by rw [Line.toggle_settings]))
  case orderByteReceived => exact h.receiveOrderByte
  case cabinetByteReceived => exact h.of_supply (receiveCabinetByte_supply ..)

theorem exec (h : EnvelopeInv s) {i : Instr} {s' : State} (hi : Machine.exec i s = .next s') : EnvelopeInv s' := by
  rcases exec_next hi with ⟨f, hf, rfl⟩ | ⟨f, c, hf, -, -, rfl⟩ | ⟨f, hf, rfl⟩
  · exact h.takeOrder hf
  · exact h.of_supply (messageEffect_supply s hf)
  · exact h.event hf

end EnvelopeInv
end Sys2Proof.Machine

open Sys2Proof Sys2Proof.Machine

/-- Settles O58: what is not an order to the envelope or an event of its own leaves the supply as it was, and what
changes the supply computes both quantities. -/
theorem stepKeepsEnvelope : Obligations.StepKeepsEnvelope :=
  fun _ _ h ht => step_keeps (P := EnvelopeInv) (fun _ _ h => h.of_supply rfl) (fun _ _ _ hi h => h.exec hi)
    (fun _ _ h => h.tick) ht h

end

section
/-! What a computation of the available power hands on, to the pass in flight, to the host and to the bond controller:
for O27 and the orders and events that compute it. -/

namespace Sys2Proof.Machine

/-! ### A pass in flight -/

/-- Between `s` and `t` no pass in flight ends, what it is marked with stays, and allocation is as it was. -/
structure PassKept (s t : State) : Prop where
  flight  : inFlight s = true → inFlight t = true
  again   : inFlight s = true → s.alloc.again = true → t.alloc.again = true
  stale   : inFlight s = true → s.alloc.stale = true → t.alloc.stale = true
  enabled : allocationEnabled t = allocationEnabled s

namespace PassKept

theorem refl (s : State) : PassKept s s := ⟨id, fun _ => id, fun _ => id, rfl⟩

theorem trans {s t u : State} (h : PassKept s t) (k : PassKept t u) : PassKept s u where
  flight hs := k.flight (h.flight hs)
  again hs ha := k.again (h.flight hs) (h.again hs ha)
  stale hs ha := k.stale (h.flight hs) (h.stale hs ha)
  enabled := k.enabled.trans h.enabled

end PassKept

theorem allocationEnabled_ripple {s t : State} (h : Ripple s t) : allocationEnabled t = allocationEnabled s := by
  unfold allocationEnabled
  rw [h.clock, h.env, h.faults]

/-- An operation on the power that leaves the allocator. -/
theorem PassKept.ofAlloc {s t : State} (h : Ripple s t) (ha : t.alloc = s.alloc) : PassKept s t where
  flight hs := by unfold inFlight; rw [ha]; exact hs
  again _ hs := ha ▸ hs
  stale _ hs := ha ▸ hs
  enabled := allocationEnabled_ripple h

theorem requestPass_kept (s : State) : PassKept s (requestPass s) := by
  have he := allocationEnabled_ripple (requestPass_ripple s)
  rcases requestPass_cases s with ⟨-, h⟩ | ⟨-, -, h⟩ | ⟨-, hn, h⟩
  · rw [h]
    exact .refl s
  · rw [h] at he ⊢
    exact ⟨id, fun _ _ => rfl, fun _ => id, he⟩
  · -- nothing was in flight
    exact ⟨fun hs => absurd (hn.symm.trans hs) (by decide), fun hs => absurd (hn.symm.trans hs) (by decide),
      fun hs => absurd (hn.symm.trans hs) (by decide), he⟩

theorem markStale_kept (s : State) : PassKept s (markStale s) := by
  have he := allocationEnabled_ripple (markStale_ripple s)
  unfold markStale at he ⊢
  split
  · next hs =>
    rw [if_pos hs] at he
    exact ⟨id, fun _ => id, fun _ _ => rfl, he⟩
  · exact .refl s

/-- A pass in flight is stale once it is marked (R80). -/
theorem markStale_stale {s : State} (h : inFlight s = true) :
    inFlight (markStale s) = true ∧ (markStale s).alloc.stale = true := by
  unfold markStale
  rw [if_pos h]
  exact ⟨h, rfl⟩

/-- A request that has been heard is not lost afterwards. -/
theorem Requested.kept {s t u : State} (h : Requested s t) (k : PassKept t u) : Requested s u := fun he => by
  obtain ⟨hf, ha⟩ := h (k.enabled ▸ he)
  exact ⟨k.flight hf, fun hs => k.again hf (ha hs)⟩

/-- A request heard later is a request heard. -/
theorem PassKept.requested {s t u : State} (h : PassKept s t) (k : Requested t u) : Requested s u := fun he =>
  ⟨(k he).1, fun hs => (k he).2 (h.flight hs)⟩

theorem requestPass_requested (s : State) : Requested s (requestPass s) := requested_requestPass id

/-! ### The operations on the power -/

theorem notify_kept (k : NoticeKind) (body : List Byte) (s : State) : PassKept s (notify k body s) :=
  .ofAlloc (notify_ripple k body s) (by rw [notify_eq])

/-- The examination of the raise waiting list writes no session, no plan, nothing of the allocator and no frame to the
host (R111). -/
theorem examineRaises_keeps (s : State) : examineRaises s = (examineRaises s).recast s :=
  examineRaises_recast (s := s) (k := s) fun _ => rfl

theorem examineRaises_kept (s : State) : PassKept s (examineRaises s) :=
  .ofAlloc (examineRaises_ripple s) (by rw [examineRaises_keeps]; rfl)

/-- Grants handed over in turn: what a lowered grant keeps, all of them keep. -/
theorem lowerGrants_keeps (l : List Nat) (s : State) :
    forEach l lowerGrant s = (forEach l lowerGrant s).recast s := by
  refine forEach_keeps (P := fun t => t = t.recast s) (fun b _ t h => ?_) rfl
  calc lowerGrant b t
      = (lowerGrant b t).recast t := lowerGrant_keeps b t
    _ = (lowerGrant b t).recast (t.recast s) := congrArg (State.recast _) h
    _ = (lowerGrant b t).recast s := rfl

/-- The walk of a shed writes sessions alone (R98). -/
theorem shedWalk_keeps (cause : ShedCause) (l : List Nat) (w : ShedWalk) :
    (shedWalk cause l w).state = { w.state with sessions := (shedWalk cause l w).state.sessions } := by
  induction l generalizing w with
  | nil => rfl
  | cons b l ih =>
    have hv : (w.visit b).state = { w.state with sessions := (w.visit b).state.sessions } := by
      unfold ShedWalk.visit
      dsimp only
      split <;> rfl
    unfold shedWalk
    split
    · rfl
    · rw [ih, hv]

/-- The walk of a shed, from the end of the last order (R97, R98). -/
def shedWalked (cause : ShedCause) (target : Int) (s : State) : ShedWalk :=
  shedWalk cause s.alloc.lastOrder.reverse ⟨s, (commandedSum s : Int) - target, 0, []⟩

theorem shedWalked_ripple (cause : ShedCause) (target : Int) (s : State) : Ripple s (shedWalked cause target s).state :=
  shedWalk_ripple cause _ ⟨s, _, 0, []⟩

/-- The state of a shed once every lowered grant has been handed over (R98, R110). -/
def shedTold (cause : ShedCause) (target : Int) (s : State) : State :=
  forEach (shedWalked cause target s).changed lowerGrant (shedWalked cause target s).state

/-- A shed lowers the grants, marks a pass in flight stale, sends one SHED notice and requests a pass (R99). -/
theorem shed_eq (cause : ShedCause) (target : Int) (s : State) : ∃ body,
    shed cause target s = requestPass (notify .shed body (markStale (shedTold cause target s))) := ⟨_, rfl⟩

theorem shedTold_ripple (cause : ShedCause) (target : Int) (s : State) : Ripple s (shedTold cause target s) :=
  (shedWalked_ripple cause target s).trans (Ripple.forEach lowerGrant_ripple _ _)

theorem shedTold_keeps (cause : ShedCause) (target : Int) (s : State) :
    (shedTold cause target s).alloc = s.alloc ∧ (shedTold cause target s).order = s.order := by
  have hw : (shedWalked cause target s).state = { s with sessions := (shedWalked cause target s).state.sessions } :=
    shedWalk_keeps ..
  unfold shedTold
  rw [lowerGrants_keeps, hw]
  exact ⟨rfl, rfl⟩

theorem shed_kept (cause : ShedCause) (target : Int) (s : State) : PassKept s (shed cause target s) := by
  obtain ⟨body, h⟩ := shed_eq cause target s
  rw [h]
  exact (PassKept.ofAlloc (shedTold_ripple cause target s) (shedTold_keeps cause target s).1).trans
    ((markStale_kept _).trans ((notify_kept ..).trans (requestPass_kept _)))

theorem shed_requested (cause : ShedCause) (target : Int) (s : State) : Requested s (shed cause target s) := by
  obtain ⟨body, h⟩ := shed_eq cause target s
  rw [h]
  exact ((PassKept.ofAlloc (shedTold_ripple cause target s) (shedTold_keeps cause target s).1).trans
    ((markStale_kept _).trans (notify_kept ..))).requested (requestPass_requested _)

/-- A shed leaves a pass in flight marked stale (R80, R99). -/
theorem shed_stale (cause : ShedCause) (target : Int) {s : State} (hs : inFlight s = true) :
    (shed cause target s).alloc.stale = true := by
  obtain ⟨body, h⟩ := shed_eq cause target s
  have ht : inFlight (shedTold cause target s) = true := by
    unfold inFlight
    rw [(shedTold_keeps cause target s).1]
    exact hs
  obtain ⟨hf, hm⟩ := markStale_stale ht
  rw [h]
  exact ((notify_kept ..).trans (requestPass_kept _)).stale hf hm

theorem requestPass_order (s : State) : (requestPass s).order = s.order := by
  obtain ⟨a, h⟩ := requestPass_eq s
  rw [h]

theorem markStale_order (s : State) : (markStale s).order = s.order := by
  unfold markStale
  split <;> rfl

/-- A shed creates one SHED notice and nothing else for the host (R99). -/
theorem shed_order (cause : ShedCause) (target : Int) (s : State) : ∃ body,
    (shed cause target s).order = noticed [(.shed, body)] s.order := by
  obtain ⟨body, h⟩ := shed_eq cause target s
  refine ⟨body, ?_⟩
  rw [h, requestPass_order, notify_eq, markStale_order, (shedTold_keeps cause target s).2]

/-! ### A computation of the available power -/

/-- The state as the available power has been stored, with the stale mark where it fell (R66, R67). -/
def freshened (s : State) : State :=
  if availableOf s.env < s.env.available then markStale { s with env := s.env.fresh } else { s with env := s.env.fresh }

theorem freshened_quiet (s : State) : Quiet { s with env := s.env.fresh } (freshened s) := by
  unfold freshened
  split
  · exact markStale_quiet _
  · exact .refl _

theorem freshened_kept (s : State) : PassKept s (freshened s) := by
  refine PassKept.trans (t := { s with env := s.env.fresh }) ⟨id, fun _ => id, fun _ => id, rfl⟩ ?_
  unfold freshened
  split
  · exact markStale_kept _
  · exact .refl _

theorem freshened_commandedSum (s : State) : commandedSum (freshened s) = commandedSum s := by
  unfold commandedSum State.power
  rw [(freshened_quiet s).power.bond]

theorem freshened_order (s : State) : (freshened s).order = s.order := by
  unfold freshened
  split
  · exact markStale_order _
  · rfl

/-- A computation of A, whose shed and whose hand-over of a change are made where they are due (R67). -/
theorem recompute_eq (s : State) : recompute s =
    (let u := if availableOf s.env < commandedSum s then shed .envelope (availableOf s.env) (freshened s)
        else freshened s
      if availableOf s.env = s.env.available then u else examineRaises (requestPass u)) := by
  rw [← freshened_commandedSum s]
  rfl

/-- What every operation of the hand-over keeps, a computation of A keeps. -/
theorem recompute_keeps {P : State → Prop} {s : State} (fresh : P (freshened s))
    (shed : ∀ t, P t → P (Machine.shed .envelope (availableOf s.env) t)) (request : ∀ t, P t → P (requestPass t))
    (examine : ∀ t, P t → P (examineRaises t)) : P (recompute s) := by
  rw [recompute_eq]
  dsimp only
  have hu : P (if availableOf s.env < commandedSum s then Machine.shed .envelope (availableOf s.env) (freshened s)
      else freshened s) := by
    split
    · exact shed _ fresh
    · exact fresh
  split
  · exact hu
  · exact examine _ (request _ hu)

theorem recompute_kept (s : State) : PassKept s (recompute s) :=
  recompute_keeps (freshened_kept s) (fun t h => h.trans (shed_kept _ _ t)) (fun t h => h.trans (requestPass_kept t))
    (fun t h => h.trans (examineRaises_kept t))

/-- A change of A requests a pass (R67). -/
theorem recompute_requested {s : State} (h : availableOf s.env ≠ s.env.available) : Requested s (recompute s) := by
  rw [recompute_eq]
  dsimp only
  rw [if_neg h]
  refine Requested.kept (PassKept.requested ?_ (requestPass_requested _)) (examineRaises_kept _)
  split
  · exact (freshened_kept s).trans (shed_kept ..)
  · exact freshened_kept s

/-- A fall of A marks a pass in flight stale (R67, R80). -/
theorem recompute_stale {s : State} (h : availableOf s.env < s.env.available) (hs : inFlight s = true) :
    (recompute s).alloc.stale = true := by
  have hk : inFlight (recompute s) = true ∧ (recompute s).alloc.stale = true := by
    refine recompute_keeps (P := fun t => inFlight t = true ∧ t.alloc.stale = true) ?_ ?_ ?_ ?_
    · unfold freshened
      rw [if_pos h]
      exact markStale_stale hs
    · exact fun t ht => ⟨(shed_kept _ _ t).flight ht.1, (shed_kept _ _ t).stale ht.1 ht.2⟩
    · exact fun t ht => ⟨(requestPass_kept t).flight ht.1, (requestPass_kept t).stale ht.1 ht.2⟩
    · exact fun t ht => ⟨(examineRaises_kept t).flight ht.1, (examineRaises_kept t).stale ht.1 ht.2⟩
  exact hk.2

/-- Of notices a computation of A creates one at most, that of a shed (R99). -/
theorem recompute_order (s : State) : ∃ sheds : List (NoticeKind × List Byte), sheds.length ≤ 1 ∧
    (∀ n ∈ sheds, n.1 = .shed) ∧ (recompute s).order = noticed sheds s.order := by
  have hlast : ∀ u, (if availableOf s.env = s.env.available then u else examineRaises (requestPass u)).order =
      u.order := fun u => by
    split
    · rfl
    · rw [examineRaises_keeps]
      exact requestPass_order u
  rw [recompute_eq]
  dsimp only
  rw [hlast]
  split
  · obtain ⟨body, h⟩ := shed_order .envelope (availableOf s.env) (freshened s)
    refine ⟨[(.shed, body)], Nat.le_refl 1, by simp, ?_⟩
    rw [h, freshened_order]
  · exact ⟨[], Nat.zero_le 1, nofun, freshened_order s⟩

/-- At a commanded sum within A no session changes (R67). -/
theorem recompute_sessions {s : State} (h : commandedSum s ≤ availableOf s.env) :
    (recompute s).sessions = s.sessions := by
  rw [recompute_eq]
  dsimp only
  rw [if_neg (Nat.not_lt.mpr h)]
  have hf : (freshened s).sessions = s.sessions := (freshened_quiet s).power.sessions
  split
  · exact hf
  · rw [examineRaises_keeps]
    exact (requestPass_quiet _).power.sessions.trans hf

/-- The value held, with the commanded sum within it, hands nothing on (R67, log entry 8). -/
theorem recompute_same {s : State} (ha : availableOf s.env = s.env.available)
    (h : commandedSum s ≤ availableOf s.env) : recompute s = s := by
  rw [recompute_eq]
  dsimp only
  rw [if_neg (Nat.not_lt.mpr h), if_pos ha]
  unfold freshened Envelope.fresh
  rw [if_neg (by omega), ha]

end Sys2Proof.Machine
end

section
/-! A shed to the available power brings the commanded sum within it: O27. The setpoints are counted up to their grants
while the lowered grants have yet to be handed over. -/

namespace Sys2Proof.Machine

/-! ### Setpoints within the grants -/

/-- The setpoints, counted up to their grants, are within the available power, and only the bays of `l`, whose links are
UP, may have a setpoint above the grant. -/
structure Within (l : List Nat) (s : State) : Prop where
  above : ∀ b, (s.power b).commanded ≤ (s.session b).grant ∨ (b ∈ l ∧ (s.link (cabOf b)).state = .up)
  sum  : clippedSum s ≤ s.env.available

namespace Within

variable {l : List Nat} {s t : State}

/-- Nothing that the bound speaks of has changed. -/
theorem congr (h : Within l s) (hr : Ripple s t) (hp : ∀ b, (t.power b).commanded = (s.power b).commanded)
    (hg : ∀ b, (t.session b).grant = (s.session b).grant) : Within l t where
  above b := by
    rw [hp, hg, (link_of_ripple hr _).1]
    exact h.above b
  sum := by
    rw [Powered.clippedSum_congr hp hg, hr.env]
    exact h.sum

theorem ofQuiet (h : Within l s) (hq : Quiet s t) : Within l t :=
  h.congr hq.ripple (fun b => by unfold State.power; rw [hq.power.bond])
    fun b => by unfold State.session; rw [hq.power.sessions]

theorem putRaiseList (h : Within l s) (x : List Nat) : Within l (putRaiseList x s) :=
  h.congr (putRaiseList_ripple x s) (fun _ => rfl) fun _ => rfl

theorem trimBondList (h : Within l s) (b : Nat) : Within l (trimBondList b s) :=
  h.congr (trimBondList_ripple b s) (fun _ => rfl) fun _ => rfl

end Within

/-- The setpoints after one of them has been sent. -/
theorem sendSetpoint_commanded (b v : Nat) (s : State) (j : Nat) : ((sendSetpoint b v s).power j).commanded =
    if j = b ∧ validBay b = true then v else (s.power j).commanded := by
  unfold sendSetpoint
  rw [sendIfUp_power, power_putPower]
  simp only [validBay_iff, eq_comm (a := b)]
  split <;> rfl

theorem sendSetpoint_grant (b v : Nat) (s : State) (j : Nat) :
    ((sendSetpoint b v s).session j).grant = (s.session j).grant := by
  unfold State.session
  rw [sendSetpoint_sessions]

namespace Within

variable {l : List Nat} {s : State}

/-- A raise within the grant and the available power (R111). -/
theorem raise (h : Within l s) {b v : Nat} (hc : (s.power b).commanded ≤ v) (hg : v ≤ (s.session b).grant)
    (ha : v + commandedSum s ≤ s.env.available + (s.power b).commanded) : Within l (sendSetpoint b v s) where
  above j := by
    rw [sendSetpoint_commanded, sendSetpoint_grant, (link_of_ripple (sendSetpoint_ripple b v s) _).1]
    split
    · next hj => exact .inl (hj.1 ▸ hg)
    · exact h.above j
  sum := by
    have hsum : commandedSum (sendSetpoint b v s) + (s.power b).commanded ≤ commandedSum s + v := by
      refine Nat.le_trans (sum_update_le (f := fun j => (s.power j).commanded) (b := b)
        (g := fun j => ((sendSetpoint b v s).power j).commanded) allBays_nodup (fun j hj => ?_) (.inr ?_))
        (Nat.add_le_add_left ?_ _) <;> simp only [sendSetpoint_commanded]
      · rw [if_neg fun e => hj e.1]
      · split <;> omega
      · split <;> omega
    have := clippedSum_le_commandedSum (sendSetpoint b v s)
    rw [(sendSetpoint_ripple b v s).env]
    omega

theorem examineFrom (h : Within l s) (r : List Nat) : Within l (examineFrom r s) := by
  induction r generalizing s with
  | nil => exact h.putRaiseList []
  | cons b rest ih =>
    unfold Machine.examineFrom
    dsimp only
    split
    · exact ih h
    · split
      · exact h.putRaiseList _
      · split
        · exact h.putRaiseList _
        · next hy =>
          have hl := raiseOf_le s b (by omega)
          have hg : raiseLimit s b ≤ (s.session b).grant := Nat.min_le_left ..
          have ha := raiseOf_le_available s b (by omega)
          have he := commandedSum_le_siteExposure s
          have hr : Within l (sendSetpoint b ((s.power b).commanded + (raiseOf s b).toNat) s) :=
            h.raise (by omega) (by omega) (by omega)
          split
          · exact ih hr
          · exact hr.putRaiseList _

theorem examineRaises (h : Within l s) : Within l (examineRaises s) := by
  unfold Machine.examineRaises
  split
  · exact h
  · exact h.examineFrom _

/-- A setpoint comes down to its grant (R110, step 1). -/
theorem reduce {b : Nat} (h : Within (b :: l) s) (hb : (s.session b).grant < (s.power b).commanded) :
    Within l (reduce b (s.session b).grant s) := by
  have hv : validBay b = true := by
    by_contra hv
    rw [power_out hv] at hb
    cases hb
  have hp : ∀ j, ((Machine.reduce b (s.session b).grant s).power j).commanded =
      if j = b then (s.session b).grant else (s.power j).commanded := fun j => by
    by_cases hj : j = b
    · rw [hj, if_pos rfl, reduce_commanded hv]
    · rw [if_neg hj]
      unfold Machine.reduce
      dsimp only
      rw [power_putPower, if_neg fun e => hj e.1.symm, sendSetpoint_commanded, if_neg fun e => hj e.1]
  have hr := reduce_ripple b (s.session b).grant s
  constructor
  · intro j
    rw [hp, reduce_session, (link_of_ripple hr _).1]
    split
    · next hj => exact .inl (Nat.le_of_eq (by rw [hj]))
    · next hj => exact (h.above j).imp_right fun ho => ⟨(List.mem_cons.mp ho.1).resolve_left hj, ho.2⟩
  · refine Nat.le_trans (bays_sum_mono fun j => ?_) (hr.env ▸ h.sum)
    rw [hp, reduce_session]
    split
    · next hj => rw [hj]; omega
    · exact Nat.le_refl _

/-- The bond controller is given the next of the lowered grants (R110). -/
theorem lowerGrant {b : Nat} (h : Within (b :: l) s) : Within l (lowerGrant b s) := by
  have settle : (s.power b).commanded ≤ (s.session b).grant ∨ (s.link (cabOf b)).state ≠ .up → Within l s := fun hb =>
    ⟨fun j => (h.above j).elim .inl fun ho => by
      rcases List.mem_cons.mp ho.1 with rfl | hj
      · exact .inl (hb.resolve_right (not_not.mpr ho.2))
      · exact .inr ⟨hj, ho.2⟩, h.sum⟩
  unfold Machine.lowerGrant
  split
  · dsimp only
    refine ((Within.putRaiseList ?_ _).trimBondList b).examineRaises
    split
    · next hb => exact h.reduce hb
    · next hb => exact settle (.inl (Nat.not_lt.mp hb))
  · next hl => exact settle (.inr hl)

theorem lowerGrants (h : Within l s) : Within [] (forEach l Machine.lowerGrant s) := by
  induction l generalizing s with
  | nil => exact h
  | cons b l ih => exact ih h.lowerGrant

/-- With every grant handed over the commanded sum is within the available power. -/
theorem commandedSum_le (h : Within [] s) : commandedSum s ≤ s.env.available := by
  rw [← clippedSum_eq fun b => (h.above b).resolve_right fun ho => List.not_mem_nil ho.1]
  exact h.sum

end Within

/-! ### The walk of a shed (R98) -/

theorem visit_grant (w : ShedWalk) {b : Nat} (hb : validBay b = true) (j : Nat) :
    ((w.visit b).state.session j).grant =
      if j = b then shedGrant (w.state.session b).grant (w.state.power b).commanded w.deficit
      else (w.state.session j).grant := by
  unfold ShedWalk.visit writeGrant
  dsimp only
  split
  · next hn =>
    split
    · next hj => rw [hj, hn]
    · rfl
  · by_cases hj : j = b
    · rw [hj, session_putSession_self _ _ _ hb, if_pos rfl]
    · rw [session_putSession, if_neg fun e => hj e.1.symm, if_neg hj]

/-- A bay that a walk visits keeps its grant or is one of those changed. -/
theorem visit_changed (w : ShedWalk) (b : Nat) :
    shedGrant (w.state.session b).grant (w.state.power b).commanded w.deficit = (w.state.session b).grant ∧
      (w.visit b).changed = w.changed ∨ (w.visit b).changed = w.changed ++ [b] := by
  unfold ShedWalk.visit
  dsimp only
  split
  · next hn => exact .inl ⟨hn, rfl⟩
  · exact .inr rfl

theorem visit_power (w : ShedWalk) (b j : Nat) : (w.visit b).state.power j = w.state.power j ∧
    (w.visit b).state.link j = w.state.link j := by
  unfold ShedWalk.visit
  dsimp only
  split <;> exact ⟨rfl, rfl⟩

/-- A walk with `rest` yet to visit: only bays changed may have a setpoint above the grant, every bay with a setpoint has
an UP link, the setpoints up to the grants exceed the target by the deficit at most, and where the deficit is not met
the bays visited have no power left. -/
structure Walking (target : Int) (rest : List Nat) (w : ShedWalk) : Prop where
  above    : ∀ b, (w.state.power b).commanded ≤ (w.state.session b).grant ∨ b ∈ w.changed
  up       : ∀ b, (w.state.power b).commanded ≠ 0 → (w.state.link (cabOf b)).state = .up
  excess   : (clippedSum w.state : Int) - target ≤ w.deficit
  visited  : w.deficit ≤ 0 ∨ ∀ b, b ∉ rest → min (w.state.power b).commanded (w.state.session b).grant = 0
  distinct : rest.Nodup
  valid    : ∀ b ∈ rest, validBay b = true
  unseen   : ∀ b ∈ rest, b ∉ w.changed

namespace Walking

variable {target : Int} {rest : List Nat} {w : ShedWalk}

theorem visit {b : Nat} (h : Walking target (b :: rest) w) : Walking target rest (w.visit b) := by
  have hv := h.valid b List.mem_cons_self
  obtain ⟨hb, hd⟩ := List.nodup_cons.mp h.distinct
  have hcg : (w.state.power b).commanded ≤ (w.state.session b).grant :=
    (h.above b).resolve_right (h.unseen b List.mem_cons_self)
  obtain ⟨hle, hmet⟩ := shedGrant_spec (d := w.deficit) hcg
  have hg := visit_grant w hv
  have hch := visit_changed w b
  have hdef : (w.visit b).deficit = w.deficit - (((w.state.power b).commanded : Int) -
    shedGrant (w.state.session b).grant (w.state.power b).commanded w.deficit) := rfl
  generalize shedGrant (w.state.session b).grant (w.state.power b).commanded w.deficit = n at *
  have hmem : ∀ j, j ∈ w.changed → j ∈ (w.visit b).changed := fun j hj => by
    rcases hch with ⟨-, e⟩ | e <;> rw [e]
    · exact hj
    · exact List.mem_append_left _ hj
  have hsum : clippedSum (w.visit b).state + (w.state.power b).commanded ≤ clippedSum w.state + n := by
    have := sum_update_le (b := b) (f := fun j => min (w.state.power j).commanded (w.state.session j).grant)
      (g := fun j => min ((w.visit b).state.power j).commanded ((w.visit b).state.session j).grant)
      allBays_nodup (fun j hj => by rw [(visit_power w b j).1, hg, if_neg hj]) (.inl (mem_allBays.mpr hv))
    rw [(visit_power w b b).1, hg, if_pos rfl, Nat.min_eq_left hcg, Nat.min_eq_right hle] at this
    exact this
  refine ⟨fun j => ?_, fun j => ?_, ?_, ?_, hd, fun j hj => h.valid j (List.mem_cons_of_mem b hj), fun j hj hc => ?_⟩
  · rw [(visit_power w b j).1, hg]
    by_cases hj : j = b
    · rw [if_pos hj, hj]
      rcases hch with ⟨e, -⟩ | e
      · exact .inl (e ▸ hcg)
      · exact .inr (by rw [e]; exact List.mem_append_right _ List.mem_cons_self)
    · rw [if_neg hj]
      exact (h.above j).imp_right (hmem j)
  · rw [(visit_power w b j).1, (visit_power w b _).2]
    exact h.up j
  · have := h.excess
    omega
  · rcases hmet with h0 | h0
    · refine h.visited.imp (fun h1 => by omega) fun h1 j hj => ?_
      rw [(visit_power w b j).1, hg]
      by_cases hjb : j = b
      · rw [if_pos hjb, h0, Nat.min_zero]
      · rw [if_neg hjb]
        exact h1 j (by simp [hjb, hj])
    · exact .inl (by omega)
  · rcases hch with ⟨-, e⟩ | e <;> rw [e] at hc
    · exact h.unseen j (List.mem_cons_of_mem b hj) hc
    · rcases List.mem_append.mp hc with hc | hc
      · exact h.unseen j (List.mem_cons_of_mem b hj) hc
      · exact hb (List.mem_singleton.mp hc ▸ hj)

/-- At its end a walk has brought the setpoints, up to the grants, to the target or to nothing (R98, R100). -/
theorem walked (cause : ShedCause) (h : Walking target rest w) : ∃ r, Walking target r (shedWalk cause rest w) ∧
    ((clippedSum (shedWalk cause rest w).state : Int) ≤ target ∨ clippedSum (shedWalk cause rest w).state = 0) := by
  induction rest generalizing w with
  | nil =>
    refine ⟨[], h, h.visited.imp (fun hd => ?_) fun h0 => bays_sum_eq_zero fun b => h0 b List.not_mem_nil⟩
    have := h.excess
    show (clippedSum w.state : Int) ≤ target
    omega
  | cons b rest ih =>
    unfold shedWalk
    split
    · next hd =>
      have := h.excess
      exact ⟨_, h, .inl (by omega)⟩
    · exact ih h.visit

end Walking

/-- What a shed starts from: the setpoints are within the grants, and each stands on the last order, at an UP link. -/
structure Sheddable (s : State) : Prop where
  nodup   : s.alloc.lastOrder.Nodup
  valid   : ∀ b ∈ s.alloc.lastOrder, validBay b = true
  served  : ∀ b, (s.power b).commanded ≠ 0 → b ∈ s.alloc.lastOrder ∧ (s.link (cabOf b)).state = .up
  granted : ∀ b, (s.power b).commanded ≤ (s.session b).grant

theorem Sheddable.walking {s : State} (h : Sheddable s) (target : Int) :
    Walking target s.alloc.lastOrder.reverse ⟨s, (commandedSum s : Int) - target, 0, []⟩ where
  above b := .inl (h.granted b)
  up b hb := (h.served b hb).2
  excess := by
    have := clippedSum_le_commandedSum s
    dsimp only
    omega
  visited := .inr fun b hb => by
    have : (s.power b).commanded = 0 := by
      by_contra h0
      exact hb (List.mem_reverse.mpr (h.served b h0).1)
    dsimp only
    omega
  distinct := List.nodup_reverse.mpr h.nodup
  valid b hb := h.valid b (List.mem_reverse.mp hb)
  unseen := nofun

/-- A shed to a target within the available power leaves the commanded sum within it (R97, R100). -/
theorem Sheddable.shed_within {s : State} (h : Sheddable s) {cause : ShedCause} {target : Int}
    (ht : target ≤ s.env.available) : Within [] (shed cause target s) := by
  obtain ⟨r, hw, hsum⟩ : ∃ r, Walking target r (shedWalked cause target s) ∧
    ((clippedSum (shedWalked cause target s).state : Int) ≤ target ∨
      clippedSum (shedWalked cause target s).state = 0) := (h.walking target).walked cause
  have hr := shedWalked_ripple cause target s
  have h0 : Within (shedWalked cause target s).changed (shedWalked cause target s).state := by
    refine ⟨fun b => ?_, ?_⟩
    · by_cases hb : ((shedWalked cause target s).state.power b).commanded = 0
      · exact .inl (hb ▸ Nat.zero_le _)
      · exact (hw.above b).imp_right fun hc => ⟨hc, hw.up b hb⟩
    · rw [hr.env]
      omega
  obtain ⟨body, he⟩ := shed_eq cause target s
  rw [he]
  exact h0.lowerGrants.ofQuiet ((markStale_quiet _).trans ((notify_quiet ..).trans (requestPass_quiet _)))

/-- A computation of A leaves the commanded sum at or below it (R67). -/
theorem Sheddable.recompute_within {s : State} (h : Sheddable s) : Within [] (recompute s) := by
  have hq := freshened_quiet s
  have hf : Sheddable (freshened s) := by
    have ho : (freshened s).alloc.lastOrder = s.alloc.lastOrder := by rw [hq.ripple.alloc]
    have hp : ∀ b, (freshened s).power b = s.power b := fun b => by unfold State.power; rw [hq.power.bond]
    refine ⟨ho ▸ h.nodup, ho ▸ h.valid, fun b hb => ?_, fun b => ?_⟩
    · rw [ho, (link_of_ripple hq.ripple _).1]
      exact h.served b (hp b ▸ hb)
    · rw [hp]
      unfold State.session
      rw [hq.power.sessions]
      exact h.granted b
  have ha : (freshened s).env.available = availableOf s.env := by rw [hq.ripple.env]; rfl
  have hu : Within [] (if availableOf s.env < commandedSum s then shed .envelope (availableOf s.env) (freshened s)
      else freshened s) := by
    split
    · exact hf.shed_within (Int.le_of_eq (by rw [ha]))
    · next hle =>
      refine ⟨fun b => .inl (hf.granted b), ?_⟩
      rw [clippedSum_eq hf.granted, freshened_commandedSum, ha]
      omega
  rw [recompute_eq]
  dsimp only
  split
  · exact hu
  · exact (hu.ofQuiet (requestPass_quiet _)).examineRaises

end Sys2Proof.Machine

open Sys2Proof Sys2Proof.Machine

/-- Settles O27: the parts of a computation of A, and the limits of R66 by its cases. -/
theorem availablePowerIsHandedOn : Obligations.AvailablePowerIsHandedOn := by
  refine ⟨fun s => ⟨recompute_ripple s, recompute_requested, recompute_stale, fun h b => ?_, recompute_same, ⟨?_, ?_⟩,
    fun hn hv hs hg => ?_⟩, fun e => ⟨fun h => ?_, fun v h => ?_⟩⟩
  · unfold State.session
    rw [recompute_sessions h]
  · intro h
    rw [recompute_eq]
    dsimp only
    rw [if_pos h]
    rfl
  · intro h ha
    rw [recompute_eq]
    dsimp only
    rw [if_neg (Nat.not_lt.mpr h), if_neg ha]
    rfl
  · have := (Sheddable.recompute_within ⟨hn, hv, hs, hg⟩).commandedSum_le
    rwa [(recompute_ripple s).env] at this
  · unfold availableOf
    rw [h]
  · unfold availableOf
    rw [h]
    rfl

end

section
/-! The envelope's settings, its timers and its ceilings: O20 to O23 and O29. -/

namespace Sys2Proof.Machine

/-! ### Fields -/

theorem enc16_toNat (w : U16) : enc16 w.toNat = be16 w := by
  unfold enc16
  rw [if_pos w.isLt, BitVec.ofNat_toNat, BitVec.setWidth_eq]

theorem byte_eq_zero_iff (b : Byte) : b = 0 ↔ b.toNat = 0 := by
  rw [BitVec.toNat_eq]
  rfl

/-! ### A computation of A after a setting has changed -/

/-- What a computation of A brings about where `e` has taken the envelope's place (R66, R67). -/
structure Recomputed (s : State) (e : Envelope) (r : State) : Prop where
  eq        : r = recompute { s with env := e }
  ripple    : Ripple { s with env := e.fresh } r
  requested : r.env.available ≠ s.env.available → Requested s r

theorem recomputed {s : State} {e : Envelope} (h : e.available = s.env.available) :
    Recomputed s e (recompute { s with env := e }) where
  eq := rfl
  ripple := recompute_ripple { s with env := e }
  requested hn := by
    refine recompute_requested (s := { s with env := e }) ?_
    rw [(recompute_ripple { s with env := e }).env] at hn
    exact h ▸ hn

/-! ### The ceilings (R53, R54) -/

theorem effectSetSiteCeiling_unset {v : U16} {s : State} (h : s.env.siteCeiling = none) (hv : v ≠ 0) :
    effectSetSiteCeiling v s = (applySiteCeiling v.toNat s, okBody (enc16 v.toNat)) := by
  have hn : v.toNat ≠ 0 := fun h0 => hv (BitVec.eq_of_toNat_eq h0)
  unfold effectSetSiteCeiling
  rw [if_neg (by simp [h]), if_neg hn]

theorem effectSetCabinetCeiling_unlocked {c : Byte} {v : U16} {s : State} (hc : validCab c.toNat = true)
    (hl : (s.ceiling c.toNat).locked = false) : effectSetCabinetCeiling c v s =
      (applyCabinetCeiling c.toNat (min 1200 v.toNat) s, okBody (enc16 (min 1200 v.toNat))) := by
  unfold effectSetCabinetCeiling
  rw [if_neg (by simp [hc]), if_neg (by simp [hl])]

/-- The state with the ceiling of a cabinet written (R54). -/
def State.withCeiling (s : State) (c v : Nat) : State :=
  { s with env := { s.env with ceilings := set1 s.env.ceilings c ⟨v, true⟩ } }

theorem ceiling_withCeiling {c : Nat} (hc : validCab c = true) (v : Nat) (s : State) (k : Nat) :
    (s.withCeiling c v).ceiling k = if k = c then ⟨v, true⟩ else s.ceiling k := by
  refine (get1_set1 ..).trans ?_
  by_cases hk : k = c
  · rw [if_pos ⟨hk.symm, validCab_iff.mp hc⟩, if_pos hk]
  · rw [if_neg fun h => hk h.1.symm, if_neg hk]
    rfl

theorem Link.hand_handed (l : Link) (m : CabMsg) : (l.hand m).handed m := by
  unfold Link.hand Link.handed
  split
  · exact .inl rfl
  · exact .inr (List.getLast?_concat ..)

/-- CEILING touches the cabinet's link alone. -/
theorem sendCeiling_eq (c : Nat) (s : State) : ∃ links, sendCeiling c s = { s with links := links } :=
  ⟨_, sendIfUp_eq ..⟩

/-- CEILING is handed to the cabinet where its link is UP (R126). -/
theorem sendCeiling_links {c : Nat} (hc : validCab c = true) (s : State) :
    if (s.link c).state = .up then ((sendCeiling c s).link c).handed (.ceiling (s.ceiling c).steps)
    else (sendCeiling c s).links = s.links := by
  unfold sendCeiling sendIfUp
  by_cases h : (s.link c).state = .up
  · rw [if_pos h, if_pos h]
    unfold sendCab
    rw [link_putLink_self hc]
    exact Link.hand_handed _ _
  · rw [if_neg h, if_neg h]

/-! ### The limit schedule (R55, R56) -/

theorem writeLimitStep_step {b k : Nat} (hb : 1 ≤ b ∧ b ≤ 2) (hk : 1 ≤ k ∧ k ≤ 16) (x : LimitStep) (s : State)
    (c j : Nat) : (writeLimitStep b k x s).env.step c j = if c = b ∧ j = k then x else s.env.step c j := by
  unfold Envelope.step writeLimitStep
  dsimp only
  rw [get1_set1]
  by_cases hc : c = b
  · rw [if_pos ⟨hc.symm, hb⟩, get1_set1, hc]
    by_cases hj : j = k
    · rw [if_pos ⟨hj.symm, hk⟩, if_pos ⟨rfl, hj⟩]
    · rw [if_neg fun h => hj h.1.symm, if_neg fun h => hj h.2]
  · rw [if_neg fun h => hc h.1.symm, if_neg fun h => hc h.1]

theorem effectPutLimitStep_inactive {b k : Byte} {a l : U16} {n : Byte} {s : State} (hb : 1 ≤ b.toNat ∧ b.toNat ≤ 2)
    (hk : 1 ≤ k.toNat ∧ k.toNat ≤ 16) (ha : a.toNat < 1440) (hn : n.toNat ≤ 16) (hx : b.toNat ≠ s.env.activeBank) :
    effectPutLimitStep b k a l n s =
      (writeLimitStep b.toNat k.toNat ⟨a.toNat, l.toNat, nextOf n.toNat⟩ s, okBody []) := by
  unfold effectPutLimitStep
  rw [if_neg (by simp only [num, Bool.or_eq_true, decide_eq_true_eq]; omega), if_neg hx]

theorem nextOf_toNat (n : Byte) : nextOf n.toNat = if n = 0 then none else some n.toNat := by
  unfold nextOf
  simp only [byte_eq_zero_iff]

/-- SELECT LIMIT BANK places the walker on step 1 of the bank, or on none (R56). -/
theorem effectSelectLimitBank_valid {b : Byte} {s : State} (hb : b.toNat ≤ 2) : effectSelectLimitBank b s =
    (recompute { s with env := { s.env with activeBank := b.toNat, walker := if b = 0 then 0 else 1 } },
      [0x00, b, if b = 0 then 0 else 1]) := by
  have hp : placeWalker { s with env := { s.env with activeBank := b.toNat } } =
      { s with env := { s.env with activeBank := b.toNat, walker := if b = 0 then 0 else 1 } } := by
    unfold placeWalker
    simp only [byte_eq_zero_iff]
  have hw : enc8 (if b = 0 then 0 else 1) = [if b = 0 then 0 else 1] := by
    split <;> rfl
  unfold effectSelectLimitBank
  rw [if_neg (Nat.not_lt.mpr hb)]
  dsimp only [num]
  rw [hp, (recompute_ripple _).env]
  unfold Envelope.fresh
  dsimp only
  rw [enc8_toNat, hw]
  rfl

/-! ### The margin at a restart (R65) -/

theorem applyRestart_margin (s : State) : (applyRestart s).env.margin = s.env.margin := by
  have hu : (rebootBlocks s).env = s.env := by
    obtain ⟨_, _, _, h⟩ := (rebootBlocks_spec s).rest
    rw [h]
  rw [applyRestart_eq, ← hu]
  generalize rebootBlocks s = u
  obtain ⟨lines, h, -⟩ := evaluateAlarm_eq (restartEnvelope u)
  rw [h]
  exact (congrArg Envelope.margin (recompute_ripple (recomputeBuilding (restartSettings u))).env).trans rfl

end Sys2Proof.Machine

open Sys2Proof Sys2Proof.Machine

/-- Settles O20: the two orders, each with the request that follows. -/
theorem ceilingOrdersWriteOnce : Obligations.CeilingOrdersWriteOnce := by
  intro tag s hs
  refine ⟨fun v hn hv => ⟨applySiteCeiling v.toNat s, ?_, ?_, ?_, (requestPass_quiet _).power⟩, fun c v hc hl => ?_⟩
  · exact (recompute_ripple { s with env := { s.env with siteCeiling := some v.toNat } }).trans (requestPass_ripple _)
  · rw [order_next ⟨tag, 0x02, be16 v⟩ (effectSetSiteCeiling v) rfl rfl hs, effectSetSiteCeiling_unset hn hv,
      enc16_toNat]
    rfl
  · exact PassKept.requested (s := { s with env := { s.env with siteCeiling := some v.toNat } }) (recompute_kept _)
      (requestPass_requested _)
  · let u := s.withCeiling c.toNat (min 1200 v.toNat)
    obtain ⟨links, hu⟩ := sendCeiling_eq c.toNat u
    have hlinks := sendCeiling_links hc u
    have hq := requestPass_quiet (sendCeiling c.toNat u)
    have hceil := ceiling_withCeiling hc (min 1200 v.toNat) s
    refine ⟨applyCabinetCeiling c.toNat (min 1200 v.toNat) s, ?ripple, ?answer, ?requested, ?sessions, ?bond,
      fun k => ?ceiling, ?links⟩
    case ripple => exact (sendIfUp_ripple ..).trans (requestPass_ripple _)
    case answer =>
      rw [order_next ⟨tag, 0x03, [c] ++ be16 v⟩ (effectSetCabinetCeiling c v) rfl rfl hs,
        effectSetCabinetCeiling_unlocked hc hl]
      rfl
    case requested =>
      have hf : inFlight (sendCeiling c.toNat u) = inFlight s := by rw [hu]; rfl
      exact requested_requestPass fun h => hf.trans h
    case sessions => exact hq.power.sessions.trans (by rw [hu]; rfl)
    case bond => exact hq.power.bond.trans (by rw [hu]; rfl)
    case ceiling =>
      rw [← hceil k]
      exact congrArg (fun e : Envelope => get1 e.ceilings ⟨0, false⟩ k) (hq.ripple.env.trans (by rw [hu]))
    case links =>
      have hl : (applyCabinetCeiling c.toNat (min 1200 v.toNat) s).links = (sendCeiling c.toNat u).links := hq.power.links
      unfold State.link at hlinks ⊢
      rw [hl]
      rw [hceil, if_pos rfl] at hlinks
      exact hlinks

/-- Settles O21: one step of a bank that is not active, and the choice of a bank. -/
theorem limitScheduleOrders : Obligations.LimitScheduleOrders := by
  intro tag s hs
  refine ⟨fun b k a l n hb hk1 hk2 ha hn hx => ?_, fun b hb => ?_⟩
  · have hb' : 1 ≤ b.toNat ∧ b.toNat ≤ 2 := by rcases hb with rfl | rfl <;> decide
    have hstep := writeLimitStep_step hb' ⟨hk1, hk2⟩ ⟨a.toNat, l.toNat, nextOf n.toNat⟩ s
    refine ⟨_, ?_, rfl, (hstep _ _).trans ?_, fun c j hcj => (hstep c j).trans (if_neg ?_)⟩
    · rw [order_next ⟨tag, 0x04, [b, k] ++ be16 a ++ be16 l ++ [n]⟩ (effectPutLimitStep b k a l n) rfl rfl hs,
        effectPutLimitStep_inactive hb' ⟨hk1, hk2⟩ ha hn hx]
      rfl
    · rw [if_pos ⟨rfl, rfl⟩, nextOf_toNat]
    · exact fun h => hcj.elim (absurd h.1) (absurd h.2)
  · obtain ⟨-, hr, hq⟩ := recomputed (s := s)
      (e := { s.env with activeBank := b.toNat, walker := if b = 0 then 0 else 1 }) rfl
    refine ⟨_, hr, ?_, hq, .refl _⟩
    rw [order_next ⟨tag, 0x05, [b]⟩ (effectSelectLimitBank b) rfl rfl hs, effectSelectLimitBank_valid hb]
    rfl

/-- Settles O22: three orders that change a setting and compute A, two of them B before it. -/
theorem curtailMeterAndReserveOrders : Obligations.CurtailMeterAndReserveOrders := by
  intro tag s hs
  refine ⟨fun a b c => ?_, fun w => ?_, fun v => ?_, fun e => ⟨rfl, fun h => ?_, fun p h => ?_⟩, meterAssigned_iff⟩
  · obtain ⟨he, hr, hq⟩ := recomputed (s := s) (e := { s.env with stageLimits := #v[a.toNat, b.toNat, c.toNat] }) rfl
    exact ⟨_, hr, order_next ⟨tag, 0x06, be16 a ++ be16 b ++ be16 c⟩ (effectSetCurtailStages a b c) rfl rfl hs, he, hq⟩
  · obtain ⟨he, hr, hq⟩ := recomputed (s := s) (e := { s.env with
      whPerPulse := min 1000 (max 1 w.toNat)
      building := buildingOf (meterAssigned s) { s.env with whPerPulse := min 1000 (max 1 w.toNat) } }) rfl
    exact ⟨_, hr, order_next ⟨tag, 0x07, be16 w⟩ (effectSetMeter w) rfl rfl hs, he, hq⟩
  · obtain ⟨he, hr, hq⟩ := recomputed (s := s) (e := { s.env with
      reserve := v.toNat, building := buildingOf (meterAssigned s) { s.env with reserve := v.toNat } }) rfl
    refine ⟨_, hr, ?_, he, hq⟩
    rw [order_next ⟨tag, 0x09, be16 v⟩ (effectSetReserve v) rfl rfl hs, ← enc16_toNat]
    rfl
  · unfold buildingOf
    rw [h]
    rfl
  · unfold buildingOf
    rw [h]
    rfl

/-- Settles O23: the order, and the margin at the two kinds of reset. -/
theorem setMarginStoresMarginAndRecomputes : Obligations.SetMarginStoresMarginAndRecomputes := by
  refine ⟨fun tag v s hs => ?_, fun s => ⟨_, rfl, rfl⟩,
    fun s h => ⟨applyRestart s, congrArg Host.Outcome.next (if_pos h), applyRestart_margin s⟩⟩
  obtain ⟨he, hr, hq⟩ := recomputed (s := s) (e := { s.env with margin := min 1000 v.toNat }) rfl
  exact ⟨_, hr, order_next ⟨tag, 0x08, be16 v⟩ (effectSetMargin v) rfl rfl hs, he, hq⟩

/-- Settles O29: each expiry changes the envelope and computes A, the meter window's B before it. -/
theorem settlingAndMeterWindowExpiries : Obligations.SettlingAndMeterWindowExpiries := by
  intro s
  refine ⟨fun h => ?_, fun h => congrArg Host.Outcome.next (if_neg (by simp [h])), fun h => ?_,
    fun h => congrArg Host.Outcome.next (if_neg (by simp [h]))⟩
  · obtain ⟨he, hr, hq⟩ := recomputed (s := s) (e := { s.env with effStage := s.env.lineStage, settling := none }) rfl
    exact ⟨_, hr, congrArg Host.Outcome.next (if_pos h), he, hq⟩
  · obtain ⟨he, hr, hq⟩ := recomputed (s := s) (e := { s.env with
      lastWindow := some s.env.windowCount, windowCount := 0, meterWindow := some 60000
      building := buildingOf (meterAssigned s) { s.env with
        lastWindow := some s.env.windowCount, windowCount := 0, meterWindow := some 60000 } }) rfl
    exact ⟨_, hr, congrArg Host.Outcome.next (if_pos h), he, hq⟩

end

section
/-! What a computation of A makes of the power does not depend on the pass state, nor on the frames to the host: for
the events that change the sessions first and then compute A (O19, O30). -/

namespace Sys2Proof.Machine

/-- `t` is `s` apart from the allocator and the frames to the host, and the last order is the same. -/
structure Alike (s t : State) : Prop where
  eq   : t = { s with alloc := t.alloc, order := t.order }
  last : t.alloc.lastOrder = s.alloc.lastOrder

namespace Alike

variable {s t u : State}

theorem refl (s : State) : Alike s s := ⟨rfl, rfl⟩

theorem power (h : Alike s t) : PowerAs s t := by
  rw [h.eq]
  exact ⟨rfl, rfl, rfl⟩

theorem env (h : Alike s t) : t.env = s.env := by rw [h.eq]

theorem clock (h : Alike s t) : t.clock = s.clock := by rw [h.eq]

theorem trans (h : Alike s t) (k : Alike t u) : Alike s u where
  eq := by rw [k.eq, h.eq]
  last := k.last.trans h.last

theorem symm (h : Alike s t) : Alike t s where
  eq := by rw [h.eq]
  last := h.last.symm

/-- Pass requests, stale marks and notices. -/
theorem ofQuiet (h : Quiet s t) : Alike s t where
  eq := by
    obtain ⟨⟨hclock, hplans, henv, hready, hfaults, hlines, hpending, -, -, -, -, -, -, -⟩, hsessions, hbond, hlinks⟩ := h
    cases s
    cases t
    cases hclock
    cases hplans
    cases henv
    cases hready
    cases hfaults
    cases hlines
    cases hpending
    cases hsessions
    cases hbond
    cases hlinks
    rfl
  last := by rw [h.ripple.alloc]

theorem withEnv (h : Alike s t) (e : Envelope) : Alike { s with env := e } { t with env := e } where
  eq := by rw [h.eq]
  last := h.last

/-- An operation that reads of the sessions their grants alone. -/
theorem ofRecast {F : State → State} (hF : ∀ s k, SameGrants s k → F (s.recast k) = (F s).recast k)
    (h : Alike s t) : Alike (F s) (F t) := by
  have hg : SameGrants s t := fun b => by rw [h.eq]; rfl
  have ht : t = s.recast t := by
    refine h.eq.trans ?_
    rw [h.eq]
    rfl
  have hs : F s = (F s).recast s := hF s s fun _ => rfl
  have hft : F t = (F s).recast t := (congrArg F ht).trans (hF s t hg)
  rw [hs, hft]
  refine ⟨?_, h.last⟩
  rw [h.eq]
  rfl

theorem examineRaises (h : Alike s t) : Alike (examineRaises s) (examineRaises t) :=
  h.ofRecast fun _ _ hg => examineRaises_recast hg

theorem lowerGrants (h : Alike s t) (l : List Nat) : Alike (forEach l lowerGrant s) (forEach l lowerGrant t) := by
  induction l generalizing s t with
  | nil => exact h
  | cons b l ih => exact ih (h.ofRecast fun _ _ hg => lowerGrant_recast hg b)

/-- The walk of a shed reads sessions and setpoints alone (R98). -/
theorem shedWalk {w v : ShedWalk} (cause : ShedCause) (l : List Nat) (h : Alike w.state v.state)
    (hv : v = { w with state := v.state }) :
    Alike (shedWalk cause l w).state (shedWalk cause l v).state ∧
      (Machine.shedWalk cause l v).changed = (Machine.shedWalk cause l w).changed := by
  induction l generalizing w v with
  | nil => exact ⟨h, by rw [hv]; rfl⟩
  | cons b l ih =>
    have hd : v.deficit = w.deficit := by rw [hv]
    have hs : v.state.session b = w.state.session b := by rw [h.eq]; rfl
    have hp : v.state.power b = w.state.power b := by rw [h.eq]; rfl
    have hvisit : Alike (w.visit b).state (v.visit b).state ∧
        v.visit b = { w.visit b with state := (v.visit b).state } := by
      unfold ShedWalk.visit writeGrant
      rw [hs, hp, hd]
      refine ⟨?_, by rw [hv]⟩
      dsimp only
      split
      · exact h
      · refine ⟨?_, h.last⟩
        rw [h.eq]
        rfl
    unfold Machine.shedWalk
    rw [hd]
    split
    · exact ⟨h, by rw [hv]⟩
    · exact ih hvisit.1 hvisit.2

theorem commandedSum (h : Alike s t) : commandedSum t = commandedSum s := by
  unfold Machine.commandedSum State.power
  rw [h.power.bond]

theorem shed (h : Alike s t) (cause : ShedCause) (target : Int) :
    Alike (shed cause target s) (shed cause target t) := by
  have quiet : ∀ u, Quiet (shedTold cause target u) (Machine.shed cause target u) := fun u => by
    obtain ⟨body, hu⟩ := shed_eq cause target u
    exact hu ▸ (markStale_quiet _).trans ((notify_quiet ..).trans (requestPass_quiet _))
  obtain ⟨hw, hc⟩ := shedWalk (w := ⟨s, (Machine.commandedSum s : Int) - target, 0, []⟩)
    (v := ⟨t, (Machine.commandedSum s : Int) - target, 0, []⟩) cause s.alloc.lastOrder.reverse h rfl
  have told : Alike (shedTold cause target s) (shedTold cause target t) := by
    unfold shedTold shedWalked
    rw [h.last, h.commandedSum, hc]
    exact hw.lowerGrants _
  exact (ofQuiet (quiet s)).symm.trans (told.trans (ofQuiet (quiet t)))

/-- What a computation of A makes of the power (R67). -/
theorem recompute (h : Alike s t) : Alike (recompute s) (recompute t) := by
  have fresh : Alike (freshened s) (freshened t) := by
    refine (ofQuiet (freshened_quiet s)).symm.trans (Alike.trans ?_ (ofQuiet (freshened_quiet t)))
    rw [h.env]
    exact h.withEnv _
  rw [recompute_eq, recompute_eq, h.env, h.commandedSum]
  dsimp only
  have handed : Alike
      (if availableOf s.env < Machine.commandedSum s then Machine.shed .envelope (availableOf s.env) (freshened s)
        else freshened s)
      (if availableOf s.env < Machine.commandedSum s then Machine.shed .envelope (availableOf s.env) (freshened t)
        else freshened t) := by
    split
    · exact fresh.shed _ _
    · exact fresh
  split
  · exact handed
  · exact ((ofQuiet (requestPass_quiet _)).symm.trans (handed.trans (ofQuiet (requestPass_quiet _)))).examineRaises

end Alike

/-! ### One function for every session -/

/-- Each session of a list of bays passes through a function. -/
def mapSessions (f : Session → Session) (l : List Nat) (s : State) : State :=
  forEach l (fun b t => putSession b (f (t.session b)) t) s

theorem mapSessions_keeps (f : Session → Session) (l : List Nat) (s : State) :
    mapSessions f l s = { s with sessions := (mapSessions f l s).sessions } := by
  unfold mapSessions
  refine forEach_keeps (P := fun t => t = { s with sessions := t.sessions }) (fun b _ t h => ?_) rfl
  rw [h]
  rfl

theorem mapSessions_session {f : Session → Session} (hf : f (Session.vacant 0) = Session.vacant 0) {l : List Nat}
    (hl : l.Nodup) (s : State) (j : Nat) :
    (mapSessions f l s).session j = if j ∈ l then f (s.session j) else s.session j := by
  refine forEach_read State.session _ (fun _ => f) (fun i j t => ?_) hl s j
  rw [session_putSession]
  by_cases hij : i = j
  · subst hij
    by_cases hi : validBay i = true
    · rw [if_pos ⟨rfl, validBay_iff.mp hi⟩, if_pos rfl]
    · rw [if_neg fun h => hi (validBay_iff.mpr h.2), if_pos rfl, session_out hi, hf]
  · rw [if_neg fun h => hij h.1, if_neg hij]

/-- Two banks whose items are the same. -/
theorem get1_ext {α : Type} {n : Nat} {v w : Vector α n} {d : α}
    (h : ∀ i, 1 ≤ i → i ≤ n → get1 v d i = get1 w d i) : v = w := by
  apply Vector.ext
  intro i hi
  have := h (i + 1) (by omega) (by omega)
  unfold get1 at this
  simpa [hi] using this

theorem mapSessions_allBays {f : Session → Session} (hf : f (Session.vacant 0) = Session.vacant 0) (s : State) :
    mapSessions f allBays s = { s with sessions := tabulate 48 fun b => f (s.session b) } := by
  have hx : (mapSessions f allBays s).sessions = tabulate 48 fun b => f (s.session b) := by
    refine get1_ext (d := Session.vacant 0) fun i h1 h48 => ?_
    rw [get1_tabulate _ _ _ h1 h48]
    exact (mapSessions_session hf allBays_nodup s i).trans (if_pos (mem_allBays.mpr (validBay_iff.mpr ⟨h1, h48⟩)))
  rw [mapSessions_keeps, hx]

theorem session_tabulate {f : Session → Session} (hf : f (Session.vacant 0) = Session.vacant 0) (s : State) (b : Nat) :
    get1 (tabulate 48 fun b => f (s.session b)) (Session.vacant 0) b = f (s.session b) :=
  get1_tabulate_map f s.sessions hf b

theorem Quiet.session {s t : State} (h : Quiet s t) (b : Nat) : t.session b = s.session b := by
  unfold State.session
  rw [h.power.sessions]

/-- One session written in both of two states that differ quietly. -/
theorem Quiet.putSession {s t : State} (h : Quiet s t) (b : Nat) (x : Session) :
    Quiet (Machine.putSession b x s) (Machine.putSession b x t) where
  ripple := h.ripple.putSession b x
  power := ⟨congrArg (set1 · b x) h.power.sessions, h.power.bond, h.power.links⟩

theorem Quiet.mapSessions {s t : State} (h : Quiet s t) (f : Session → Session) (l : List Nat) :
    Quiet (mapSessions f l s) (mapSessions f l t) := by
  induction l generalizing s t with
  | nil => exact h
  | cons b l ih =>
    have hb : Quiet (Machine.putSession b (f (s.session b)) s) (Machine.putSession b (f (t.session b)) t) := by
      rw [h.session b]
      exact h.putSession b _
    exact ih hb

/-- The envelope put in both of two states. -/
theorem Ripple.withEnv {s t : State} (h : Ripple s t) (e : Envelope) : Ripple { s with env := e } { t with env := e } :=
  { h with env := rfl }

end Sys2Proof.Machine

end

section
/-! SET CLOCK and the minute event: O19 and O30. -/

namespace Sys2Proof.Machine

/-! ### SET CLOCK -/

theorem Session.reclocked_vacant (m : Nat) : (Session.vacant 0).reclocked m = Session.vacant 0 := rfl

/-- The session of a bay that counts down, after SET CLOCK (R11, R12). -/
theorem Session.reclocked_counts {x : Session} (h : x.state = .active ∨ x.state = .satisfied) (m : Nat) :
    x.reclocked m = { x with
      countdown := some (countdownFrom x.plan.departure m)
      windowOpen := 0 < x.plan.power && 0 < x.plan.window &&
        decide (countdownFrom x.plan.departure m ≤ x.plan.window) } := by
  have hc := (SessionState.counts_iff _).mpr h
  unfold Session.reclocked Session.opensWindow
  simp only [hc, if_true, Bool.and_true]

theorem Session.reclocked_idle {x : Session} (ha : x.state ≠ .active) (hs : x.state ≠ .satisfied) (m : Nat) :
    x.reclocked m = x :=
  if_neg fun h => ((SessionState.counts_iff _).mp h).elim ha hs

/-- The countdown leads from the minute to the departure (R9). -/
theorem add_countdownFrom {d : Nat} (hd : d < 1440) (m : Nat) : (m + countdownFrom d m) % 1440 = d := by
  unfold countdownFrom
  dsimp only
  split <;> omega

/-- The sessions after SET CLOCK, without the request. -/
theorem forEach_reclocked (l : List Nat) (s : State) :
    forEach l (fun b t => putSession b ((t.session b).reclocked t.clock.minute) t) s =
      mapSessions (fun x => x.reclocked s.clock.minute) l s := by
  induction l generalizing s with
  | nil => rfl
  | cons b l ih => exact ih _

/-- SET CLOCK at the session table (R11). -/
theorem reclockSessions_eq (s : State) :
    let t := { s with sessions := tabulate 48 fun b => (s.session b).reclocked s.clock.minute }
    reclockSessions s =
      if allBays.any fun b => (t.session b).windowOpen && !(s.session b).windowOpen then requestPass t else t := by
  have h := (forEach_reclocked allBays s).trans
    (mapSessions_allBays (f := fun x => x.reclocked s.clock.minute) (Session.reclocked_vacant _) s)
  unfold reclockSessions
  rw [h]

/-- The clock set and the sessions counted afresh, without the request (R51, R11). -/
def State.reclocked (s : State) (minute : Nat) : State :=
  { s with clock := ⟨minute, true, 0, 0⟩, sessions := tabulate 48 fun b => (s.session b).reclocked minute }

theorem session_reclocked (s : State) (m b : Nat) : (s.reclocked m).session b = (s.session b).reclocked m :=
  session_tabulate (f := fun x => x.reclocked m) (Session.reclocked_vacant m) s b

/-- The sessions after SET CLOCK, with the request where a window has opened (R11). -/
structure Reclocked (s : State) (m : Nat) (u : State) : Prop where
  quiet  : Quiet (s.reclocked m) u
  kept   : PassKept (s.reclocked m) u
  opened : (∃ b, (s.session b).windowOpen = false ∧ ((s.session b).reclocked m).windowOpen = true) →
    Requested (s.reclocked m) u

theorem reclockSessions_reclocked (s : State) (m : Nat) :
    Reclocked s m (reclockSessions { s with clock := ⟨m, true, 0, 0⟩ }) := by
  have h : reclockSessions { s with clock := ⟨m, true, 0, 0⟩ } =
      if allBays.any fun b => ((s.reclocked m).session b).windowOpen && !(s.session b).windowOpen
        then requestPass (s.reclocked m) else s.reclocked m := reclockSessions_eq _
  rw [h]
  split
  · exact ⟨requestPass_quiet _, requestPass_kept _, fun _ => requestPass_requested _⟩
  · next hn =>
    refine ⟨.refl _, .refl _, fun ⟨b, hx, hy⟩ => absurd (List.any_eq_true.mpr ⟨b, ?_, ?_⟩) hn⟩
    · -- a bay that there is not has no window
      rw [mem_allBays]
      by_contra hb
      rw [session_out hb] at hy
      cases hy
    · rw [session_reclocked, hx, hy]
      rfl

/-- The envelope with the walker on step 1 of the active bank, or on none (R58). -/
def Envelope.rewound (e : Envelope) : Envelope := { e with walker := if e.activeBank = 0 then 0 else 1 }

theorem placeWalker_eq (s : State) : placeWalker s = { s with env := s.env.rewound } := rfl

/-- A computation of A after a setting other than the site ceiling has changed leaves the pass in flight. -/
theorem recomputed_kept {s : State} {e : Envelope} (h : e.siteCeiling = s.env.siteCeiling) :
    PassKept s (recompute { s with env := e }) :=
  PassKept.trans (t := { s with env := e })
    ⟨id, fun _ => id, fun _ => id, by unfold allocationEnabled; rw [← h]⟩ (recompute_kept _)

/-- The two ends of SET CLOCK: what A is computed from, and the request of a clock that was not set (R51). -/
theorem applyClock_spec (s : State) (m : Nat) : ∃ u, Reclocked s m u ∧
    let v := recompute { u with env := s.env.rewound }
    Quiet v (applyClock m s) ∧ PassKept v (applyClock m s) ∧
      (s.clock.setMarker = false → Requested v (applyClock m s)) := by
  have hu := reclockSessions_reclocked s m
  refine ⟨_, hu, ?_⟩
  have ha : applyClock m s = if s.clock.setMarker
      then recompute (placeWalker (reclockSessions { s with clock := ⟨m, true, 0, 0⟩ }))
      else requestPass (recompute (placeWalker (reclockSessions { s with clock := ⟨m, true, 0, 0⟩ }))) := rfl
  rw [ha, placeWalker_eq, hu.quiet.ripple.env]
  change let v := recompute _
    Quiet v (if s.clock.setMarker then v else requestPass v) ∧
      PassKept v (if s.clock.setMarker then v else requestPass v) ∧
      (s.clock.setMarker = false → Requested v (if s.clock.setMarker then v else requestPass v))
  dsimp only
  generalize recompute _ = v
  cases s.clock.setMarker
  · exact ⟨requestPass_quiet _, requestPass_kept _, fun _ => requestPass_requested _⟩
  · exact ⟨.refl _, .refl _, nofun⟩

theorem effectSetClock_valid {m : U16} (h : m.toNat < 1440) (s : State) :
    effectSetClock m s = (applyClock m.toNat s, 0x00 :: be16 m) := by
  unfold effectSetClock
  rw [if_neg (Nat.not_le.mpr h), enc16_toNat]
  rfl

end Sys2Proof.Machine

open Sys2Proof Sys2Proof.Machine

/-- Settles O19: the sessions counted afresh, then the walker and A, then the request of an unset clock. -/
theorem setClockSetsMinuteAndRecomputes : Obligations.SetClockSetsMinuteAndRecomputes := by
  refine ⟨fun tag minute s hs hm => ?_,
    fun x m => ⟨fun h => x.reclocked_counts h m, fun ha hs => x.reclocked_idle ha hs m⟩,
    fun d m hd _ => ⟨(countdownFrom_range d m).1, (countdownFrom_range d m).2, add_countdownFrom hd m⟩⟩
  have hanswer : exec (.setClock tag minute) s =
      .next ((applyClock minute.toNat s).replied tag 0x81 (0x00 :: be16 minute)) := by
    rw [order_next ⟨tag, 0x01, be16 minute⟩ (effectSetClock minute) rfl rfl hs, effectSetClock_valid hm]
    rfl
  obtain ⟨u, ⟨hquiet, hkept, hopen⟩, hlast, hlastKept, hunset⟩ := applyClock_spec s minute.toNat
  generalize applyClock minute.toNat s = r at *
  have henv : u.env = s.env := hquiet.ripple.env
  obtain ⟨-, hripple, hchanged⟩ := recomputed (s := u) (e := s.env.rewound) (by rw [henv]; rfl)
  have hkeptA : PassKept u (recompute { u with env := s.env.rewound }) :=
    recomputed_kept (by rw [henv]; rfl)
  have hr : Ripple { s.reclocked minute.toNat with env := s.env.rewound.fresh } r :=
    (hquiet.ripple.withEnv _).trans (hripple.trans hlast.ripple)
  refine ⟨r, hr, hanswer, ?power, ?requested⟩
  case power => exact ((Alike.ofQuiet hquiet).withEnv _).recompute.power.trans hlast.power
  case requested =>
    -- of the state before the order a request reads the pass in flight alone
    show _ → Requested (s.reclocked minute.toNat) r
    rintro (hmarker | havail | ⟨b, hx, hy⟩)
    · exact (hkept.trans hkeptA).requested (hunset hmarker)
    · refine hkept.requested ((hchanged ?_).kept hlastKept)
      rwa [← hlast.ripple.env, henv]
    · refine ((hopen ⟨b, hx, ?_⟩).kept hkeptA).kept hlastKept
      rw [← session_reclocked, ← hy, (hr.session b).1]
      rfl

end

section
/-! The minute event: O30. -/

namespace Sys2Proof.Machine

/-! ### One session at a minute event -/

theorem Session.afterMinute_vacant : (Session.vacant 0).afterMinute = Session.vacant 0 := rfl

/-- The session becomes OVERDUE at the minute event (R16). -/
def Session.expires (x : Session) : Bool := x.state ≠ .overdue ∧ x.afterMinute.state = .overdue

/-- The window of the session opens at the minute event (R12). -/
def Session.opens (x : Session) : Bool := x.afterMinute.windowOpen && !x.windowOpen

section
variable {x : Session}

theorem Session.afterMinute_idle (h : ¬ x.state.counts = true) : x.afterMinute = x :=
  if_neg fun hc => h ((SessionState.counts_iff _).mpr hc)

theorem Session.afterMinute_expired (h : x.state.counts = true) (hc : x.countdown.getD 0 ≤ 1) :
    x.afterMinute = { x with state := .overdue, countdown := some 0, windowOpen := false } :=
  (if_pos ((SessionState.counts_iff _).mp h)).trans (if_pos hc)

theorem Session.afterMinute_counted (h : x.state.counts = true) (hc : ¬ x.countdown.getD 0 ≤ 1) :
    x.afterMinute = { x with
      countdown := some (x.countdown.getD 0 - 1)
      windowOpen := ({ x with countdown := some (x.countdown.getD 0 - 1) } : Session).opensWindow } := by
  refine ((if_pos ((SessionState.counts_iff _).mp h)).trans (if_neg hc)).trans ?_
  unfold Session.opensWindow
  simp only [h, Bool.and_true]

end

/-- A session that the minute event leaves neither becomes OVERDUE nor opens its window. -/
theorem Session.still_of_afterMinute {x : Session} (h : x.afterMinute = x) : x.expires = false ∧ x.opens = false := by
  unfold Session.expires Session.opens
  rw [h]
  exact ⟨decide_eq_false fun hn => hn.1 hn.2, Bool.and_not_self _⟩

/-- The three ways of a session at a minute event: it does not count down, it becomes OVERDUE, or it counts on. -/
theorem minuteAt_cases (b : Nat) (s : State) :
    (minuteAt b s = s ∧ (s.session b).afterMinute = s.session b) ∨
      (minuteAt b s = noticeOverdue b (requestPass (putSession b (s.session b).afterMinute s)) ∧
        (s.session b).expires = true) ∨
      (minuteAt b s = (if (s.session b).opens then requestPass (putSession b (s.session b).afterMinute s)
          else putSession b (s.session b).afterMinute s) ∧ (s.session b).expires = false) := by
  unfold Session.opens Session.expires minuteAt
  dsimp only
  by_cases hcount : (s.session b).state.counts = true
  · have hno : (s.session b).state ≠ .overdue := fun h => by rw [h] at hcount; cases hcount
    rw [if_pos hcount]
    by_cases h1 : (s.session b).countdown.getD 0 ≤ 1
    · rw [if_pos (by omega), Session.afterMinute_expired hcount h1]
      exact .inr (.inl ⟨rfl, decide_eq_true ⟨hno, rfl⟩⟩)
    · rw [if_neg (by omega), Session.afterMinute_counted hcount h1]
      exact .inr (.inr ⟨rfl, decide_eq_false fun h => hno h.2⟩)
  · rw [if_neg hcount]
    exact .inl ⟨rfl, Session.afterMinute_idle hcount⟩

/-- The notice of a bay whose session becomes OVERDUE (R155). -/
def overdueNotice (s : State) (b : Nat) : NoticeKind × List Byte :=
  sessionNotice 1 0 b s.clock.minute (s.session b).afterMinute

theorem noticeOverdue_order (b : Nat) (s : State) :
    (noticeOverdue b s).order = noticed [sessionNotice 1 0 b s.clock.minute (s.session b)] s.order := by
  have hm : (s.session b).targetMet =
      decide ((s.session b).state ≠ .identifying ∧ (s.session b).plan.target ≤ (s.session b).battery) :=
    (Bool.decide_and ..).symm
  unfold noticeOverdue
  rw [notify_eq]
  unfold sessionNotice sessionHead sessionTail encIdentity encOpt encFlag markedByte mark
  rw [hm]
  simp only [List.append_assoc]
  rfl

/-! ### The sessions at a minute event -/

/-- What the minute event does at the bays of a list (R10, R16, R155). -/
structure MinutePassed (l : List Nat) (s t : State) : Prop where
  quiet     : Quiet (mapSessions Session.afterMinute l s) t
  kept      : PassKept s t
  requested : (∃ b ∈ l, (s.session b).expires = true ∨ (s.session b).opens = true) → Requested s t
  order     : t.order = noticed ((l.filter fun b => (s.session b).expires).map (overdueNotice s)) s.order

theorem putSession_kept (b : Nat) (x : Session) (s : State) : PassKept s (putSession b x s) :=
  ⟨id, fun _ => id, fun _ => id, rfl⟩

theorem minuteAt_passed {b : Nat} (hb : validBay b = true) (s : State) : MinutePassed [b] s (minuteAt b s) := by
  have hput := putSession_kept b (s.session b).afterMinute s
  rcases minuteAt_cases b s with ⟨h, hx⟩ | ⟨h, he⟩ | ⟨h, he⟩ <;> rw [h]
  · obtain ⟨he, ho⟩ := Session.still_of_afterMinute hx
    refine ⟨?_, .refl s, ?_, by rw [List.filter_singleton, he]; rfl⟩
    · show Quiet (putSession b (s.session b).afterMinute s) s
      rw [hx, putSession_self]
      exact .refl s
    · rintro ⟨j, hj, hexp⟩
      rw [List.mem_singleton.mp hj, he, ho] at hexp
      exact absurd hexp (by decide)
  · refine ⟨(requestPass_quiet _).trans (notify_quiet ..),
      hput.trans ((requestPass_kept _).trans (notify_kept ..)),
      fun _ => (hput.requested (requestPass_requested _)).kept (notify_kept ..), ?_⟩
    rw [noticeOverdue_order, requestPass_order, requestPass_session, session_putSession_self _ _ _ hb,
      (requestPass_ripple _).clock, List.filter_singleton, he]
    rfl
  · have horder : ∀ t : State, t.order = s.order →
        t.order = noticed (([b].filter fun b => (s.session b).expires).map (overdueNotice s)) s.order := fun t ht => by
      rw [List.filter_singleton, he]
      exact ht
    by_cases ho : (s.session b).opens = true
    · rw [if_pos ho]
      exact ⟨requestPass_quiet _, hput.trans (requestPass_kept _), fun _ => hput.requested (requestPass_requested _),
        horder _ (requestPass_order _)⟩
    · rw [if_neg ho]
      refine ⟨.refl _, hput, ?_, horder _ rfl⟩
      rintro ⟨j, hj, hexp⟩
      rw [List.mem_singleton.mp hj, he] at hexp
      exact absurd hexp (by simp [ho])

/-- The bays of a list after one bay that is not on it. -/
theorem MinutePassed.cons {b : Nat} {l : List Nat} {s t u : State} (h : MinutePassed [b] s t) (k : MinutePassed l t u)
    (hb : b ∉ l) : MinutePassed (b :: l) s u := by
  have hs : ∀ j ∈ l, t.session j = s.session j := fun j hj => by
    rw [h.quiet.session]
    refine (session_putSession ..).trans (if_neg ?_)
    exact fun e => hb (e.1 ▸ hj)
  have hclock : t.clock = s.clock := h.quiet.ripple.clock
  refine ⟨(h.quiet.mapSessions Session.afterMinute l).trans k.quiet, h.kept.trans k.kept, ?_, ?_⟩
  · rintro ⟨j, hj, hexp⟩
    rcases List.mem_cons.mp hj with rfl | hj
    · exact (h.requested ⟨j, List.mem_singleton_self j, hexp⟩).kept k.kept
    · exact h.kept.requested (k.requested ⟨j, hj, by rwa [hs j hj]⟩)
  · have hl : (l.filter fun j => (t.session j).expires).map (overdueNotice t) =
        (l.filter fun j => (s.session j).expires).map (overdueNotice s) := by
      rw [List.filter_congr fun j hj => by rw [hs j hj]]
      refine List.map_congr_left fun j hj => ?_
      unfold overdueNotice
      rw [hs j (List.mem_of_mem_filter hj), hclock]
    have hc : b :: l = [b] ++ l := rfl
    rw [k.order, h.order, hl, hc, List.filter_append, List.map_append, noticed_append]

theorem forEach_minuteAt {l : List Nat} (hl : l.Nodup) (hv : ∀ b ∈ l, validBay b = true) (s : State) :
    MinutePassed l s (forEach l minuteAt s) := by
  induction l generalizing s with
  | nil => exact ⟨.refl s, .refl s, nofun, rfl⟩
  | cons b l ih =>
    obtain ⟨hb, hl⟩ := List.nodup_cons.mp hl
    exact (minuteAt_passed (hv b List.mem_cons_self) s).cons
      (ih hl (fun j hj => hv j (List.mem_cons_of_mem b hj)) _) hb

/-! ### The walker at a minute event (R57) -/

theorem walk_eq (s : State) : walk s = match (s.env.step s.env.activeBank s.env.walker).nextStep with
    | some n => if s.env.activeBank ≠ 0 ∧ (s.env.step s.env.activeBank n).start = s.clock.minute
      then recompute { s with env := { s.env with walker := n } } else s
    | none => s := by
  unfold walk Envelope.step
  dsimp only
  by_cases ha : s.env.activeBank = 0
  · rw [if_pos ha]
    split
    · rw [if_neg fun h => h.1 ha]
    · rfl
  · rw [if_neg ha]
    split
    · next h => rw [h]
    · next n h =>
      rw [h]
      simp only [ne_eq, ha, not_false_iff, true_and]

/-- The walker stays, or A is computed with the walker moved. -/
theorem walk_cases (s : State) : (walk s = s ∧ s.env.walked s.clock.minute = s.env) ∨
    ∃ n, walk s = recompute { s with env := { s.env with walker := n } } ∧
      s.env.walked s.clock.minute = ({ s.env with walker := n } : Envelope).fresh := by
  rw [walk_eq]
  unfold Envelope.walked
  cases (s.env.step s.env.activeBank s.env.walker).nextStep with
  | none => exact .inl ⟨rfl, rfl⟩
  | some n =>
    dsimp only
    split
    · exact .inr ⟨n, rfl, rfl⟩
    · exact .inl ⟨rfl, rfl⟩

/-- What the walker does at a minute event (R57, R67). -/
structure Walked (s t : State) : Prop where
  ripple    : Ripple { s with env := s.env.walked s.clock.minute } t
  kept      : PassKept s t
  requested : t.env.available ≠ s.env.available → Requested s t
  stale     : t.env.available < s.env.available → inFlight s = true → t.alloc.stale = true
  order     : ∃ sheds : List (NoticeKind × List Byte), sheds.length ≤ 1 ∧ (∀ n ∈ sheds, n.1 = .shed) ∧
    t.order = noticed sheds s.order

theorem walk_walked (s : State) : Walked s (walk s) := by
  rcases walk_cases s with ⟨h, he⟩ | ⟨n, h, he⟩ <;> rw [h]
  · exact ⟨by rw [he]; exact .refl s, .refl s, fun hn => absurd rfl hn, fun hn => absurd hn (Nat.lt_irrefl _),
      [], Nat.zero_le 1, nofun, rfl⟩
  · obtain ⟨-, hr, hq⟩ := recomputed (s := s) (e := { s.env with walker := n }) rfl
    refine ⟨he ▸ hr, recomputed_kept rfl, hq, fun hn hs => ?_,
      recompute_order { s with env := { s.env with walker := n } }⟩
    rw [hr.env] at hn
    exact recompute_stale (s := { s with env := { s.env with walker := n } }) hn hs

theorem Alike.walk {s t : State} (h : Alike s t) : Alike (walk s) (walk t) := by
  rw [walk_eq, walk_eq, h.env]
  cases (s.env.step s.env.activeBank s.env.walker).nextStep with
  | none => exact h
  | some n =>
    dsimp only
    by_cases hc : s.env.activeBank ≠ 0 ∧ (s.env.step s.env.activeBank n).start = s.clock.minute
    · rw [if_pos hc, if_pos (h.clock ▸ hc)]
      exact (h.withEnv { s.env with walker := n }).recompute
    · rw [if_neg hc, if_neg (h.clock ▸ hc)]
      exact h

/-! ### The whole event -/

/-- The minute advanced and every session counted on, without requests and notices (R50, R10). -/
def State.counted (s : State) : State :=
  { s with
    clock := ⟨(s.clock.minute + 1) % 1440, s.clock.setMarker, 0, 0⟩
    sessions := tabulate 48 fun b => (s.session b).afterMinute }

theorem session_counted (s : State) (b : Nat) : s.counted.session b = (s.session b).afterMinute :=
  session_tabulate Session.afterMinute_vacant s b

/-- What the minute event leaves to the walker (R10, R16, R155). -/
structure Counted (s u : State) : Prop where
  quiet     : Quiet s.counted u
  kept      : PassKept s u
  requested : (∃ b, (s.session b).expires = true ∨ (s.session b).opens = true) → Requested s u
  order     : u.order = noticed ((allBays.filter fun b => (s.session b).expires).map fun b =>
    sessionNotice 1 0 b ((s.clock.minute + 1) % 1440) (s.session b).afterMinute) s.order

theorem minuteEvent_counted (s : State) : ∃ u, Counted s u ∧ exec .minuteEvent s = .next (walk u) := by
  obtain ⟨hquiet, hkept, hrequested, horder⟩ :=
    forEach_minuteAt allBays_nodup (fun b hb => mem_allBays.mp hb) (advanceMinute s)
  rw [mapSessions_allBays Session.afterMinute_vacant] at hquiet
  refine ⟨_, ⟨hquiet, ⟨hkept.flight, hkept.again, hkept.stale, hkept.enabled⟩, fun ⟨b, hb⟩ => ?_, horder⟩, rfl⟩
  refine hrequested ⟨b, ?_, hb⟩
  rw [mem_allBays]
  by_contra hv
  rw [session_out hv] at hb
  exact absurd hb (by decide)

end Sys2Proof.Machine

open Sys2Proof Sys2Proof.Machine

/-- Settles O30: the bays in turn, then the walker. -/
theorem minuteEventAdvancesClockSessionsAndWalker : Obligations.MinuteEventAdvancesClockSessionsAndWalker := by
  intro s
  obtain ⟨u, ⟨hquiet, hkept, hacted, horder⟩, hexec⟩ := minuteEvent_counted s
  obtain ⟨hripple, hkeptW, hchanged, hstale, sheds, hlen, hsheds, horderW⟩ := walk_walked u
  have hpower := (Alike.ofQuiet hquiet).walk.power
  rw [walk_eq] at hpower
  generalize walk u = r at *
  have henv : u.env = s.env := hquiet.ripple.env
  have hclock : u.clock = s.counted.clock := hquiet.ripple.clock
  rw [henv, hclock] at hripple
  rw [henv] at hchanged hstale
  have hr : Ripple { s.counted with env := s.env.walked ((s.clock.minute + 1) % 1440) } r :=
    (hquiet.ripple.withEnv _).trans (hclock ▸ hripple)
  have hstate : ∀ b, (r.session b).state = (s.session b).afterMinute.state := fun b => by
    rw [(hr.session b).1, ← session_counted]
    rfl
  have hwindow : ∀ b, (r.session b).windowOpen = (s.session b).afterMinute.windowOpen := fun b => by
    rw [(hr.session b).1, ← session_counted]
    rfl
  have hbay : (∃ b, ((s.session b).state ≠ .overdue ∧ (r.session b).state = .overdue) ∨
      ((s.session b).windowOpen = false ∧ (r.session b).windowOpen = true)) → Requested s u := by
    rintro ⟨b, hb⟩
    rw [hstate, hwindow] at hb
    refine hacted ⟨b, hb.imp (fun h => decide_eq_true h) fun ⟨h, k⟩ => ?_⟩
    unfold Session.opens
    rw [h, k]
    rfl
  refine ⟨r, hr, hexec, hpower, ⟨sheds, hlen, hsheds, ?order⟩, fun h => (hbay h).kept hkeptW,
    fun h => hkept.requested (hchanged h), fun h hf => hstale h ?flight⟩
  case order =>
    rw [horderW, horder, noticed_append]
    simp only [hstate]
    rfl
  case flight =>
    rcases hf with hf | ⟨he, hb⟩
    · exact hkept.flight hf
    · exact (hbay hb (hkept.enabled.trans he)).1

end

section
/-! The overdraw timer's expiry: O31. -/

namespace Sys2Proof.Machine

/-! ### The alarm indication -/

/-- The state with another envelope and other frames to the host. -/
def State.reframed (s : State) (e : Envelope) (o : OrderLink) : State := { s with env := e, order := o }

theorem takeAlarm_reframed (e : Envelope) (o : OrderLink) (a : Bool) (l : List Nat) (s : State) :
    forEach l (fun l s => putLine l ((s.line l).takeAlarm a) s) (s.reframed e o) =
      (forEach l (fun l s => putLine l ((s.line l).takeAlarm a) s) s).reframed e o := by
  induction l generalizing s with
  | nil => rfl
  | cons k l ih => exact ih (putLine k ((s.line k).takeAlarm a) s)

/-- The alarm indication is evaluated from the faults alone (R163). -/
theorem evaluateAlarm_reframed (e : Envelope) (o : OrderLink) (s : State) :
    evaluateAlarm (s.reframed e o) = (evaluateAlarm s).reframed e o := by
  have ha : alarmWanted (s.reframed e o) = alarmWanted s := alarmWanted_congr rfl
  unfold evaluateAlarm
  dsimp only
  rw [ha]
  by_cases h : alarmWanted s = s.faults.alarm
  · rw [if_pos h]
    exact if_pos h
  · rw [if_neg h]
    exact (if_neg h).trans
      (takeAlarm_reframed e o (alarmWanted s) allLines { s with faults := { s.faults with alarm := alarmWanted s } })

/-- The alarm indication does not depend on what it was (R163). -/
theorem alarmWanted_alarm (s : State) (a : Bool) :
    alarmWanted { s with faults := { s.faults with alarm := a } } = alarmWanted s := rfl

theorem alarmWanted_evaluateAlarm (s : State) : alarmWanted (evaluateAlarm s) = alarmWanted s := by
  obtain ⟨lines, h, -⟩ := evaluateAlarm_eq s
  rw [h]
  exact alarmWanted_alarm s _

/-! ### SITE_OVERDRAW -/

/-- The state with the overdraw flag set, at the present minute unless it was set (R159). -/
def State.overdrawn (s : State) : State :=
  { s with faults := { s.faults with overdrawMinute := some (s.faults.overdrawMinute.getD s.clock.minute) } }

theorem overdrawn_eq (s : State) : s.overdrawn =
    if s.faults.overdrawMinute.isNone then { s with faults := { s.faults with overdrawMinute := some s.clock.minute } }
    else s := by
  unfold State.overdrawn
  split
  · next h => rw [Option.isNone_iff_eq_none.mp h]; rfl
  · next h =>
    cases hm : s.faults.overdrawMinute with
    | none => rw [hm] at h; exact absurd rfl h
    | some m => exact congrArg (fun o => { s with faults := { s.faults with overdrawMinute := o } }) hm.symm

/-- The bytes of a FAULT notice of SITE_OVERDRAW, with whether the flag was clear (R160). -/
def overdrawBytes (s : State) : List Byte :=
  [6, 1, 3, 0, 0, 0, mark s.faults.overdrawMinute.isNone, 0, 1, 0, 0] ++ enc16 s.clock.minute ++
    [mark (alarmWanted s.overdrawn)]

/-- The frames to the host once SITE_OVERDRAW has been notified (R160). -/
def overdrawOrder (s : State) : OrderLink :=
  noticed (if s.faults.notices.nonfatal then [(.fault, overdrawBytes s)] else []) s.order

theorem overdrawNotice_overdrawn (s : State) :
    overdrawNotice s.faults.overdrawMinute.isNone s.overdrawn = { s.overdrawn with order := overdrawOrder s } := by
  unfold overdrawNotice overdrawOrder
  by_cases h : s.faults.notices.nonfatal = true
  · rw [if_pos h]
    refine (if_pos h).trans ?_
    rw [notify_eq]
    rfl
  · rw [if_neg h]
    exact if_neg h

/-- SITE_OVERDRAW is taken (R159, R160, R163). -/
theorem takeOverdraw_eq (s : State) :
    takeOverdraw s = (evaluateAlarm s.overdrawn).reframed s.env (overdrawOrder s) := by
  have h : takeOverdraw s = evaluateAlarm (overdrawNotice s.faults.overdrawMinute.isNone s.overdrawn) := by
    rw [overdrawn_eq]
    rfl
  rw [h, overdrawNotice_overdrawn]
  exact evaluateAlarm_reframed s.env (overdrawOrder s) s.overdrawn

theorem takeOverdraw_order (s : State) :
    takeOverdraw s = { evaluateAlarm s.overdrawn with order := overdrawOrder s } := by
  obtain ⟨lines, he, -⟩ := evaluateAlarm_eq s.overdrawn
  rw [takeOverdraw_eq, he]
  rfl

theorem overdrawOrder_ripple {s t : State} (h : t.order = s.order) :
    Ripple t (t.reframed t.env (overdrawOrder s)) := by
  unfold overdrawOrder
  rw [← h]
  split
  · have := notify_ripple .fault (overdrawBytes s) t
    rw [notify_eq] at this
    exact this
  · exact .refl t

/-- The state as the shed of the overdraw timer's expiry leaves it (R69). -/
def overdrawShed (s : State) : State :=
  shed .overdraw ((s.env.available : Int) - s.env.excess.getD 0) (takeOverdraw s)

/-- The envelope with the overdraw timer stopped (R69). -/
def Envelope.overdrawStopped (e : Envelope) : Envelope := { e with overdraw := none, excess := none }

theorem overdrawShed_ripple (s : State) :
    Ripple (evaluateAlarm { s.overdrawn with env := s.env.overdrawStopped })
      { overdrawShed s with env := s.env.overdrawStopped } := by
  obtain ⟨lines, he, -⟩ := evaluateAlarm_eq s.overdrawn
  have ho : (evaluateAlarm s.overdrawn).order = s.order := by rw [he]; rfl
  have hp : evaluateAlarm { s.overdrawn with env := s.env.overdrawStopped } =
      (evaluateAlarm s.overdrawn).reframed s.env.overdrawStopped s.order :=
    evaluateAlarm_reframed s.env.overdrawStopped s.order s.overdrawn
  have hq := shed_ripple .overdraw ((s.env.available : Int) - s.env.excess.getD 0) (takeOverdraw s)
  rw [takeOverdraw_eq] at hq
  rw [hp, ← ho]
  refine ((overdrawOrder_ripple ho).withEnv s.env.overdrawStopped).trans ?_
  unfold overdrawShed
  rw [takeOverdraw_eq]
  exact hq.withEnv s.env.overdrawStopped

theorem overdrawShed_env (s : State) : (overdrawShed s).env = s.env :=
  (shed_ripple ..).env.trans (takeOverdraw_env s)

/-- The shed of the expiry, with the notice of SITE_OVERDRAW byte by byte (R69, R160). -/
theorem overdrawShed_eq (s : State) : overdrawShed s =
    shed .overdraw ((s.env.available : Int) - s.env.excess.getD 0) { evaluateAlarm s.overdrawn with
      order := noticed (if s.faults.notices.nonfatal then
        [(.fault, [6, 1, 3, 0, 0, 0, mark s.faults.overdrawMinute.isNone, 0, 1, 0, 0] ++ enc16 s.clock.minute ++
          [mark (alarmWanted (evaluateAlarm s.overdrawn))])] else []) s.order } := by
  have hq := takeOverdraw_order s
  unfold overdrawOrder overdrawBytes at hq
  rw [← alarmWanted_evaluateAlarm s.overdrawn] at hq
  unfold overdrawShed
  rw [hq]

theorem takeOverdraw_alloc (s : State) : (takeOverdraw s).alloc = s.alloc := by
  obtain ⟨lines, he, -⟩ := evaluateAlarm_eq s.overdrawn
  rw [takeOverdraw_eq, he]
  rfl

theorem overdrawShed_alarm (s : State) : (overdrawShed s).faults.alarm = alarmWanted (overdrawShed s) := by
  have hf : (overdrawShed s).faults = (evaluateAlarm s.overdrawn).faults := by
    refine (shed_ripple ..).faults.trans ?_
    rw [takeOverdraw_eq]
    rfl
  rw [alarmWanted_congr (s := evaluateAlarm s.overdrawn) hf, alarmWanted_evaluateAlarm, hf]
  obtain ⟨lines, he, -⟩ := evaluateAlarm_eq s.overdrawn
  rw [he]

end Sys2Proof.Machine

open Sys2Proof Sys2Proof.Machine

/-- Settles O31: SITE_OVERDRAW is taken, then the shed, then the timer stops. -/
theorem overdrawExpiryRecordsAndSheds : Obligations.OverdrawExpiryRecordsAndSheds := by
  intro s
  refine ⟨fun h => ?_, fun h => congrArg Host.Outcome.next (if_neg (by simp [h]))⟩
  have hflight : inFlight (takeOverdraw s) = inFlight s := by
    unfold inFlight
    rw [takeOverdraw_alloc]
  have hrequested : Requested (takeOverdraw s) (overdrawShed s) := shed_requested _ _ _
  have hstale : inFlight s = true → (overdrawShed s).alloc.stale = true := fun hs =>
    shed_stale .overdraw _ (hflight.trans hs)
  have halarm := overdrawShed_alarm s
  have hripple := overdrawShed_ripple s
  have henv := overdrawShed_env s
  have hwhole := overdrawShed_eq s
  have hexec : exec .overdrawTimerExpiry s =
      .next { overdrawShed s with env := (overdrawShed s).env.overdrawStopped } := congrArg Host.Outcome.next (if_pos h)
  generalize overdrawShed s = t at *
  refine ⟨_, ?ripple, hexec, ?requested, hstale, halarm, ?whole⟩
  case ripple =>
    rw [henv]
    exact hripple
  case requested => exact fun he => ⟨(hrequested he).1, fun hs => (hrequested he).2 (hflight.trans hs)⟩
  case whole =>
    rw [hwhole]
    rfl

end

section
/-! Orders that are refused: O25 and O26. -/

namespace Sys2Proof.Machine

/-- An order whose effect is a refusal is answered with it, and changes nothing else (R180). -/
theorem order_refused {i : Instr} (f : OrderFrame) (effect : State → State × List Byte) {s : State} {body : List Byte}
    (hx : exec i s = .next (takeOrder i effect s)) (hi : encodeOrder i = some f) (h : canTake s = true)
    (he : effect s = (s, body)) : exec i s = .next (s.replied f.tag (f.kind + 0x80) body) := by
  rw [order_next f effect hx hi h, he]

/-! ### The fields of PUT PLAN -/

/-- The byte of a plan kind is its code (Table 10-5). -/
theorem planKindOf_some {b : Byte} {k : PlanKind} (h : planKindOf b = some k) : b.toNat = k.code := by
  unfold planKindOf at h
  split at h <;> cases h <;> assumption

theorem PlanKind.code_le (k : PlanKind) : k.code ≤ 4 := by
  cases k <;> decide

theorem PlanKind.eq_exact {k : PlanKind} (h : k.code = 0) : k = .exact := by
  cases k with
  | exact => rfl
  | _ => cases h

theorem acceptedKind_none {f : PlanOrder} (h : 4 < f.kind.toNat ∨ (f.kind = 0 ∧ f.identity = 0) ∨
    1440 ≤ f.departure.toNat ∨ 999999 < f.target.toNat) : acceptedKind f = none := by
  by_contra hn
  obtain ⟨k, hk⟩ := Option.ne_none_iff_exists'.mp hn
  obtain ⟨hkind, hexact, hd, ht⟩ := (acceptedKind_iff f k).mp hk
  have hcode := planKindOf_some hkind
  rcases h with h | ⟨h, hi⟩ | h | h
  · have := k.code_le
    omega
  · exact hexact ⟨PlanKind.eq_exact (hcode.symm.trans ((byte_eq_zero_iff _).mp h)), hi⟩
  · omega
  · omega

theorem writePlan_range {e : Nat} {f : PlanOrder} (h : acceptedKind f = none) (s : State) :
    writePlan e f s = (s, .range) := by
  unfold writePlan
  rw [h]

/-- A CLAIMED entry is not written with another kind or identity (R40). -/
theorem writePlan_state {e : Nat} {f : PlanOrder} {k : PlanKind} {s : State} (hk : acceptedKind f = some k)
    (hs : (s.entry e).state = .claimed) (h : (s.entry e).kind ≠ k ∨ (s.entry e).identity ≠ f.identity) :
    writePlan e f s = (s, .state) := by
  unfold writePlan
  rw [hk]
  dsimp only
  rw [hs]
  exact if_neg fun hn => h.elim (absurd hn.1) (absurd hn.2)

/-! ### The fields of SET LINE -/

theorem lineFunctionOf_some {b : Byte} {x : LineFunction} (h : lineFunctionOf b = some x) : b.toNat ≤ 7 := by
  unfold lineFunctionOf at h
  split at h <;> cases h <;> omega

theorem lineEdgeOf_some {b : Byte} {x : LineEdge} (h : lineEdgeOf b = some x) : b.toNat ≤ 2 := by
  unfold lineEdgeOf at h
  split at h <;> cases h <;> omega

theorem lineDriveOf_some {b : Byte} {x : LineDrive} (h : lineDriveOf b = some x) : b.toNat ≤ 1 := by
  unfold lineDriveOf at h
  split at h <;> cases h <;> omega

theorem markerOf_some {b : Byte} {x : Bool} (h : markerOf b = some x) : b.toNat ≤ 1 := by
  unfold markerOf at h
  split at h <;> cases h <;> omega

/-- The settings that SET LINE accepts are those of R175. -/
theorem lineSettingsOf_some {o : LineOrder} {n : LineSettings} (h : lineSettingsOf o = some n) :
    o.function.toNat ≤ 7 ∧ o.invert.toNat ≤ 1 ∧ o.pullUp.toNat ≤ 1 ∧ o.edge.toNat ≤ 2 ∧ o.drive.toNat ≤ 1 ∧
      o.blink.toNat ≤ 1 ∧ o.outputLevel.toNat ≤ 1 := by
  unfold lineSettingsOf at h
  split at h
  · next hf hi hp he hd hb hl =>
    exact ⟨lineFunctionOf_some hf, markerOf_some hi, markerOf_some hp, lineEdgeOf_some he, lineDriveOf_some hd,
      markerOf_some hb, markerOf_some hl⟩
  · cases h

theorem effectSetLine_range {l : Byte} {o : LineOrder} {s : State} (h : validLine l.toNat = false ∨
    7 < o.function.toNat ∨ 1 < o.invert.toNat ∨ 1 < o.pullUp.toNat ∨ 2 < o.edge.toNat ∨ 1 < o.drive.toNat ∨
    1 < o.blink.toNat ∨ 1 < o.outputLevel.toNat) : effectSetLine l o s = (s, refusal .range lineWidth) := by
  unfold effectSetLine
  cases hn : lineSettingsOf o with
  | none => rfl
  | some n =>
    have hv : validLine l.toNat = false := h.resolve_right fun h => by
      obtain ⟨h1, h2, h3, h4, h5, h6, h7⟩ := lineSettingsOf_some hn
      omega
    exact if_pos (by simp [num, hv])

/-- One function of CURTAIL_A, CURTAIL_B and METER_PULSE stands at one line at most (R175). -/
theorem functionTaken_of_other {l k : Nat} {x : LineFunction} {s : State}
    (hx : x = .curtailA ∨ x = .curtailB ∨ x = .meterPulse) (hk : validLine k = true) (hkl : k ≠ l)
    (h : (s.line k).settings.function = x) : functionTaken s l x = true := by
  have he : x.exclusive = true := by rcases hx with rfl | rfl | rfl <;> rfl
  unfold functionTaken
  rw [he, Bool.true_and, List.any_eq_true]
  refine ⟨k, ?_, by simp [hkl, h]⟩
  have := validLine_iff.mp hk
  simp [allLines, List.mem_range'_1]
  omega

theorem effectSetLine_state {l : Byte} {o : LineOrder} {n : LineSettings} {s : State} (hl : validLine l.toNat = true)
    (hn : lineSettingsOf o = some n) (ht : functionTaken s l.toNat n.function = true) :
    effectSetLine l o s = (s, refusal .state lineWidth) := by
  unfold effectSetLine
  rw [hn]
  dsimp only
  rw [if_neg (by simp [num, hl])]
  exact if_pos ht

/-! ### The stop that stays (R168) -/

theorem stopLinesAsserted_le (s : State) : stopLinesAsserted s ≤ 8 := List.length_filter_le ..

theorem stopBytes_eq (s : State) : stopBytes s = [if s.faults.stopMinute.isSome then 1 else 0] ++
    enc16 (s.faults.stopMinute.getD 0) ++
      [if s.faults.stopMinute.isSome then 1 else 0, BitVec.ofNat 8 (stopLinesAsserted s)] := by
  have h8 := stopLinesAsserted_le s
  have hn : enc8 (stopLinesAsserted s) = [BitVec.ofNat 8 (stopLinesAsserted s)] := enc8_eq (by omega)
  unfold stopBytes
  rw [hn]
  cases s.faults.stopMinute <;> rfl

end Sys2Proof.Machine

open Sys2Proof Sys2Proof.Machine

/-- Settles O25: the range test of each order comes before all it does. -/
theorem ordersRefusedRange : Obligations.OrdersRefusedRange := by
  intro tag s hs
  refine ⟨fun m h => ?clock, fun h => ?siteCeiling, fun c v h => ⟨?cabinetCeiling, ?readCabinet, ?retrain⟩,
    fun b k a l n h => ?limitStep, fun b h => ?limitBank, fun e f h => ?putPlan,
    fun e h => ⟨?cursor, ?release, ?readPlan⟩, fun g m h => ?groupMask, fun f h => ?defaultPlan,
    fun b h => ⟨?readSession, ?suspend, ?resume⟩, fun x k h => ?clearFaults, fun l o h => ?setLine⟩
  case clock => exact order_refused ⟨tag, 0x01, be16 m⟩ (effectSetClock m) rfl rfl hs (if_pos h)
  case siteCeiling =>
    exact order_refused ⟨tag, 0x02, be16 0⟩ (effectSetSiteCeiling 0) rfl rfl hs
      ((if_neg (by simp [h])).trans (if_pos rfl))
  case cabinetCeiling =>
    exact order_refused ⟨tag, 0x03, [c] ++ be16 v⟩ (effectSetCabinetCeiling c v) rfl rfl hs (if_pos (by simp [num, h]))
  case readCabinet =>
    exact order_refused ⟨tag, 0x30, [c]⟩ (effectReadCabinet c) rfl rfl hs (if_neg (by simp [num, h]))
  case retrain => exact order_refused ⟨tag, 0x31, [c]⟩ (effectRetrain c) rfl rfl hs (if_pos (by simp [num, h]))
  case limitStep =>
    exact order_refused ⟨tag, 0x04, [b, k] ++ be16 a ++ be16 l ++ [n]⟩ (effectPutLimitStep b k a l n) rfl rfl hs
      (if_pos (by simp only [num, Bool.or_eq_true, decide_eq_true_eq]; omega))
  case limitBank => exact order_refused ⟨tag, 0x05, [b]⟩ (effectSelectLimitBank b) rfl rfl hs (if_pos h)
  case putPlan =>
    cases he : validEntry e.toNat with
    | false =>
      exact order_refused ⟨tag, 0x10, [e] ++ planOrderBytes f⟩ (effectPutPlan e f) rfl rfl hs
        (if_pos (by simp [num, he]))
    | true =>
      have hf := acceptedKind_none (h.resolve_left (by simp [he]))
      exact exec_putPlan_refused hs he (.inl rfl) (writePlan_range hf s)
  case cursor =>
    exact order_refused ⟨tag, 0x11, [e]⟩ (effectSetPlanCursor e) rfl rfl hs (if_neg (by simp [num, h]))
  case release => exact order_refused ⟨tag, 0x13, [e]⟩ (effectReleasePlan e) rfl rfl hs (if_neg (by simp [num, h]))
  case readPlan => exact order_refused ⟨tag, 0x14, [e]⟩ (effectReadPlan e) rfl rfl hs (if_neg (by simp [num, h]))
  case groupMask =>
    exact order_refused ⟨tag, 0x15, [g] ++ be24 m⟩ (effectSetGroupMask g m) rfl rfl hs
      (if_neg (by simp only [num, Bool.and_eq_true, decide_eq_true_eq]; omega))
  case defaultPlan =>
    refine order_refused ⟨tag, 0x16, defaultOrderBytes f⟩ (effectSetDefaultPlan f) rfl rfl hs (if_pos ?_)
    by_contra hb
    have := badTimes_eq_false_iff.mp (Bool.not_eq_true _ ▸ hb)
    omega
  case readSession => exact order_refused ⟨tag, 0x20, [b]⟩ (effectReadSession b) rfl rfl hs (if_neg (by simp [num, h]))
  case suspend => exact order_refused ⟨tag, 0x21, [b]⟩ (effectSuspendBay b) rfl rfl hs (if_pos (by simp [num, h]))
  case resume => exact order_refused ⟨tag, 0x22, [b]⟩ (effectResumeBay b) rfl rfl hs (if_pos (by simp [num, h]))
  case clearFaults =>
    have hv : ¬ validCab x.toNat = true := fun hv => by have := validCab_iff.mp hv; omega
    have h0 : x.toNat ≠ 0 := by omega
    exact order_refused ⟨tag, 0x35, [x, k]⟩ (effectClearFaults x k) rfl rfl hs ((if_neg h0).trans (if_neg hv))
  case setLine =>
    exact order_refused ⟨tag, 0x38, [l, o.function, o.invert, o.pullUp, o.edge, o.drive, o.blink, o.outputLevel]⟩
      (effectSetLine l o) rfl rfl hs (effectSetLine_range h)

/-- Settles O26: the test of the state comes after that of the range, and before all that the order does. -/
theorem ordersRefusedLockedOrState : Obligations.OrdersRefusedLockedOrState := by
  intro tag s hs
  refine ⟨fun v h => ?siteCeiling, fun c v hc h => ?cabinetCeiling, fun b k a l n hb hk1 hk2 ha hn h => ?limitStep,
    fun e f k he hk hc h => ?putPlan, fun b hb h => ⟨?suspend, ?resume⟩, fun h => ?reallocate, fun c hc h => ?retrain,
    fun h => ?resumeSite, fun l o n k hl hn hx hk hkl h => ?setLine⟩
  case siteCeiling =>
    exact order_refused ⟨tag, 0x02, be16 v⟩ (effectSetSiteCeiling v) rfl rfl hs
      (if_pos (Option.isSome_iff_ne_none.mpr h))
  case cabinetCeiling =>
    exact order_refused ⟨tag, 0x03, [c] ++ be16 v⟩ (effectSetCabinetCeiling c v) rfl rfl hs
      ((if_neg (by simp [num, hc])).trans (if_pos h))
  case limitStep =>
    have hb' : 1 ≤ b.toNat ∧ b.toNat ≤ 2 := by rcases hb with rfl | rfl <;> decide
    exact order_refused ⟨tag, 0x04, [b, k] ++ be16 a ++ be16 l ++ [n]⟩ (effectPutLimitStep b k a l n) rfl rfl hs
      ((if_neg (by simp only [num, Bool.or_eq_true, decide_eq_true_eq]; omega)).trans (if_pos h))
  case putPlan => exact exec_putPlan_refused hs he (.inr rfl) (writePlan_state hk hc h)
  case suspend =>
    exact order_refused ⟨tag, 0x21, [b]⟩ (effectSuspendBay b) rfl rfl hs
      ((if_neg (by simp [num, hb])).trans (if_pos (by simp [num, Session.isOpen, h])))
  case resume =>
    exact order_refused ⟨tag, 0x22, [b]⟩ (effectResumeBay b) rfl rfl hs
      ((if_neg (by simp [num, hb])).trans (if_pos (by simp [num, Session.isOpen, h])))
  case reallocate => exact order_refused ⟨tag, 0x28, []⟩ effectReallocate rfl rfl hs (if_neg (by simp [h]))
  case retrain =>
    exact order_refused ⟨tag, 0x31, [c]⟩ (effectRetrain c) rfl rfl hs
      ((if_neg (by simp [num, hc])).trans (if_pos h))
  case resumeSite =>
    rw [order_refused ⟨tag, 0x37, []⟩ effectResumeSite rfl rfl hs (if_pos (by simpa using h)), stopBytes_eq]
    rfl
  case setLine =>
    exact order_refused ⟨tag, 0x38, [l, o.function, o.invert, o.pullUp, o.edge, o.drive, o.blink, o.outputLevel]⟩
      (effectSetLine l o) rfl rfl hs (effectSetLine_state hl hn (functionTaken_of_other hx hk hkl h))

end

section
/-! The allocator's two orders and its period timer: O24 and O42. -/

namespace Sys2Proof.Machine

/-! ### The period (R77, R78) -/

/-- A restart, whatever the envelope then hands on, leaves the period (R102). -/
theorem applyRestart_period (s : State) : (applyRestart s).alloc.period = s.alloc.period := by
  obtain ⟨_, _, _, hu⟩ := (rebootBlocks_spec s).rest
  have hp : (rebootBlocks s).alloc.period = s.alloc.period := by rw [hu]
  rw [applyRestart_eq, ← hp]
  generalize rebootBlocks s = u
  obtain ⟨lines, he, -⟩ := evaluateAlarm_eq (restartEnvelope u)
  rw [he]
  exact (congrArg Allocator.period (recompute_ripple (recomputeBuilding (restartSettings u))).alloc).trans rfl

/-! ### Requests (R75, R79) -/

theorem requestPass_pending {s : State} (he : allocationEnabled s = true) (hf : inFlight s = true) :
    requestPass s = { s with alloc := { s.alloc with again := true } } := by
  unfold requestPass
  rw [if_pos he, if_pos hf]

theorem requestPass_starts {s : State} (he : allocationEnabled s = true) (hf : inFlight s = false) :
    requestPass s = startPass s := by
  unfold requestPass
  rw [if_pos he, if_neg (by simp [hf])]

theorem requestPass_disabled {s : State} (he : allocationEnabled s = false) : requestPass s = s := by
  unfold requestPass
  rw [if_neg (by simp [he])]

theorem effectReallocate_enabled {s : State} (he : allocationEnabled s = true) :
    effectReallocate s = (requestPass s, okBody (reallocateBytes (!inFlight s) (requestPass s))) := if_pos he

theorem allocationEnabled_iff (s : State) : allocationEnabled s = true ↔
    s.clock.setMarker = true ∧ s.env.siteCeiling.isSome = true ∧ s.faults.stopMinute = none := by
  simp [allocationEnabled, and_assoc]

theorem startPeriod_kept (s : State) : PassKept s (startPeriod s) := ⟨id, fun _ => id, fun _ => id, rfl⟩

/-! ### The snapshot (R79) -/

theorem snapBay_eq (x : Session) : snapBay x = {
    state := x.state, serial := x.serial
    unheld := !(x.holds.host || x.holds.fault || x.holds.link || x.holds.stop)
    countdown := x.countdown, target := x.plan.target, battery := x.battery, acceptance := x.acceptance
    windowOpen := x.windowOpen, power := x.plan.power, priority := x.plan.priority } := rfl

theorem takeSnapshot_bay {b : Nat} (hb : validBay b = true) (s : State) :
    (takeSnapshot s).bay b = snapBay (s.session b) :=
  get1_tabulate _ _ b (validBay_iff.mp hb).1 (validBay_iff.mp hb).2

theorem takeSnapshot_ceiling {c : Nat} (hc : validCab c = true) (s : State) :
    (takeSnapshot s).ceiling c = (s.ceiling c).steps :=
  get1_tabulate _ _ c (validCab_iff.mp hc).1 (validCab_iff.mp hc).2

theorem takeSnapshot_linkUp {c : Nat} (hc : validCab c = true) (s : State) :
    get1 (takeSnapshot s).linkUp false c = decide ((s.link c).state = .up) :=
  get1_tabulate _ _ c (validCab_iff.mp hc).1 (validCab_iff.mp hc).2

theorem takeSnapshot_healthy {c : Nat} (hc : validCab c = true) (s : State) :
    get1 (takeSnapshot s).healthy 0 c = healthyCount s c :=
  get1_tabulate _ _ c (validCab_iff.mp hc).1 (validCab_iff.mp hc).2

/-- The healthy states of Table 5-2. -/
theorem ModuleState.healthy_iff (x : ModuleState) : x.healthy = true ↔
    x = .free ∨ x = .closing ∨ x = .bonded ∨ x = .ramping ∨ x = .opening := by
  cases x <;> simp [ModuleState.healthy]

theorem healthyCount_eq (s : State) (c : Nat) : healthyCount s c =
    (allModules.filter fun m => (s.module c m).state = .free ∨ (s.module c m).state = .closing ∨
      (s.module c m).state = .bonded ∨ (s.module c m).state = .ramping ∨ (s.module c m).state = .opening).length := by
  unfold healthyCount
  congr 1
  refine List.filter_congr fun m _ => ?_
  rw [Bool.eq_iff_iff, decide_eq_true_eq]
  exact ModuleState.healthy_iff _

end Sys2Proof.Machine

open Sys2Proof Sys2Proof.Machine

/-- Settles O24: the order, the start of a pass, and what a restart leaves. -/
theorem setPeriodRestartsThePeriodTimer : Obligations.SetPeriodRestartsThePeriodTimer :=
  ⟨fun tag v _ hs => order_next ⟨tag, 0x29, be16 v⟩ (effectSetPeriod v) rfl rfl hs, fun _ => ⟨rfl, rfl⟩,
    fun s h => ⟨applyRestart s, congrArg Host.Outcome.next (if_pos h), applyRestart_period s⟩⟩

/-- Settles O42: a request with a pass in flight and without one, and the snapshot value by value. -/
theorem reallocateAndPeriodExpiryRequestAPass : Obligations.ReallocateAndPeriodExpiryRequestAPass := by
  refine ⟨fun tag s hs he => ?reallocate, fun s ht => ⟨startPeriod (requestPass s), ?expiry⟩,
    fun _ ht => congrArg Host.Outcome.next (if_neg (by simp [ht])), fun s => ⟨rfl, fun c hc => ?cabinet, fun b hb => ?bay⟩,
    allocationEnabled_iff⟩
  case reallocate =>
    dsimp only
    rw [order_next ⟨tag, 0x28, []⟩ effectReallocate rfl rfl hs, effectReallocate_enabled he]
    cases hf : inFlight s with
    | true =>
      have hf' : inFlight { s with alloc := { s.alloc with again := true } } = true := hf
      rw [requestPass_pending he hf]
      unfold reallocateBytes
      rw [hf']
      rfl
    | false =>
      rw [requestPass_starts he hf]
      rfl
  case expiry =>
    refine ⟨congrArg Host.Outcome.next (if_pos ht), ?_, (requestPass_requested s).kept (startPeriod_kept _),
      fun hf => ?_, fun hf he => ?_, fun he => ?_⟩
    · rcases requestPass_cases s with ⟨-, h⟩ | ⟨-, -, h⟩ | ⟨-, -, h⟩ <;> rw [h] <;> rfl
    · cases he : allocationEnabled s with
      | true => rw [requestPass_pending he hf]; exact ⟨rfl, rfl⟩
      | false => rw [requestPass_disabled he]; exact ⟨rfl, rfl⟩
    · rw [requestPass_starts he hf]
      rfl
    · rw [requestPass_disabled he]
      exact ⟨rfl, rfl⟩
  case cabinet =>
    rw [takeSnapshot_linkUp hc, decide_eq_true_eq, takeSnapshot_healthy hc]
    exact ⟨takeSnapshot_ceiling hc s, Iff.rfl, healthyCount_eq s c⟩
  case bay => exact (takeSnapshot_bay hb s).trans (snapBay_eq _)

end

section
/-! The computation of a pass: its quantities and its order rule by rule, and the resources that its grants leave: O44. -/

namespace Sys2Proof.Machine

/-! ### Division that rounds up (section 0.8) -/

theorem ceilDiv_le_iff {b : Nat} (hb : 0 < b) (a n : Nat) : ceilDiv a b ≤ n ↔ a ≤ b * n := by
  unfold ceilDiv
  rw [Nat.div_le_iff_le_mul_add_pred hb]
  omega

theorem ceilDiv_300 (n : Nat) : ceilDiv n 300 = (n + 299) / 300 := by
  unfold ceilDiv
  omega

/-! ### The quantities of a session (R81 to R84) -/

theorem Snapshot.inKeyOrder_iff (p : Snapshot) (b : Nat) : p.inKeyOrder b = true ↔
    ((p.bay b).state = .active ∨ (p.bay b).state = .satisfied) ∧ (p.bay b).unheld = true ∧
      get1 p.linkUp false (cabOf b) = true := by
  unfold Snapshot.inKeyOrder
  rw [Bool.and_eq_true, Bool.and_eq_true, SessionState.counts_iff, and_assoc]
  rfl

theorem Snapshot.inStageC_iff (p : Snapshot) (b : Nat) : p.inStageC b = true ↔
    (p.bay b).state = .overdue ∧ (p.bay b).unheld = true ∧ get1 p.linkUp false (cabOf b) = true ∧
      (p.bay b).battery < (p.bay b).target := by
  simp [Snapshot.inStageC, Snapshot.up, and_assoc]

/-- The need is the least power that brings the remaining energy within the minutes (R83). -/
theorem SnapBay.need_le_iff {x : SnapBay} (h : 0 < x.minutes) (n : Nat) :
    x.need ≤ n ↔ 3 * x.energy ≤ 5 * x.minutes * n := ceilDiv_le_iff (by omega) _ n

theorem Snapshot.slackOf_eq (p : Snapshot) (b : Nat) : p.slackOf b =
    (let c := p.chargeCap b (p.bay b).pre
      if (p.bay b).energy = 0 then ((p.bay b).minutes : Int) else if c = 0 then -1440
      else max (-1440) (((p.bay b).minutes : Int) - ((3 * (p.bay b).energy + 5 * c - 1) / (5 * c) : Nat))) := rfl

/-- The class as a number: a priority session comes first (R84). -/
def SnapBay.rank (x : SnapBay) : Nat := if x.priority then 0 else 1

theorem SnapBay.rank_lt_iff (x y : SnapBay) : x.rank < y.rank ↔ x.priority = true ∧ y.priority = false := by
  unfold SnapBay.rank
  cases x.priority <;> cases y.priority <;> simp

theorem SnapBay.rank_eq_iff (x y : SnapBay) : x.rank = y.rank ↔ x.priority = y.priority := by
  unfold SnapBay.rank
  cases x.priority <;> cases y.priority <;> simp

/-- The four keys of R84, one after another. -/
theorem Snapshot.before_iff (p : Snapshot) (a b : Nat) : p.before a b = true ↔
    (p.bay a).rank < (p.bay b).rank ∨ ((p.bay a).rank = (p.bay b).rank ∧
      (p.slackOf a < p.slackOf b ∨ (p.slackOf a = p.slackOf b ∧
        ((p.bay a).minutes < (p.bay b).minutes ∨ ((p.bay a).minutes = (p.bay b).minutes ∧ a < b))))) := by
  have hlt := SnapBay.rank_lt_iff (p.bay a) (p.bay b)
  have heq := SnapBay.rank_eq_iff (p.bay a) (p.bay b)
  unfold Snapshot.before
  split
  · next hp =>
    have hb : (p.bay b).priority = !(p.bay a).priority := Bool.eq_not.mpr (Ne.symm hp)
    rw [hlt, heq]
    simp [hb]
  · next hp =>
    have hr := heq.mpr (not_not.mp hp)
    split
    · rw [decide_eq_true_eq]
      omega
    · split <;> rw [decide_eq_true_eq] <;> omega

theorem Snapshot.before_trans {p : Snapshot} {a b c : Nat} (h : p.before a b = true) (k : p.before b c = true) :
    p.before a c = true := by
  rw [Snapshot.before_iff] at *
  omega

theorem Snapshot.before_total (p : Snapshot) {a b : Nat} (h : a ≠ b) : p.before a b = true ∨ p.before b a = true := by
  rw [Snapshot.before_iff, Snapshot.before_iff]
  omega

/-! ### The order (R84, R91) -/

/-- A bay takes its place by the keys (R84). -/
theorem Snapshot.insert_pairwise {p : Snapshot} {a : Nat} {l : List Nat}
    (hl : l.Pairwise fun x y => p.before x y = true) (ha : a ∉ l) :
    (p.insert a l).Pairwise fun x y => p.before x y = true := by
  induction l with
  | nil => exact List.pairwise_singleton ..
  | cons b l ih =>
    obtain ⟨hb, hl'⟩ := List.pairwise_cons.mp hl
    obtain ⟨hab, hal⟩ := List.ne_and_not_mem_of_not_mem_cons ha
    unfold Snapshot.insert
    split
    · next h =>
      refine List.pairwise_cons.mpr ⟨fun c hc => ?_, hl⟩
      rcases List.mem_cons.mp hc with rfl | hc
      · exact h
      · exact Snapshot.before_trans h (hb c hc)
    · next h =>
      refine List.pairwise_cons.mpr ⟨fun c hc => ?_, ih hl' hal⟩
      rcases List.mem_cons.mp ((p.insert_perm a l).mem_iff.mp hc) with rfl | hc
      · exact (p.before_total hab).resolve_left h
      · exact hb c hc

theorem Snapshot.foldr_insert_perm (p : Snapshot) (l : List Nat) : (l.foldr p.insert []).Perm l := by
  induction l with
  | nil => exact .refl _
  | cons b l ih => exact (p.insert_perm b _).trans (ih.cons b)

theorem Snapshot.keyOrder_pairwise (p : Snapshot) : p.keyOrder.Pairwise fun a b => p.before a b = true := by
  unfold Snapshot.keyOrder
  have hn : (allBays.filter p.inKeyOrder).Nodup := allBays_nodup.filter _
  generalize allBays.filter p.inKeyOrder = l at hn ⊢
  induction l with
  | nil => exact .nil
  | cons b l ih =>
    obtain ⟨hb, hl⟩ := List.nodup_cons.mp hn
    exact Snapshot.insert_pairwise (ih hl) fun h => hb ((p.foldr_insert_perm l).mem_iff.mp h)

theorem Snapshot.stageC_pairwise (p : Snapshot) : p.stageC.Pairwise (· < ·) :=
  (List.pairwise_lt_range' (n := 48) (s := 1)).filter _

/-- The serving order: the key order, then stage C (R92). -/
theorem passResult_mem_order (p : Snapshot) (b : Nat) : b ∈ (passResult p).order ↔
    validBay b = true ∧ (p.inKeyOrder b = true ∨ p.inStageC b = true) := by
  refine List.mem_append.trans ?_
  rw [p.mem_keyOrder, p.mem_stageC, and_or_left]

/-! ### The resources that remain (R85 to R87) -/

/-- The site, the cabinet and the modules of bay `b` carry an increment of `y` (R86). -/
structure Work.Carries (w : Work) (b y : Nat) : Prop where
  site     : y ≤ w.site
  room     : y ≤ w.room b
  headroom : y ≤ w.headroom b

theorem Work.increment_carried (w : Work) (b x : Nat) : w.Carries b (w.increment b x) := by
  unfold Work.increment
  exact ⟨by omega, by omega, by omega⟩

/-- The minimum rule gives 20 steps only where they are carried (R87). -/
theorem Work.adjusted_carried {w : Work} {b y : Nat} (h : w.Carries b y) (k : Nat) :
    w.Carries b (w.adjusted b k y) := by
  unfold Work.adjusted
  split
  · split
    · next hk =>
      simp only [Bool.and_eq_true, decide_eq_true_eq] at hk
      obtain ⟨⟨⟨hs, hr⟩, hh⟩, -⟩ := hk
      exact ⟨hs, hr, hh⟩
    · exact ⟨Nat.zero_le _, Nat.zero_le _, Nat.zero_le _⟩
  · exact h

/-- The working grants together with what remains are no more than the snapshot's resources. -/
structure Work.Afforded (p : Snapshot) (w : Work) : Prop where
  site    : (allBays.map w.grant).sum + w.site ≤ p.available
  cabinet : ∀ c, validCab c = true → ((baysOf c).map w.grant).sum + get1 w.cabinet 0 c ≤ p.ceiling c
  modules : ∀ c, validCab c = true →
              ((baysOf c).map fun b => targetCount (w.grant b)).sum + get1 w.free 0 c ≤ get1 p.healthy 0 c

theorem Work.give_grant {w : Work} {a : Nat} (ha : validBay a = true) (y b : Nat) :
    (w.give a y).grant b = if b = a then w.grant a + y else w.grant b := by
  have h := congrArg Prod.fst (w.give_at a y b)
  unfold Work.at at h
  simp only [ha, and_true, eq_comm (a := a)] at h
  rw [h]
  split <;> rfl

theorem baysOf_nodup (c : Nat) : (baysOf c).Nodup := by
  unfold baysOf bayAt
  exact List.Nodup.map (fun i j (h : 6 * (c - 1) + i = 6 * (c - 1) + j) => by omega) (by decide)

theorem Work.Afforded.give {p : Snapshot} {w : Work} (h : w.Afforded p) {b y : Nat} (hb : validBay b = true)
    (hy : w.Carries b y) : (w.give b y).Afforded p := by
  obtain ⟨hsite, hroom, hhead⟩ := hy
  have hg := Work.give_grant (w := w) hb y
  have hother : ∀ j, j ≠ b → (w.give b y).grant j = w.grant j := fun j hj => by rw [hg, if_neg hj]
  have hself : (w.give b y).grant b = w.grant b + y := by rw [hg, if_pos rfl]
  have hcab := cabOf_valid hb
  have hmem := (mem_baysOf hcab).mpr ⟨hb, rfl⟩
  have elsewhere : ∀ c, validCab c = true → c ≠ cabOf b → ∀ j ∈ baysOf c, (w.give b y).grant j = w.grant j :=
    fun c hc hcb j hj => hother j fun e => hcb (e ▸ ((mem_baysOf hc).mp hj).2.symm)
  refine ⟨?site, fun c hc => ?cabinet, fun c hc => ?modules⟩
  case site =>
    have hs := sum_update_le allBays_nodup (f := w.grant) (g := (w.give b y).grant) hother (.inl (mem_allBays.mpr hb))
    have := h.site
    rw [hself] at hs
    change _ + (w.site - y) ≤ _
    omega
  case cabinet =>
    have hr : get1 (w.give b y).cabinet 0 c = if cabOf b = c ∧ 1 ≤ cabOf b ∧ cabOf b ≤ 8 then w.room b - y
        else get1 w.cabinet 0 c := get1_set1 ..
    have hc' := h.cabinet c hc
    by_cases hcb : c = cabOf b
    · subst hcb
      have hs := sum_update_le (baysOf_nodup (cabOf b)) (f := w.grant) (g := (w.give b y).grant) hother (.inl hmem)
      rw [hself] at hs
      rw [hr, if_pos ⟨rfl, validCab_iff.mp hcab⟩]
      unfold Work.room at hroom ⊢
      omega
    · rw [hr, if_neg fun e => hcb e.1.symm, List.map_congr_left (elsewhere c hc hcb)]
      exact hc'
  case modules =>
    have hr : get1 (w.give b y).free 0 c = if cabOf b = c ∧ 1 ≤ cabOf b ∧ cabOf b ≤ 8
        then w.modules b - (ceilDiv (w.grant b + y) 300 - ceilDiv (w.grant b) 300)
        else get1 w.free 0 c := get1_set1 ..
    have hc' := h.modules c hc
    by_cases hcb : c = cabOf b
    · subst hcb
      have hs := sum_update_le (baysOf_nodup (cabOf b)) (f := fun j => targetCount (w.grant j))
        (g := fun j => targetCount ((w.give b y).grant j)) (fun j hj => by rw [hother j hj]) (.inl hmem)
      rw [hself] at hs
      rw [hr, if_pos ⟨rfl, validCab_iff.mp hcab⟩]
      unfold Work.headroom Work.modules at hhead
      unfold targetCount at hs hc' ⊢
      unfold Work.modules
      simp only [ceilDiv_300] at hs hc' hhead ⊢
      omega
    · rw [hr, if_neg fun e => hcb e.1.symm, List.map_congr_left fun j hj => by rw [elsewhere c hc hcb j hj]]
      exact hc'

theorem Work.Afforded.ask {p : Snapshot} {w : Work} (h : w.Afforded p) {b : Nat} (hb : validBay b = true) (k x : Nat) :
    (w.ask b k x).Afforded p := h.give hb (Work.adjusted_carried (w.increment_carried b x) k)

theorem Work.start_afforded (p : Snapshot) : (Work.start p).Afforded p := by
  have hg : ∀ b, (Work.start p).grant b = 0 := fun b => congrArg Prod.fst (Work.start_at p b)
  have hif : ∀ (v : Bool) (n : Nat), (if v then n else 0) ≤ n := fun v n => by cases v <;> simp
  refine ⟨?_, fun c hc => ?_, fun c hc => ?_⟩
  · rw [bays_sum_eq_zero hg, Nat.zero_add]
    exact Nat.le_refl _
  · have hr : get1 (Work.start p).cabinet 0 c = if get1 p.linkUp false c then p.ceiling c else 0 :=
      get1_tabulate _ _ c (validCab_iff.mp hc).1 (validCab_iff.mp hc).2
    rw [hr, List.map_congr_left fun b _ => hg b]
    simpa using hif _ _
  · have hr : get1 (Work.start p).free 0 c = if get1 p.linkUp false c then get1 p.healthy 0 c else 0 :=
      get1_tabulate _ _ c (validCab_iff.mp hc).1 (validCab_iff.mp hc).2
    rw [hr, List.map_congr_left fun b _ => congrArg targetCount (hg b)]
    simpa [targetCount, ceilDiv] using hif _ _

/-! ### The stages (R88 to R91) -/

section
variable {p : Snapshot} {w : Work} {b : Nat}

theorem stage0_afforded (h : w.Afforded p) (hb : validBay b = true) : (stage0 p w b).Afforded p := by
  have hc := w.increment_carried b (p.bay b).pre
  unfold stage0
  dsimp only
  split
  · exact h
  · split
    · next hx =>
      have hg := h.give hb (hx ▸ hc)
      exact ⟨hg.site, hg.cabinet, hg.modules⟩
    · exact ⟨h.site, h.cabinet, h.modules⟩

theorem stageA_afforded (h : w.Afforded p) (hb : validBay b = true) : (stageA p w b).Afforded p := by
  unfold stageA
  dsimp only
  split
  · exact h
  · exact h.ask hb ..

theorem stageB_afforded (h : w.Afforded p) (hb : validBay b = true) : (stageB p w b).Afforded p := by
  unfold stageB
  dsimp only
  split
  · exact h
  · exact h.ask hb ..

theorem stageCStep_afforded (h : w.Afforded p) (hb : validBay b = true) : (stageCStep p w b).Afforded p := h.ask hb ..

end

/-- A stage that keeps within the resources at each bay keeps within them to its end. -/
theorem Work.Afforded.foldl {p : Snapshot} {f : Work → Nat → Work}
    (hf : ∀ {w b}, w.Afforded p → validBay b = true → (f w b).Afforded p) {l : List Nat}
    (hl : ∀ b ∈ l, validBay b = true) {w : Work} (h : w.Afforded p) : (l.foldl f w).Afforded p := by
  induction l generalizing w with
  | nil => exact h
  | cons b l ih => exact ih (fun j hj => hl j (List.mem_cons_of_mem b hj)) (hf h (hl b List.mem_cons_self))

/-- The grants of a result are within the resources of its snapshot. -/
theorem runStages_afforded (p : Snapshot) : (runStages p).Afforded p := by
  have hk : ∀ b ∈ p.keyOrder, validBay b = true := fun b hb => ((p.mem_keyOrder b).mp hb).1
  have h0 := (Work.start_afforded p).foldl stage0_afforded hk
  have hA := h0.foldl stageA_afforded hk
  have hB := hA.foldl stageB_afforded hk
  exact hB.foldl stageCStep_afforded fun b hb => ((p.mem_stageC b).mp hb).1

/-- The increment given for `x` steps asked, by the minimum rule (R86, R87). -/
theorem Work.adjusted_eq (w : Work) (b k y : Nat) : w.adjusted b k y =
    if w.grant b = 0 ∧ 1 ≤ y ∧ y < 20 then
      (if 20 ≤ w.site ∧ 20 ≤ w.room b ∧ 20 ≤ w.headroom b ∧ 20 ≤ k then 20 else 0) else y := by
  simp only [Work.adjusted, Bool.and_eq_true, decide_eq_true_eq, and_assoc]

/-- The charge part of an ACTIVE bay's grant is short of its need (R92). -/
theorem passResult_short {p : Snapshot} {b : Nat} (hb : validBay b = true) :
    get1 (passResult p).short false b = true ↔ (p.bay b).state = .active ∧ p.inKeyOrder b = true ∧
      (runStages p).grant b - get1 (runStages p).received 0 b < (p.bay b).need := by
  have h : get1 (passResult p).short false b = ((p.bay b).state = .active && p.inKeyOrder b &&
      decide ((runStages p).charge b < (p.bay b).need)) :=
    get1_tabulate _ _ b (validBay_iff.mp hb).1 (validBay_iff.mp hb).2
  rw [h, Bool.and_eq_true, Bool.and_eq_true, decide_eq_true_eq, decide_eq_true_eq, and_assoc]
  rfl

end Sys2Proof.Machine

open Sys2Proof Sys2Proof.Machine

/-- Settles O44: what the working grants take never exceeds the resources, stage by stage. -/
theorem passResultStaysWithinItsResources : Obligations.PassResultStaysWithinItsResources := by
  intro p hp
  have hw := runStages_afforded p
  have hg := passResult_grant p hp
  refine ⟨rfl, Nat.le_trans (Nat.le_add_right ..) hw.site, fun c hc => ⟨?_, ?_⟩, fun b => (hg b).1,
    fun b hb => not_not.mp fun hn => hb ((hg b).2 hn), (passResult_order p).nodup, passResult_mem_order p,
    p.keyOrder_pairwise, p.stageC_pairwise, fun b => ?quantities, fun a b => ?keys, fun w b hb => ?stages,
    rfl, fun b hb => ⟨rfl, rfl, passResult_short hb⟩⟩
  · exact Nat.le_trans (Nat.le_add_right ..) (hw.cabinet c hc)
  · exact Nat.le_trans (Nat.le_add_right ..) (hw.modules c hc)
  case quantities =>
    exact ⟨p.inKeyOrder_iff b, p.inStageC_iff b, rfl, rfl, rfl, fun q => ⟨rfl, rfl⟩,
      fun h => ⟨(SnapBay.need_le_iff h _).mp (Nat.le_refl _), fun n => (SnapBay.need_le_iff h n).mpr⟩, p.slackOf_eq b⟩
  case keys => rw [p.before_iff, SnapBay.rank_lt_iff, SnapBay.rank_eq_iff]
  case stages =>
    refine ⟨fun n => rfl, rfl, ?_, ?_, ?_⟩
    · unfold stageA Work.ask
      simp only [Work.adjusted_eq]
      rfl
    · unfold stageB Work.ask
      simp only [Work.adjusted_eq]
      rfl
    · unfold stageCStep Work.ask
      simp only [Work.adjusted_eq]
      rfl

end

section
/-! The walk of a shed, bay by bay, what it hands to the bond controller, and what a lowered grant does there: O28. -/

namespace Sys2Proof.Machine

/-! ### Sums along a walk -/

/-- What the bays of a list give up between `s` and `r`: the setpoints less the new grants (R98). -/
def gaveUp (s r : State) (l : List Nat) : Int :=
  (l.map fun b => ((s.power b).commanded : Int) - (r.session b).grant).sum

theorem gaveUp_reverse (s r : State) (l : List Nat) : gaveUp s r l.reverse = gaveUp s r l := by
  unfold gaveUp
  rw [List.map_reverse, List.sum_reverse]

theorem gaveUp_cons (s r : State) (b : Nat) (l : List Nat) :
    gaveUp s r (b :: l) = ((s.power b).commanded : Int) - (r.session b).grant + gaveUp s r l := by
  simp [gaveUp]

/-- The falls of the setpoints between `s` and `r` (R99). -/
def fallen (s r : State) (l : List Nat) : Nat := (l.map fun b => (s.power b).commanded - (r.session b).grant).sum

theorem fallen_cons (s r : State) (b : Nat) (l : List Nat) :
    fallen s r (b :: l) = (s.power b).commanded - (r.session b).grant + fallen s r l := by
  simp [fallen]

/-- Different bays have no more together than all 48. -/
theorem sum_le_bays_sum {l : List Nat} (hn : l.Nodup) (hv : ∀ b ∈ l, validBay b = true) (f : Nat → Nat) :
    (l.map f).sum ≤ (allBays.map f).sum := by
  obtain ⟨m, hp, hs⟩ := hn.subperm fun b hb => mem_allBays.mpr (hv b hb)
  rw [← (hp.map f).sum_eq]
  exact (hs.map f).sum_le_sum fun _ _ => Nat.zero_le _

/-- What bays give up is within their setpoints. -/
theorem gaveUp_le (s r : State) (l : List Nat) : gaveUp s r l ≤ ((l.map fun b => (s.power b).commanded).sum : Nat) := by
  induction l with
  | nil => exact Int.le_refl 0
  | cons b l ih =>
    rw [gaveUp_cons, List.map_cons, List.sum_cons]
    omega

/-! ### The walk (R97, R98) -/

theorem visit_session (w : ShedWalk) {b j : Nat} (h : j ≠ b) : (w.visit b).state.session j = w.state.session j := by
  unfold ShedWalk.visit writeGrant
  dsimp only
  split
  · rfl
  · rw [session_putSession, if_neg fun e => h e.1.symm]

/-- A walk from `w` to `r` that visited the bays of `seen`, in that order, and left those of `left`. -/
structure Visited (cause : ShedCause) (seen left : List Nat) (w r : ShedWalk) : Prop where
  others  : ∀ b, b ∉ seen → r.state.session b = w.state.session b
  stop    : cause = .stop → left = []
  met     : left ≠ [] → r.deficit ≤ 0
  deficit : r.deficit = w.deficit - gaveUp w.state r.state seen
  shed    : r.shed = w.shed + fallen w.state r.state seen
  changed : r.changed = w.changed ++
              seen.filter fun b => (w.state.session b).grant ≠ (r.state.session b).grant
  each    : ∀ pre b post, seen = pre ++ b :: post →
              (cause ≠ .stop → 0 < w.deficit - gaveUp w.state r.state pre) ∧
              (r.state.session b).grant = shedGrant (w.state.session b).grant (w.state.power b).commanded
                (w.deficit - gaveUp w.state r.state pre)

theorem Visited.none {cause : ShedCause} {l : List Nat} (w : ShedWalk) (hl : cause = .stop → l = [])
    (hm : l ≠ [] → w.deficit ≤ 0) : Visited cause [] l w w where
  others _ _ := rfl
  stop := hl
  met := hm
  deficit := (Int.sub_zero _).symm
  shed := rfl
  changed := (List.append_nil _).symm
  each pre b post h := by simp at h

/-- The first visit, and then the rest of the walk. -/
theorem Visited.cons {cause : ShedCause} {b : Nat} {seen left : List Nat} {w r : ShedWalk} (hb : validBay b = true)
    (hn : b ∉ seen) (hd : ¬ (cause ≠ .stop ∧ w.deficit ≤ 0)) (h : Visited cause seen left (w.visit b) r) :
    Visited cause (b :: seen) left w r := by
  have hp : ∀ j, (w.visit b).state.power j = w.state.power j := fun j => (visit_power w b j).1
  have hg : (r.state.session b).grant =
      shedGrant (w.state.session b).grant (w.state.power b).commanded w.deficit := by
    rw [h.others b hn, visit_grant w hb, if_pos rfl]
  have hgave : ∀ l, gaveUp (w.visit b).state r.state l = gaveUp w.state r.state l := fun l => by
    unfold gaveUp; simp only [hp]
  have hfell : ∀ l, fallen (w.visit b).state r.state l = fallen w.state r.state l := fun l => by
    unfold fallen; simp only [hp]
  have hdef : (w.visit b).deficit = w.deficit - (((w.state.power b).commanded : Int) - (r.state.session b).grant) := by
    rw [hg]; rfl
  have hshed : (w.visit b).shed = w.shed + ((w.state.power b).commanded - (r.state.session b).grant) := by
    rw [hg]; rfl
  refine ⟨fun j hj => ?others, h.stop, h.met, ?deficit, ?shed, ?changed, fun pre j post hs => ?each⟩
  case others =>
    obtain ⟨hjb, hjs⟩ := List.ne_and_not_mem_of_not_mem_cons hj
    rw [h.others j hjs, visit_session w hjb]
  case deficit =>
    rw [h.deficit, hgave, hdef, gaveUp_cons]
    omega
  case shed =>
    rw [h.shed, hfell, hshed, fallen_cons, Nat.add_assoc]
  case changed =>
    have hfilter : seen.filter (fun j => ((w.visit b).state.session j).grant ≠ (r.state.session j).grant) =
        seen.filter fun j => (w.state.session j).grant ≠ (r.state.session j).grant :=
      List.filter_congr fun j hj => by rw [visit_session w fun e : j = b => hn (e ▸ hj)]
    rw [h.changed, hfilter, List.filter_cons]
    have hv : (w.visit b).changed = if (r.state.session b).grant = (w.state.session b).grant then w.changed
        else w.changed ++ [b] := by rw [hg]; rfl
    rw [hv]
    by_cases he : (r.state.session b).grant = (w.state.session b).grant
    · rw [if_pos he, if_neg (by simp [he])]
    · rw [if_neg he, if_pos (by simpa using Ne.symm he), List.append_assoc]
      rfl
  case each =>
    cases pre with
    | nil =>
      obtain ⟨rfl, -⟩ := List.cons.inj hs
      have h0 : w.deficit - gaveUp w.state r.state [] = w.deficit := Int.sub_zero _
      rw [h0]
      exact ⟨fun hc => by by_contra hle; exact hd ⟨hc, by omega⟩, hg⟩
    | cons a pre =>
      obtain ⟨rfl, hseen⟩ := List.cons.inj hs
      change seen = pre ++ j :: post at hseen
      have hjb : j ≠ b := fun e => hn (by rw [hseen, e]; simp)
      have := h.each pre j post hseen
      have he : (w.visit b).deficit - gaveUp (w.visit b).state r.state pre =
          w.deficit - gaveUp w.state r.state (b :: pre) := by
        rw [hgave, hdef, gaveUp_cons]
        omega
      rwa [he, hp, visit_session w hjb] at this

/-- The walk visits bays from the front of its list until the deficit is met, or all of them for STOP (R98). -/
theorem shedWalk_visited (cause : ShedCause) {l : List Nat} (hn : l.Nodup) (hv : ∀ b ∈ l, validBay b = true)
    (w : ShedWalk) : ∃ seen left, l = seen ++ left ∧ Visited cause seen left w (shedWalk cause l w) := by
  induction l generalizing w with
  | nil => exact ⟨[], [], rfl, .none w (fun _ => rfl) fun h => absurd rfl h⟩
  | cons b l ih =>
    obtain ⟨hb, hl⟩ := List.nodup_cons.mp hn
    unfold shedWalk
    split
    · next hd => exact ⟨[], b :: l, rfl, .none w (fun h => absurd h hd.1) fun _ => hd.2⟩
    · next hd =>
      obtain ⟨seen, left, rfl, h⟩ := ih hl (fun j hj => hv j (List.mem_cons_of_mem b hj)) (w.visit b)
      exact ⟨b :: seen, left, rfl,
        h.cons (hv b List.mem_cons_self) (fun hs => hb (List.mem_append_left _ hs)) hd⟩

/-! ### What a shed hands on (R99) -/

theorem shedWalked_eq (cause : ShedCause) (target : Int) (s : State) : (shedWalked cause target s).state =
    { s with sessions := (shedWalked cause target s).state.sessions } := shedWalk_keeps ..

theorem shed_power (cause : ShedCause) (target : Int) (s : State) :
    PowerAs (shedTold cause target s) (shed cause target s) := by
  obtain ⟨body, h⟩ := shed_eq cause target s
  rw [h]
  exact ((markStale_quiet _).trans ((notify_quiet ..).trans (requestPass_quiet _))).power

/-- The grants after a shed are those that its walk wrote. -/
theorem shed_sessions (cause : ShedCause) (target : Int) (s : State) :
    (shed cause target s).sessions = (shedWalked cause target s).state.sessions := by
  rw [(shed_power cause target s).sessions]
  unfold shedTold
  rw [lowerGrants_keeps]
  rfl

theorem shed_session (cause : ShedCause) (target : Int) (s : State) (b : Nat) :
    (shed cause target s).session b = (shedWalked cause target s).state.session b :=
  congrArg (fun v => get1 v (Session.vacant 0) b) (shed_sessions cause target s)

/-- The SHED notice (R99). -/
theorem shed_notice (cause : ShedCause) (target : Int) (s : State) : (shed cause target s).order =
    noticed [(.shed, enc8 cause.code ++ enc16 (shedWalked cause target s).shed ++
      enc16 (commandedSum (shed cause target s)) ++ enc8 (shedWalked cause target s).changed.length)] s.order := by
  have hsum : commandedSum (shed cause target s) = commandedSum (markStale (shedTold cause target s)) := by
    unfold commandedSum State.power
    rw [(shed_power cause target s).bond, (markStale_quiet _).power.bond]
  have h : shed cause target s = requestPass (notify .shed (enc8 cause.code ++ enc16 (shedWalked cause target s).shed ++
      enc16 (commandedSum (markStale (shedTold cause target s))) ++ enc8 (shedWalked cause target s).changed.length)
      (markStale (shedTold cause target s))) := rfl
  rw [hsum]
  conv_lhs => rw [h, requestPass_order, notify_eq, markStale_order, (shedTold_keeps cause target s).2]

/-- The walk of a shed from the end of the last order, in terms of the state after the shed. -/
structure ShedOver (cause : ShedCause) (target : Int) (rest visited : List Nat) (s r : State) : Prop where
  order   : s.alloc.lastOrder = rest ++ visited
  others  : ∀ b, b ∉ visited → r.session b = s.session b
  stop    : cause = .stop → rest = []
  met     : rest ≠ [] → (commandedSum s : Int) - target - gaveUp s r visited ≤ 0
  shed    : (shedWalked cause target s).shed = fallen s r visited
  changed : (shedWalked cause target s).changed =
              visited.reverse.filter fun b => (s.session b).grant ≠ (r.session b).grant
  each    : ∀ pre b post, visited = pre ++ b :: post →
              (cause ≠ .stop → 0 < (commandedSum s : Int) - target - gaveUp s r post) ∧
              (r.session b).grant = shedGrant (s.session b).grant (s.power b).commanded
                ((commandedSum s : Int) - target - gaveUp s r post)

theorem shed_over (cause : ShedCause) (target : Int) {s : State} (hn : s.alloc.lastOrder.Nodup)
    (hv : ∀ b ∈ s.alloc.lastOrder, validBay b = true) :
    ∃ rest visited, ShedOver cause target rest visited s (shed cause target s) := by
  obtain ⟨seen, left, hl, h⟩ : ∃ seen left, s.alloc.lastOrder.reverse = seen ++ left ∧
      Visited cause seen left ⟨s, (commandedSum s : Int) - target, 0, []⟩ (shedWalked cause target s) :=
    shedWalk_visited cause (List.nodup_reverse.mpr hn) (fun b hb => hv b (List.mem_reverse.mp hb)) _
  have hg : ∀ l, gaveUp s (shedWalked cause target s).state l = gaveUp s (shed cause target s) l := fun l => by
    unfold gaveUp; simp only [shed_session]
  refine ⟨left.reverse, seen.reverse, ?_, fun b hb => ?_, fun hc => ?_, fun hne => ?_, ?_, ?_, fun pre b post hs => ?_⟩
  · rw [← List.reverse_append, ← hl, List.reverse_reverse]
  · rw [shed_session]
    exact h.others b fun hs => hb (List.mem_reverse.mpr hs)
  · rw [h.stop hc]
    rfl
  · have := h.met fun e => hne (by rw [e]; rfl)
    rw [h.deficit, hg] at this
    rwa [gaveUp_reverse]
  · rw [h.shed, Nat.zero_add]
    unfold fallen
    rw [List.map_reverse, List.sum_reverse]
    simp only [shed_session]
  · rw [h.changed, List.reverse_reverse, List.nil_append]
    simp only [shed_session]
  · have he := h.each post.reverse b pre.reverse (by rw [← List.reverse_reverse seen, hs]; simp)
    rw [hg, gaveUp_reverse] at he
    rwa [shed_session]

/-- The bays that a shed lowers are those that its walk changed. -/
theorem ShedOver.lowered_length {cause : ShedCause} {target : Int} {rest visited : List Nat} {s r : State}
    (h : ShedOver cause target rest visited s r) (hn : s.alloc.lastOrder.Nodup)
    (hv : ∀ b ∈ s.alloc.lastOrder, validBay b = true) :
    (lowered s r).length = (shedWalked cause target s).changed.length := by
  rw [h.order] at hn hv
  have hvis : visited.reverse.Nodup := List.nodup_reverse.mpr (List.nodup_append.mp hn).2.1
  rw [h.changed]
  refine List.Perm.length_eq ((List.perm_ext_iff_of_nodup (allBays_nodup.filter _) (hvis.filter _)).mpr fun b => ?_)
  rw [List.mem_filter, List.mem_filter, mem_allBays, List.mem_reverse, and_congr_left_iff, decide_eq_true_eq]
  refine fun hb => ⟨fun _ => ?_, fun hm => hv b (List.mem_append_right _ hm)⟩
  by_contra hm
  exact hb (by rw [h.others b hm])

/-- A bay whose setpoint is not above the deficit left has a new grant of 0 (R98). -/
theorem shedGrant_zero {g c : Nat} {d : Int} (h : (c : Int) ≤ d) : shedGrant g c d = 0 := by
  unfold shedGrant
  dsimp only
  split <;> omega

/-- At each bay of a STOP shed the deficit left is the bay's setpoint at least. -/
theorem shed_stop_grant {s : State} (hn : s.alloc.lastOrder.Nodup) (hv : ∀ b ∈ s.alloc.lastOrder, validBay b = true)
    {b : Nat} (hb : b ∈ s.alloc.lastOrder) : ((shed .stop 0 s).session b).grant = 0 := by
  obtain ⟨rest, visited, h⟩ := shed_over .stop 0 hn hv
  obtain rfl := h.stop rfl
  rw [h.order] at hb hn hv
  obtain ⟨pre, post, rfl⟩ := List.append_of_mem hb
  rw [(h.each pre b post rfl).2]
  refine shedGrant_zero ?_
  have hsub : (b :: post).Sublist ([] ++ (pre ++ b :: post)) := List.sublist_append_right _ _
  have hsum := sum_le_bays_sum (hn.sublist hsub) (fun j hj => hv j (hsub.subset hj)) fun j => (s.power j).commanded
  have hgave := gaveUp_le s (shed .stop 0 s) post
  rw [List.map_cons, List.sum_cons] at hsum
  change _ ≤ commandedSum s at hsum
  omega

/-! ### A lowered grant at the bond controller (R110) -/

theorem putPower_putPower (b : Nat) (x y : BayPower) (s : State) : putPower b y (putPower b x s) = putPower b y s := by
  unfold putPower
  dsimp only
  rw [set1_set1]

/-- A reduction at an UP link: the setpoint, its SETPOINT, and the ramp timer (R106, R113). -/
theorem reduce_up {b : Nat} (hb : validBay b = true) {s : State} (hu : (s.link (cabOf b)).state = .up) (v : Nat) :
    reduce b v s = putLink (cabOf b) ((s.link (cabOf b)).hand (.setpoint (posOf b) v))
      (putPower b ⟨v, (s.power b).reported, some 5000⟩ s) := by
  have hs : sendSetpoint b v s = putLink (cabOf b) ((s.link (cabOf b)).hand (.setpoint (posOf b) v))
      (putPower b { s.power b with commanded := v } s) := if_pos hu
  unfold reduce
  dsimp only
  rw [hs, putLink_at_power, power_putPower, if_pos ⟨rfl, validBay_iff.mp hb⟩]
  exact congrArg (putLink _ _) (putPower_putPower ..)

theorem modulesOf_eq (s : State) (b : Nat) (st : ModuleState) : modulesOf s b st =
    allModules.filter fun m => (s.module (cabOf b) m).state = st ∧ (s.module (cabOf b) m).bay = some b :=
  List.filter_congr fun _ _ => by simp

/-- The entry of a bay takes a wanted count, or goes (R110, step 3). -/
def BondEntry.trimmed (b wanted : Nat) (e : BondEntry) : Option BondEntry :=
  if e.bay ≠ b then some e else if wanted = 0 then none else some ⟨b, wanted⟩

theorem trimBondList_eq (b : Nat) (s : State) : trimBondList b s = putBondList (cabOf b)
    ((s.bondList (cabOf b)).filterMap (BondEntry.trimmed b
      (targetCount (s.session b).grant - bonded s b - closing s b))) s := by
  unfold trimBondList
  dsimp only
  congr 2
  funext e
  unfold BondEntry.trimmed
  by_cases he : e.bay = b
  · rw [if_pos he, if_neg (not_not.mpr he), ← he]
  · rw [if_neg he, if_pos he]

/-- A lowered grant at an UP link (R110). -/
theorem lowerGrant_up {b : Nat} (hb : validBay b = true) {s : State} (hu : (s.link (cabOf b)).state = .up) :
    lowerGrant b s =
      (let told : State := if (s.session b).grant < (s.power b).commanded
        then putLink (cabOf b) ((s.link (cabOf b)).hand (.setpoint (posOf b) (s.session b).grant))
          (putPower b ⟨(s.session b).grant, (s.power b).reported, some 5000⟩ s)
        else s;
      examineRaises (putBondList (cabOf b) ((s.bondList (cabOf b)).filterMap (BondEntry.trimmed b
          (targetCount (s.session b).grant - bonded s b - closing s b)))
        { told with bond := { told.bond with raiseList := s.bond.raiseList.filter fun h => h ≠ b } })) := by
  unfold lowerGrant
  rw [if_pos hu]
  dsimp only
  rw [trimBondList_eq, reduce_up hb hu]
  split <;> rfl

end Sys2Proof.Machine

open Sys2Proof Sys2Proof.Machine

/-- Settles O28: the walk of the shed bay by bay, and a lowered grant at the bond controller. -/
theorem shedBringsCommandedSumWithinTarget : Obligations.ShedBringsCommandedSumWithinTarget := by
  refine ⟨fun s hn hv hs hg => ?within, fun s hn hv b hb => shed_stop_grant hn hv hb,
    fun cause target s => ⟨shed_ripple .., shed_requested _ _ _, shed_stale cause target⟩,
    fun cause target s hn hv => ?walk, fun _ => rfl, fun b s hb => ⟨fun hl => if_neg hl, fun hu => ?lowered⟩⟩
  case within =>
    have h := (Sheddable.shed_within ⟨hn, hv, hs, hg⟩ (cause := .envelope) (Int.le_refl s.env.available)).commandedSum_le
    rwa [(shed_ripple _ _ s).env] at h
  case walk =>
    obtain ⟨rest, visited, h⟩ := shed_over cause target hn hv
    refine ⟨rest, visited, h.order, h.others, h.stop, h.met, h.each, ?_, ?_⟩
    · rw [shed_notice, h.shed, ← h.lowered_length hn hv]
      cases cause <;> rfl
    · rw [← h.changed, shed_sessions, ← shedWalked_eq]
      exact ⟨(shed_power cause target s).bond, (shed_power cause target s).links⟩
  case lowered =>
    rw [lowerGrant_up hb hu]
    unfold bonded closing targetCount BondEntry.trimmed
    rw [modulesOf_eq, modulesOf_eq, ceilDiv_300]

end

section
/-! The modules in a publication: ramp cancellation and the release of excess modules, module by module (R107, R118). -/

namespace Sys2Proof.Machine

/-! ### One operation for each of different numbers -/

/-- Where the operations for other numbers leave an item, an operation for each of different numbers acts on it once,
from what it held. -/
theorem forEach_at {α : Type} {read : State → Nat → α} {f : Nat → State → State} {l : List Nat} (hl : l.Nodup)
    (other : ∀ i ∈ l, ∀ j, i ≠ j → ∀ s, read (f i s) j = read s j) (s : State) (j : Nat) :
    (j ∉ l → read (forEach l f s) j = read s j) ∧
      (j ∈ l → ∃ v, read v j = read s j ∧ read (forEach l f s) j = read (f j v) j) := by
  induction l generalizing s with
  | nil => exact ⟨fun _ => rfl, nofun⟩
  | cons i l ih =>
    obtain ⟨hi, hn⟩ := List.nodup_cons.mp hl
    have ih := ih hn (fun k hk => other k (List.mem_cons_of_mem i hk)) (f i s)
    have hother := other i List.mem_cons_self
    constructor
    · intro hj
      obtain ⟨hji, hjl⟩ := List.ne_and_not_mem_of_not_mem_cons hj
      exact (ih.1 hjl).trans (hother j (Ne.symm hji) s)
    · intro hj
      rcases List.mem_cons.mp hj with rfl | hj
      · exact ⟨s, rfl, ih.1 hi⟩
      · obtain ⟨v, hv, he⟩ := ih.2 hj
        exact ⟨v, hv.trans (hother j (fun e => hi (e ▸ hj)) s), he⟩

/-- A count in which one item has changed. -/
theorem countP_update {l : List Nat} (hl : l.Nodup) {f g : Nat → Bool} {m : Nat} (hm : m ∈ l)
    (hfg : ∀ j, j ≠ m → g j = f j) : l.countP g + (f m).toNat = l.countP f + (g m).toNat := by
  have hcons : ∀ (q : Nat → Bool) (a : Nat) (r : List Nat), (a :: r).countP q = r.countP q + (q a).toNat :=
    fun q a r => by rw [List.countP_cons]; cases q a <;> rfl
  induction l with
  | nil => cases hm
  | cons a l ih =>
    obtain ⟨ha, hn⟩ := List.nodup_cons.mp hl
    rw [hcons, hcons]
    by_cases ham : a = m
    · subst ham
      have : l.countP g = l.countP f := List.countP_congr fun j hj => by rw [hfg j fun e => ha (e ▸ hj)]
      omega
    · have := ih hn ((List.mem_cons.mp hm).resolve_left (Ne.symm ham))
      rw [hfg a ham]
      omega

/-! ### What the bond controller writes -/

/-- Between `s` and `t` nothing but the bond controller and the frames handed to the cabinets has changed, and no
reported power. -/
structure BondsOnly (s t : State) : Prop where
  rest     : t = { s with bond := t.bond, links := t.links }
  reported : ∀ b, (t.power b).reported = (s.power b).reported
  link     : ∀ c, LinkKept (s.link c) (t.link c)

namespace BondsOnly

theorem refl (s : State) : BondsOnly s s := ⟨rfl, fun _ => rfl, fun _ => .refl _⟩

theorem trans {s t u : State} (h : BondsOnly s t) (k : BondsOnly t u) : BondsOnly s u where
  rest := by rw [k.rest, h.rest]
  reported b := (k.reported b).trans (h.reported b)
  link c := (h.link c).trans (k.link c)

theorem forEach {f : Nat → State → State} (hf : ∀ i s, BondsOnly s (f i s)) (l : List Nat) (s : State) :
    BondsOnly s (Machine.forEach l f s) :=
  forEach_keeps (P := BondsOnly s) (fun i _ t h => h.trans (hf i t)) (refl s)

theorem ofRipple {s t : State} (h : Ripple s t) (hk : t = t.recast s) : BondsOnly s t where
  rest := by
    rw [hk]
    unfold State.recast
    rw [h.clock, h.env, h.ready, h.faults, h.lines, h.pending]
  reported := h.reported
  link := h.link

theorem putModule (c m : Nat) (x : Module) (s : State) : BondsOnly s (putModule c m x s) :=
  ⟨rfl, fun _ => rfl, fun _ => .refl _⟩

theorem putBondList (c : Nat) (l : List BondEntry) (s : State) : BondsOnly s (putBondList c l s) :=
  ⟨rfl, fun _ => rfl, fun _ => .refl _⟩

theorem putRaiseList (l : List Nat) (s : State) : BondsOnly s (putRaiseList l s) :=
  ⟨rfl, fun _ => rfl, fun _ => .refl _⟩

theorem sendIfUp (c : Nat) (m : CabMsg) (s : State) : BondsOnly s (sendIfUp c m s) :=
  .ofRipple (sendIfUp_ripple c m s) (by unfold Machine.sendIfUp; split <;> rfl)

theorem reduce (b v : Nat) (s : State) : BondsOnly s (reduce b v s) :=
  .ofRipple (reduce_ripple b v s) (by
    unfold Machine.reduce Machine.sendSetpoint Machine.sendIfUp
    dsimp only
    split <;> rfl)

theorem examineRaises (s : State) : BondsOnly s (examineRaises s) :=
  .ofRipple (examineRaises_ripple s) (examineRaises_keeps s)

variable {s t : State}

theorem sessions (h : BondsOnly s t) : t.sessions = s.sessions := by rw [h.rest]

theorem session (h : BondsOnly s t) (b : Nat) : t.session b = s.session b := by
  unfold State.session
  rw [h.sessions]

theorem state (h : BondsOnly s t) (c : Nat) : (t.link c).state = (s.link c).state := by rw [h.link c]

theorem faults (h : BondsOnly s t) : t.faults = s.faults := by rw [h.rest]

theorem env (h : BondsOnly s t) : t.env = s.env := by rw [h.rest]

theorem alloc (h : BondsOnly s t) : t.alloc = s.alloc := by rw [h.rest]

end BondsOnly

/-! ### The modules of a bay (Table 5-3) -/

/-- Module `m` of the bay's cabinet is in state `st` with that bay. -/
def State.inState (s : State) (b : Nat) (st : ModuleState) (m : Nat) : Bool :=
  (s.module (cabOf b) m).state = st && (s.module (cabOf b) m).bay = some b

theorem inState_iff {s : State} {b m : Nat} {st : ModuleState} : s.inState b st m = true ↔
    (s.module (cabOf b) m).state = st ∧ (s.module (cabOf b) m).bay = some b := by
  simp [State.inState]

theorem modulesOf_length_eq (s : State) (b : Nat) (st : ModuleState) :
    (modulesOf s b st).length = allModules.countP (s.inState b st) := List.countP_eq_length_filter.symm

/-- The modules numbered below `k` that are in state `st` with the bay. -/
def modulesBelow (s : State) (b : Nat) (st : ModuleState) (k : Nat) : Nat :=
  (allModules.filter fun j => j < k ∧ (s.module (cabOf b) j).state = st ∧ (s.module (cabOf b) j).bay = some b).length

theorem modulesBelow_eq (s : State) (b : Nat) (st : ModuleState) (k : Nat) :
    modulesBelow s b st k = allModules.countP fun j => j < k && s.inState b st j := by
  unfold modulesBelow
  rw [List.countP_eq_length_filter]
  congr 1
  exact List.filter_congr fun j _ => by simp [State.inState]

theorem allModules_nodup : allModules.Nodup := by decide

/-- The modules before `k` in ascending order are those numbered below it. -/
theorem countP_before {k : Nat} (hk : validModule k = true) (q : Nat → Bool) :
    (allModules.takeWhile fun j => j ≠ k).countP q = allModules.countP fun j => j < k && q j := by
  have h : k = 1 ∨ k = 2 ∨ k = 3 ∨ k = 4 := by have := validModule_iff.mp hk; omega
  rcases h with rfl | rfl | rfl | rfl <;> simp [allModules, List.countP_cons]

/-- The modules before `k` in descending order are the others that are not numbered below it. -/
theorem countP_after {k : Nat} (hk : validModule k = true) {q : Nat → Bool} (hq : q k = true) :
    (allModules.reverse.takeWhile fun j => j ≠ k).countP q + 1 + allModules.countP (fun j => j < k && q j) =
      allModules.countP q := by
  have h : k = 1 ∨ k = 2 ∨ k = 3 ∨ k = 4 := by have := validModule_iff.mp hk; omega
  rcases h with rfl | rfl | rfl | rfl <;> simp [allModules, List.countP_cons, hq] <;> omega

/-- A module of a bay is counted among those of its state, and not among those below it. -/
theorem modulesBelow_lt {s : State} {b k : Nat} {st : ModuleState} (hk : validModule k = true)
    (h : s.inState b st k = true) : modulesBelow s b st k < (modulesOf s b st).length := by
  have := countP_after hk h
  rw [modulesBelow_eq, modulesOf_length_eq]
  omega

/-! ### Modules of a bay that change their state in turn -/

/-- A module in another state, with the bay and the timer that it has. -/
def Module.become (x : Module) (st : ModuleState) : Module := { x with state := st }

/-- One module of a bay goes from `src` to `dst`, while the count of BONDED modules allows more. -/
def convert (src dst : ModuleState) (more : Nat → Nat → Prop) [∀ a n, Decidable (more a n)] (b m : Nat) (s : State) :
    State :=
  if (s.module (cabOf b) m).state = src ∧ (s.module (cabOf b) m).bay = some b ∧
      more (targetCount (s.session b).grant) (bonded s b) then
    putModule (cabOf b) m ((s.module (cabOf b) m).become dst) s
  else s

theorem cancelRamps_eq (b : Nat) (s : State) :
    cancelRamps b s = forEach allModules (convert .ramping .bonded (fun aim n => n < aim) b) s := rfl

theorem releaseExcess_eq (b : Nat) (s : State) :
    releaseExcess b s = forEach allModules.reverse (convert .bonded .ramping (fun aim n => aim < n) b) s := rfl

theorem inState_putModule {b m : Nat} (hb : validBay b = true) (hm : validModule m = true) (x : Module) (s : State)
    (st : ModuleState) (j : Nat) : (putModule (cabOf b) m x s).inState b st j =
      if j = m then x.state = st && x.bay = some b else s.inState b st j := by
  unfold State.inState
  rw [module_putModule _ _ _ _ _ _ (cabOf_valid hb) hm]
  by_cases hj : j = m
  · rw [if_pos ⟨rfl, hj.symm⟩, if_pos hj]
  · rw [if_neg fun e => hj e.2.symm, if_neg hj]

/-- The count of BONDED modules of a bay after one module has been written. -/
theorem bonded_putModule_eq {b m : Nat} (hb : validBay b = true) (hm : validModule m = true) (x : Module) (s : State) :
    bonded (putModule (cabOf b) m x s) b + (s.inState b .bonded m).toNat =
      bonded s b + (x.state = .bonded && x.bay = some b).toNat := by
  have hw := inState_putModule hb hm x s .bonded
  have hc := countP_update allModules_nodup (mem_allModules.mpr hm) fun j hj => (hw j).trans (if_neg hj)
  rw [hw m, if_pos rfl] at hc
  unfold bonded
  rw [modulesOf_length_eq, modulesOf_length_eq]
  exact hc

/-- A module of the bay that becomes BONDED is one more. -/
theorem bonded_cancel {b m : Nat} (hb : validBay b = true) (hm : validModule m = true) {s : State}
    (h : s.inState b .ramping m = true) :
    bonded (putModule (cabOf b) m ((s.module (cabOf b) m).become .bonded) s) b = bonded s b + 1 := by
  obtain ⟨hst, hbay⟩ := inState_iff.mp h
  simpa [State.inState, Module.become, hst, hbay] using
    bonded_putModule_eq hb hm ((s.module (cabOf b) m).become .bonded) s

/-- A BONDED module of the bay that goes to RAMPING is one less. -/
theorem bonded_release {b m : Nat} (hb : validBay b = true) (hm : validModule m = true) {s : State}
    (h : s.inState b .bonded m = true) :
    bonded (putModule (cabOf b) m ((s.module (cabOf b) m).become .ramping) s) b = bonded s b - 1 := by
  have := bonded_putModule_eq hb hm ((s.module (cabOf b) m).become .ramping) s
  have hr : ((((s.module (cabOf b) m).become .ramping).state = .bonded) &&
      (((s.module (cabOf b) m).become .ramping).bay = some b)) = false := rfl
  rw [h, hr, Bool.toNat_true, Bool.toNat_false] at this
  omega

/-- Modules in turn: those of the bay in state `src` change, the first in the turn first, until the quota that the count
of BONDED modules leaves is spent. -/
theorem forEach_convert {src dst : ModuleState} {more : Nat → Nat → Prop} [∀ a n, Decidable (more a n)]
    {quota next : Nat → Nat} {aim b : Nat} (hb : validBay b = true) (hmore : ∀ n, more aim n ↔ 0 < quota n)
    (hquota : ∀ n, 0 < quota n → quota (next n) + 1 = quota n)
    (hnext : ∀ {m : Nat}, validModule m = true → ∀ {s : State}, s.inState b src m = true →
      bonded (putModule (cabOf b) m ((s.module (cabOf b) m).become dst) s) b = next (bonded s b))
    {l : List Nat} (hl : l.Nodup) (hv : ∀ m ∈ l, validModule m = true) {s : State}
    (ha : targetCount (s.session b).grant = aim) :
    bonded (forEach l (convert src dst more b) s) b =
      next^[min (quota (bonded s b)) (l.countP (s.inState b src))] (bonded s b) ∧
    ∀ d k, (forEach l (convert src dst more b) s).module d k =
      if d = cabOf b ∧ k ∈ l ∧ s.inState b src k = true ∧
        (l.takeWhile fun j => j ≠ k).countP (s.inState b src) < quota (bonded s b)
      then (s.module d k).become dst else s.module d k := by
  induction l generalizing s with
  | nil => exact ⟨by simp [forEach], fun d k => (if_neg fun h => by simp at h).symm⟩
  | cons m l ih =>
    obtain ⟨hm, hn⟩ := List.nodup_cons.mp hl
    have hvm := hv m List.mem_cons_self
    have hstep : forEach (m :: l) (convert src dst more b) s =
      forEach l (convert src dst more b) (convert src dst more b m s) := rfl
    have hbefore : ∀ k, k ≠ m → (m :: l).takeWhile (fun j => j ≠ k) = m :: l.takeWhile fun j => j ≠ k := fun k hk => by
      rw [List.takeWhile_cons, if_pos (by simpa using Ne.symm hk)]
    have hself : (m :: l).takeWhile (fun j => j ≠ m) = [] := by
      rw [List.takeWhile_cons, if_neg (by simp)]
    have hmem : ∀ k, k ≠ m → (k ∈ m :: l ↔ k ∈ l) := fun k hk => List.mem_cons.trans (or_iff_right hk)
    rw [hstep]
    by_cases hc : s.inState b src m = true ∧ 0 < quota (bonded s b)
    · -- the module changes, and the quota falls by one
      obtain ⟨hin, hpos⟩ := hc
      obtain ⟨hst, hbay⟩ := inState_iff.mp hin
      have hconv : convert src dst more b m s =
          putModule (cabOf b) m ((s.module (cabOf b) m).become dst) s :=
        if_pos ⟨hst, hbay, by rw [ha]; exact (hmore _).mpr hpos⟩
      have hothers : ∀ j, j ≠ m →
          (putModule (cabOf b) m ((s.module (cabOf b) m).become dst) s).inState b src j = s.inState b src j :=
        fun j hj => (inState_putModule hb hvm _ s src j).trans (if_neg hj)
      have hcount : ∀ r : List Nat, m ∉ r → r.countP
          ((putModule (cabOf b) m ((s.module (cabOf b) m).become dst) s).inState b src) = r.countP (s.inState b src) :=
        fun r hr => List.countP_congr fun j hj => by rw [hothers j fun e => hr (e ▸ hj)]
      have hmod := module_putModule s (cabOf b) m (x := (s.module (cabOf b) m).become dst) (hc := cabOf_valid hb)
        (hm := hvm)
      have hq := hquota _ hpos
      obtain ⟨ihn, ihm⟩ := ih hn (fun j hj => hv j (List.mem_cons_of_mem m hj))
        (s := putModule (cabOf b) m ((s.module (cabOf b) m).become dst) s) ha
      rw [hnext hvm hin, hcount l hm] at ihn
      rw [hnext hvm hin] at ihm
      rw [hconv]
      refine ⟨?_, fun d k => ?_⟩
      · rw [ihn, ← Function.iterate_succ_apply, List.countP_cons_of_pos hin]
        congr 1
        omega
      · rw [ihm]
        by_cases hk : k = m
        · subst hk
          rw [if_neg fun h => hm h.2.1, hself, hmod]
          by_cases hd : d = cabOf b
          · subst hd
            rw [if_pos ⟨rfl, rfl⟩, if_pos ⟨rfl, List.mem_cons_self, hin, hpos⟩]
          · rw [if_neg fun h => hd h.1.symm, if_neg fun h => hd h.1]
        · have htake : m ∉ l.takeWhile fun j => j ≠ k := fun h => hm (List.takeWhile_subset _ h)
          rw [hothers k hk, hcount _ htake, hbefore k hk, List.countP_cons_of_pos hin,
            (hmod d k).trans (if_neg fun h => hk h.2.symm)]
          refine if_congr (and_congr_right fun _ => and_congr (hmem k hk).symm (and_congr_right fun _ => ?_)) rfl rfl
          omega
    · -- it stays, and takes nothing of the quota
      have hconv : convert src dst more b m s = s := by
        refine if_neg fun h => hc ⟨inState_iff.mpr ⟨h.1, h.2.1⟩, ?_⟩
        rw [ha] at h
        exact (hmore _).mp h.2.2
      obtain ⟨ihn, ihm⟩ := ih hn (fun j hj => hv j (List.mem_cons_of_mem m hj)) ha
      rw [hconv]
      by_cases hin : s.inState b src m = true
      · have hq : quota (bonded s b) = 0 := by
          by_contra hq
          exact hc ⟨hin, Nat.pos_of_ne_zero hq⟩
        rw [hq] at ihn ihm ⊢
        refine ⟨ihn.trans (by rw [Nat.zero_min, Nat.zero_min]), fun d k => (ihm d k).trans ?_⟩
        rw [if_neg fun h => Nat.not_lt_zero _ h.2.2.2, if_neg fun h => Nat.not_lt_zero _ h.2.2.2]
      · refine ⟨by rw [ihn, List.countP_cons_of_neg hin], fun d k => (ihm d k).trans ?_⟩
        by_cases hk : k = m
        · subst hk
          rw [if_neg fun h => hin h.2.2.1, if_neg fun h => hin h.2.2.1]
        · rw [hbefore k hk, List.countP_cons_of_neg hin]
          exact if_congr (and_congr_right fun _ => and_congr (hmem k hk).symm .rfl) rfl rfl

/-- Ramp cancellation: the lowest-numbered RAMPING modules of the bay return to BONDED until the grant's modules are
BONDED (R118). -/
theorem cancelRamps_spec {b : Nat} (hb : validBay b = true) (s : State) :
    bonded (cancelRamps b s) b =
      max (bonded s b) (min (targetCount (s.session b).grant) (bonded s b + ramping s b)) ∧
    ∀ d k, (cancelRamps b s).module d k =
      if d = cabOf b ∧ validModule k = true ∧ s.inState b .ramping k = true ∧
        bonded s b + modulesBelow s b .ramping k < targetCount (s.session b).grant
      then (s.module d k).become .bonded else s.module d k := by
  obtain ⟨hn, hm⟩ := forEach_convert (src := .ramping) (dst := .bonded) (more := fun aim n => n < aim)
    (quota := fun n => targetCount (s.session b).grant - n) (next := Nat.succ) hb (fun n => by omega)
    (fun n h => by omega) (fun hv _ h => bonded_cancel hb hv h) allModules_nodup
    (fun m h => mem_allModules.mp h) (s := s) rfl
  rw [← modulesOf_length_eq, Nat.succ_iterate] at hn
  rw [cancelRamps_eq]
  refine ⟨hn.trans ?_, fun d k => (hm d k).trans (if_congr ?_ rfl rfl)⟩
  · unfold ramping
    omega
  · rw [mem_allModules]
    refine and_congr_right fun _ => and_congr_right fun hk => and_congr_right fun _ => ?_
    rw [countP_before hk, ← modulesBelow_eq]
    omega

/-- The highest-numbered BONDED modules of the bay go to RAMPING until no more than the grant's modules are BONDED
(R107). -/
theorem releaseExcess_spec {b : Nat} (hb : validBay b = true) (s : State) :
    bonded (releaseExcess b s) b = min (bonded s b) (targetCount (s.session b).grant) ∧
    ∀ d k, (releaseExcess b s).module d k =
      if d = cabOf b ∧ validModule k = true ∧ s.inState b .bonded k = true ∧
        targetCount (s.session b).grant ≤ modulesBelow s b .bonded k
      then (s.module d k).become .ramping else s.module d k := by
  obtain ⟨hn, hm⟩ := forEach_convert (src := .bonded) (dst := .ramping) (more := fun aim n => aim < n)
    (quota := fun n => n - targetCount (s.session b).grant) (next := Nat.pred) hb (fun n => by omega)
    (fun n h => by rw [Nat.pred_eq_sub_one]; omega) (fun hv _ h => bonded_release hb hv h)
    (List.nodup_reverse.mpr allModules_nodup) (fun m h => mem_allModules.mp (List.mem_reverse.mp h)) (s := s) rfl
  rw [List.countP_reverse, ← modulesOf_length_eq, Nat.pred_iterate] at hn
  rw [releaseExcess_eq]
  refine ⟨hn.trans ?_, fun d k => (hm d k).trans (if_congr ?_ rfl rfl)⟩
  · unfold bonded
    omega
  · rw [List.mem_reverse, mem_allModules]
    refine and_congr_right fun _ => and_congr_right fun hk => and_congr_right fun hin => ?_
    have h := countP_after hk hin
    rw [← modulesBelow_eq, ← modulesOf_length_eq] at h
    unfold bonded
    omega

end Sys2Proof.Machine
end

section
/-! The modules of every bay in a publication, after ramp cancellation, the reductions and the release of excess modules
(R107, steps 1 to 3). -/

namespace Sys2Proof.Machine

/-! ### One kind of change for each of different bays -/

/-- Nothing but modules has changed. -/
def ModulesOnly (s t : State) : Prop := t = { s with bond := { s.bond with modules := t.bond.modules } }

theorem ModulesOnly.refl (s : State) : ModulesOnly s s := rfl

theorem ModulesOnly.trans {s t u : State} (h : ModulesOnly s t) (k : ModulesOnly t u) : ModulesOnly s u := by
  unfold ModulesOnly at *
  rw [k, h]

theorem ModulesOnly.forEach {f : Nat → State → State} (hf : ∀ i s, ModulesOnly s (f i s)) (l : List Nat) (s : State) :
    ModulesOnly s (forEach l f s) :=
  forEach_keeps (P := ModulesOnly s) (fun i _ t h => h.trans (hf i t)) (.refl s)

theorem ModulesOnly.bondsOnly {s t : State} (h : ModulesOnly s t) : BondsOnly s t where
  rest := by rw [h]
  reported b := by rw [h]; rfl
  link c := by rw [h]; exact .refl _

theorem ModulesOnly.session {s t : State} (h : ModulesOnly s t) (b : Nat) : t.session b = s.session b :=
  h.bondsOnly.session b

theorem convert_modulesOnly (src dst : ModuleState) (more : Nat → Nat → Prop) [∀ a n, Decidable (more a n)] (b m : Nat)
    (s : State) : ModulesOnly s (convert src dst more b m s) := by
  unfold convert
  split <;> rfl

/-- An operation that takes modules of its bay from `src` to `dst`, each as `cond` says of the target count, the BONDED
count and the count of modules in `src` below it; `total` is the BONDED count after it. -/
structure Converting (src dst : ModuleState) (cond : Nat → Nat → Nat → Prop) (total : Nat → Nat → Nat → Nat)
    (f : Nat → State → State) : Prop where
  differ : src ≠ dst
  only   : ∀ b s, ModulesOnly s (f b s)
  bonded : ∀ {b}, validBay b = true → ∀ s, bonded (f b s) b =
             total (targetCount (s.session b).grant) (bonded s b) (ramping s b)
  module : ∀ {b}, validBay b = true → ∀ s d k,
             (d = cabOf b ∧ validModule k = true ∧ s.inState b src k = true ∧
               cond (targetCount (s.session b).grant) (Machine.bonded s b) (modulesBelow s b src k) →
               (f b s).module d k = (s.module d k).become dst) ∧
             (¬ (d = cabOf b ∧ validModule k = true ∧ s.inState b src k = true ∧
               cond (targetCount (s.session b).grant) (Machine.bonded s b) (modulesBelow s b src k)) →
               (f b s).module d k = s.module d k)

theorem cancelRamps_converting : Converting .ramping .bonded (fun aim n below => n + below < aim)
    (fun aim n r => max n (min aim (n + r))) cancelRamps where
  differ := by decide
  only b s := by
    rw [cancelRamps_eq]
    exact .forEach (fun _ _ => convert_modulesOnly ..) _ _
  bonded hb s := (cancelRamps_spec hb s).1
  module hb s d k := ⟨fun h => ((cancelRamps_spec hb s).2 d k).trans (if_pos h),
    fun h => ((cancelRamps_spec hb s).2 d k).trans (if_neg h)⟩

theorem releaseExcess_converting : Converting .bonded .ramping (fun aim _ below => aim ≤ below)
    (fun aim n _ => min n aim) releaseExcess where
  differ := by decide
  only b s := by
    rw [releaseExcess_eq]
    exact .forEach (fun _ _ => convert_modulesOnly ..) _ _
  bonded hb s := (releaseExcess_spec hb s).1
  module hb s d k := ⟨fun h => ((releaseExcess_spec hb s).2 d k).trans (if_pos h),
    fun h => ((releaseExcess_spec hb s).2 d k).trans (if_neg h)⟩

/-- The modules of a bay, by their numbers. -/
def State.ofBay (s : State) (b k : Nat) : Option Module :=
  if (s.module (cabOf b) k).bay = some b then some (s.module (cabOf b) k) else none

theorem inState_eq_ofBay (s : State) (b : Nat) (st : ModuleState) (k : Nat) :
    s.inState b st k = (s.ofBay b k).any fun x => x.state = st := by
  unfold State.inState State.ofBay
  split
  · next h => simp [h]
  · next h => simp [h]

section
variable {s t : State} {b : Nat} (h : t.ofBay b = s.ofBay b)
include h

theorem inState_congr : t.inState b = s.inState b := by
  funext st k
  rw [inState_eq_ofBay, inState_eq_ofBay, h]

theorem modulesOf_congr (st : ModuleState) : modulesOf t b st = modulesOf s b st :=
  by
  change allModules.filter (t.inState b st) = allModules.filter (s.inState b st)
  rw [inState_congr h]

theorem bonded_congr : bonded t b = bonded s b := congrArg List.length (modulesOf_congr h .bonded)

theorem ramping_congr : ramping t b = ramping s b := congrArg List.length (modulesOf_congr h .ramping)

theorem modulesBelow_congr (st : ModuleState) (k : Nat) : modulesBelow t b st k = modulesBelow s b st k := by
  rw [modulesBelow_eq, modulesBelow_eq, inState_congr h]

theorem module_congr {k : Nat} (hk : (s.module (cabOf b) k).bay = some b) :
    t.module (cabOf b) k = s.module (cabOf b) k := by
  have hs := congrFun h k
  unfold State.ofBay at hs
  rw [if_pos hk] at hs
  split at hs
  · exact Option.some.inj hs
  · cases hs

end

namespace Converting

variable {src dst : ModuleState} {cond : Nat → Nat → Nat → Prop} {total : Nat → Nat → Nat → Nat}
  {f : Nat → State → State} (h : Converting src dst cond total f)
include h

/-- Each module stays, or is one of the bay and goes from `src` to `dst`. -/
theorem module_cases {b : Nat} (hb : validBay b = true) (s : State) (d k : Nat) :
    (f b s).module d k = s.module d k ∨ (d = cabOf b ∧ (s.module d k).state = src ∧ (s.module d k).bay = some b ∧
      (f b s).module d k = (s.module d k).become dst) := by
  obtain ⟨hpos, hneg⟩ := h.module hb s d k
  by_cases hc : d = cabOf b ∧ validModule k = true ∧ s.inState b src k = true ∧
      cond (targetCount (s.session b).grant) (Machine.bonded s b) (modulesBelow s b src k)
  · obtain ⟨hd, -, hin, -⟩ := id hc
    obtain ⟨hst, hbay⟩ := inState_iff.mp hin
    exact .inr ⟨hd, hd ▸ hst, hd ▸ hbay, hpos hc⟩
  · exact .inl (hneg hc)

theorem ofBay_other {i j : Nat} (hi : validBay i = true) (hij : i ≠ j) (s : State) :
    (f i s).ofBay j = s.ofBay j := by
  funext k
  unfold State.ofBay
  rcases h.module_cases hi s (cabOf j) k with e | ⟨-, -, hbay, e⟩
  · rw [e]
  · have hn : ¬ some i = some j := fun e => hij (Option.some.inj e)
    have hs : ¬ (s.module (cabOf j) k).bay = some j := by rw [hbay]; exact hn
    rw [e, if_neg hs]
    exact if_neg hs

variable {l : List Nat} (hl : l.Nodup) (hv : ∀ b ∈ l, validBay b = true)
include hv

/-- A module that no bay of the list takes from `src` stays. -/
theorem forEach_other (s : State) {d k : Nat} (ho : (∀ b ∈ l, cabOf b ≠ d) ∨ (s.module d k).state ≠ src) :
    (forEach l f s).module d k = s.module d k :=
  forEach_keeps (P := fun t => t.module d k = s.module d k) (fun b hb t ht => by
    rcases h.module_cases (hv b hb) t d k with e | ⟨hd, hst, -, -⟩
    · exact e.trans ht
    · exact (ho.elim (fun ho => ho b hb hd.symm) fun ho => ho (ht ▸ hst)).elim) rfl

/-- Each module stays, or goes from `src` to `dst`. -/
theorem forEach_cases (s : State) (d k : Nat) : (forEach l f s).module d k = s.module d k ∨
    ((s.module d k).state = src ∧ (forEach l f s).module d k = (s.module d k).become dst) := by
  refine forEach_keeps (P := fun t => t.module d k = s.module d k ∨ ((s.module d k).state = src ∧
    t.module d k = (s.module d k).become dst)) (fun b hb t ht => ?_) (.inl rfl)
  rcases h.module_cases (hv b hb) t d k with e | ⟨-, hst, -, e⟩
  · rw [e]; exact ht
  · rcases ht with ht | ⟨-, ht⟩ <;> rw [ht] at hst e
    · exact .inr ⟨hst, e⟩
    · exact (h.differ hst.symm).elim

include hl

/-- The bays of the list, each from the modules and the grant that it had at the start. -/
theorem forEach_own (s : State) {b : Nat} (hb : b ∈ l) : ∃ v : State, v.ofBay b = s.ofBay b ∧
    (v.session b).grant = (s.session b).grant ∧ (forEach l f s).ofBay b = (f b v).ofBay b := by
  obtain ⟨v, hv', he⟩ := (forEach_at (read := fun v b => (v.ofBay b, (v.session b).grant)) hl (fun i hi j hij t => by
    rw [h.ofBay_other (hv i hi) hij, (h.only i t).session]) s b).2 hb
  obtain ⟨h1, h2⟩ := Prod.mk.inj hv'
  exact ⟨v, h1, h2, (Prod.mk.inj he).1⟩

theorem forEach_bonded (s : State) {b : Nat} (hb : b ∈ l) : Machine.bonded (forEach l f s) b =
    total (targetCount (s.session b).grant) (Machine.bonded s b) (ramping s b) := by
  obtain ⟨v, hbay, hg, he⟩ := h.forEach_own hl hv s hb
  rw [bonded_congr he, h.bonded (hv b hb), hg, bonded_congr hbay, ramping_congr hbay]

/-- A module of a bay of the list. -/
theorem forEach_module (s : State) {b k : Nat} (hb : b ∈ l) (hbay : (s.module (cabOf b) k).bay = some b) :
    (validModule k = true ∧ (s.module (cabOf b) k).state = src ∧
      cond (targetCount (s.session b).grant) (Machine.bonded s b) (modulesBelow s b src k) →
      (forEach l f s).module (cabOf b) k = (s.module (cabOf b) k).become dst) ∧
    (¬ cond (targetCount (s.session b).grant) (Machine.bonded s b) (modulesBelow s b src k) →
      (forEach l f s).module (cabOf b) k = s.module (cabOf b) k) := by
  obtain ⟨v, hv', hg, he⟩ := h.forEach_own hl hv s hb
  obtain ⟨hpos, hneg⟩ := h.module (hv b hb) v (cabOf b) k
  have hm := module_congr hv' hbay
  have hown : (f b v).module (cabOf b) k = v.module (cabOf b) k ∨ (f b v).module (cabOf b) k =
      (v.module (cabOf b) k).become dst := (h.module_cases (hv b hb) v (cabOf b) k).imp_right fun e => e.2.2.2
  have hkeep : ((f b v).module (cabOf b) k).bay = some b := by
    rcases hown with e | e <;> rw [e, hm] <;> exact hbay
  rw [module_congr he hkeep]
  rw [hg, bonded_congr hv', modulesBelow_congr hv', inState_congr hv', hm] at hpos hneg
  exact ⟨fun ⟨hk, hst, hc⟩ => hpos ⟨rfl, hk, inState_iff.mpr ⟨hst, hbay⟩, hc⟩, fun hc => hneg fun hh => hc hh.2.2.2⟩

end Converting

/-! ### Cancellation, and then release -/

/-- The modules of `t` after ramp cancellation and release from those of `s`, for the bays of `l` (R107, R118). -/
structure Trimmed (l : List Nat) (s t : State) : Prop where
  bonded  : ∀ b ∈ l, bonded t b = min (max (Machine.bonded s b) (min (targetCount (s.session b).grant)
              (Machine.bonded s b + ramping s b))) (targetCount (s.session b).grant)
  kept    : ∀ b ∈ l, ∀ k, validModule k = true → (s.module (cabOf b) k).bay = some b →
              (s.module (cabOf b) k).state = .bonded → t.module (cabOf b) k = (s.module (cabOf b) k).become
                (if modulesBelow s b .bonded k < targetCount (s.session b).grant then .bonded else .ramping)
  ramping : ∀ b ∈ l, ∀ k, validModule k = true → (s.module (cabOf b) k).bay = some b →
              (s.module (cabOf b) k).state = .ramping → t.module (cabOf b) k = (s.module (cabOf b) k).become
                (if Machine.bonded s b + modulesBelow s b .ramping k < targetCount (s.session b).grant then .bonded
                  else .ramping)
  others  : ∀ d k, ((∀ b ∈ l, cabOf b ≠ d) ∨ ((s.module d k).state ≠ .bonded ∧ (s.module d k).state ≠ .ramping)) →
              t.module d k = s.module d k
  changed : ∀ d k, t.module d k = s.module d k ∨
              (((s.module d k).state = .bonded ∨ (s.module d k).state = .ramping) ∧
                ((t.module d k).state = .bonded ∨ (t.module d k).state = .ramping))

theorem Module.become_self {x : Module} {st : ModuleState} (h : x.state = st) : x.become st = x := by
  rw [← h]
  rfl

/-- The release looks at modules and grants alone, so that what else has changed after the cancellation does not
matter. -/
theorem trimmed {l : List Nat} (hl : l.Nodup) (hv : ∀ b ∈ l, validBay b = true) {s u : State}
    (hm : u.bond.modules = (forEach l cancelRamps s).bond.modules) (hs : u.sessions = s.sessions) :
    Trimmed l s (forEach l releaseExcess u) := by
  have C := cancelRamps_converting
  have R := releaseExcess_converting
  have hmod : ∀ d k, u.module d k = (forEach l cancelRamps s).module d k := fun d k => by
    unfold State.module; rw [hm]
  have hses : ∀ b, u.session b = s.session b := fun b => by unfold State.session; rw [hs]
  have hbay : ∀ b, u.ofBay b = (forEach l cancelRamps s).ofBay b := fun b => by
    funext k; unfold State.ofBay; rw [hmod]
  have hcases : ∀ d k, u.module d k = s.module d k ∨ ((s.module d k).state = .ramping ∧
      u.module d k = (s.module d k).become .bonded) := fun d k => hmod d k ▸ C.forEach_cases hv s d k
  have hn : ∀ b ∈ l, bonded u b = max (bonded s b) (min (targetCount (s.session b).grant)
      (bonded s b + ramping s b)) := fun b hb => (bonded_congr (hbay b)).trans (C.forEach_bonded hl hv s hb)
  -- a bay that needs no more modules cancels no ramp
  have hidle : ∀ b ∈ l, targetCount (s.session b).grant ≤ bonded s b → u.ofBay b = s.ofBay b := fun b hb ha => by
    funext k
    unfold State.ofBay
    by_cases hk : (s.module (cabOf b) k).bay = some b
    · rw [hmod, (C.forEach_module hl hv s hb hk).2 (by omega)]
    · have hu : (u.module (cabOf b) k).bay = (s.module (cabOf b) k).bay := by
        rcases hcases (cabOf b) k with e | ⟨-, e⟩
        · rw [e]
        · rw [e]
          rfl
      rw [if_neg hk, if_neg (hu ▸ hk)]
  -- a bay that needs more modules releases none
  have hlast : ∀ b ∈ l, bonded s b < targetCount (s.session b).grant → ∀ k, validModule k = true →
      u.inState b .bonded k = true → ¬ targetCount (u.session b).grant ≤ modulesBelow u b .bonded k :=
    fun b hb ha k hk hin hle => by
      have h1 := modulesBelow_lt hk hin
      have h2 := hn b hb
      unfold bonded at h2 ha
      rw [hses] at hle
      omega
  refine ⟨fun b hb => ?bonded, fun b hb k hk hbk hst => ?kept, fun b hb k hk hbk hst => ?ramping, fun d k ho => ?others,
    fun d k => ?changed⟩
  case bonded => rw [R.forEach_bonded hl hv u hb, hses, hn b hb]
  case kept =>
    have hu : u.module (cabOf b) k = s.module (cabOf b) k := by
      rw [hmod]
      exact C.forEach_other hv s (.inr (by simp [hst]))
    obtain ⟨hpos, hneg⟩ := R.forEach_module hl hv u hb (k := k) (by rw [hu]; exact hbk)
    rw [hu] at hpos hneg
    by_cases ha : targetCount (s.session b).grant ≤ bonded s b
    · rw [hses, modulesBelow_congr (hidle b hb ha)] at hpos hneg
      by_cases hlt : modulesBelow s b .bonded k < targetCount (s.session b).grant
      · rw [hneg (by omega), if_pos hlt, Module.become_self hst]
      · rw [hpos ⟨hk, hst, by omega⟩, if_neg hlt]
    · have hin : u.inState b .bonded k = true := inState_iff.mpr (hu ▸ ⟨hst, hbk⟩)
      have hlt := modulesBelow_lt hk (inState_iff.mpr ⟨hst, hbk⟩)
      unfold bonded at ha
      rw [hneg (hlast b hb (by unfold bonded; omega) k hk hin), if_pos (by omega), Module.become_self hst]
  case ramping =>
    obtain ⟨hpos, hneg⟩ := C.forEach_module hl hv s hb hbk
    rw [← hmod] at hpos hneg
    by_cases hlt : bonded s b + modulesBelow s b .ramping k < targetCount (s.session b).grant
    · have hu := hpos ⟨hk, hst, hlt⟩
      have hbu : (u.module (cabOf b) k).bay = some b := by rw [hu]; exact hbk
      have hin : u.inState b .bonded k = true := inState_iff.mpr ⟨by rw [hu]; rfl, hbu⟩
      rw [(R.forEach_module hl hv u hb hbu).2 (hlast b hb (by omega) k hk hin), hu, if_pos hlt]
    · have hu := hneg hlt
      rw [R.forEach_other hv u (.inr (by rw [hu, hst]; decide)), hu, if_neg hlt, Module.become_self hst]
  case others =>
    have hu : u.module d k = s.module d k := by
      rw [hmod]
      exact C.forEach_other hv s (ho.imp_right fun h => h.2)
    rw [R.forEach_other hv u (ho.imp_right fun h => hu ▸ h.1), hu]
  case changed =>
    rcases R.forEach_cases hv u d k with e | ⟨hb, e⟩
    · rcases hcases d k with e' | ⟨hr, e'⟩ <;> rw [e, e']
      · exact .inl rfl
      · exact .inr ⟨.inr hr, .inl rfl⟩
    · rw [e]
      refine .inr ⟨?_, .inr rfl⟩
      rcases hcases d k with e' | ⟨hr, -⟩
      · exact .inl (e' ▸ hb)
      · exact .inr hr

end Sys2Proof.Machine
end

section
/-! The reductions and the rebuilt waiting lists of a publication (R107 to R109, R113). -/

namespace Sys2Proof.Machine

/-! ### Reductions (R107, step 2) -/

/-- A setpoint above the grant takes it. -/
def reduceToGrant (b : Nat) (s : State) : State :=
  if (s.session b).grant < (s.power b).commanded then reduce b (s.session b).grant s else s

/-- The setpoint of the bay stands above its grant. -/
def overGrant (s : State) (b : Nat) : Bool := (s.session b).grant < (s.power b).commanded

theorem link_hand {c d : Nat} (hc : validCab c = true) (m : CabMsg) (s : State) :
    (putLink c ((s.link c).hand m) s).link d = if c = d then (s.link d).hand m else s.link d := by
  rw [link_putLink]
  by_cases hd : c = d
  · rw [if_pos ⟨hd, validCab_iff.mp hc⟩, if_pos hd, hd]
  · rw [if_neg fun h => hd h.1, if_neg hd]

/-- Bays of UP cabinets whose setpoints have been brought down to their grants. -/
structure Reduced (l : List Nat) (s t : State) : Prop where
  rest  : t = { s with bond := { s.bond with bays := t.bond.bays }, links := t.links }
  power : ∀ b, t.power b = if b ∈ l ∧ overGrant s b = true
            then ⟨(s.session b).grant, (s.power b).reported, some 5000⟩ else s.power b
  link  : ∀ c, t.link c = (s.link c).handAll ((l.filter fun b => cabOf b = c && overGrant s b).map fun b =>
            .setpoint (posOf b) (s.session b).grant)

theorem reduced {l : List Nat} (hl : l.Nodup) (hv : ∀ b ∈ l, validBay b = true) {s : State}
    (hu : ∀ b ∈ l, (s.link (cabOf b)).state = .up) : Reduced l s (forEach l reduceToGrant s) := by
  induction l generalizing s with
  | nil => exact ⟨rfl, fun b => (if_neg fun h => by simp at h).symm, fun c => rfl⟩
  | cons b l ih =>
    obtain ⟨hb, hn⟩ := List.nodup_cons.mp hl
    have hvb := hv b List.mem_cons_self
    have ih := fun s hu => ih hn (fun j hj => hv j (List.mem_cons_of_mem b hj)) (s := s) hu
    have hmem : ∀ j, j ≠ b → (j ∈ b :: l ↔ j ∈ l) := fun j hj => List.mem_cons.trans (or_iff_right hj)
    change Reduced (b :: l) s (forEach l reduceToGrant (reduceToGrant b s))
    by_cases ho : overGrant s b = true
    · have hr : reduceToGrant b s = putLink (cabOf b) ((s.link (cabOf b)).hand (.setpoint (posOf b) (s.session b).grant))
          (putPower b ⟨(s.session b).grant, (s.power b).reported, some 5000⟩ s) :=
        (if_pos (of_decide_eq_true ho)).trans (reduce_up hvb (hu b List.mem_cons_self) _)
      have hlink : ∀ c, (reduceToGrant b s).link c = if cabOf b = c
          then (s.link c).hand (.setpoint (posOf b) (s.session b).grant) else s.link c := fun c => by
        rw [hr]
        exact link_hand (cabOf_valid hvb) _ (putPower b ⟨(s.session b).grant, (s.power b).reported, some 5000⟩ s)
      have hpower : ∀ j, (reduceToGrant b s).power j = if j = b
          then ⟨(s.session b).grant, (s.power b).reported, some 5000⟩ else s.power j := fun j => by
        rw [hr, putLink_at_power, power_putPower]
        exact if_congr (by simp [validBay_iff.mp hvb, eq_comm]) rfl rfl
      have hsession : ∀ j, (reduceToGrant b s).session j = s.session j := fun j => by rw [hr]; rfl
      have hover : ∀ j ∈ l, overGrant (reduceToGrant b s) j = overGrant s j := fun j hj => by
        have hjb : j ≠ b := fun e => hb (e ▸ hj)
        unfold overGrant
        rw [hpower j, if_neg hjb, hsession]
      have h := ih (reduceToGrant b s) fun j hj => by
        rw [hlink]
        split
        · rw [Link.hand_state]; exact hu j (List.mem_cons_of_mem b hj)
        · exact hu j (List.mem_cons_of_mem b hj)
      refine ⟨?_, fun j => ?_, fun c => ?_⟩
      · rw [h.rest, hr]
        rfl
      · rw [h.power, hpower, hsession]
        by_cases hj : j = b
        · subst hj
          rw [if_neg fun e => hb e.1, if_pos rfl, if_pos ⟨List.mem_cons_self, ho⟩]
        · rw [if_neg hj]
          exact if_congr ⟨fun ⟨h1, h2⟩ => ⟨(hmem j hj).mpr h1, hover j h1 ▸ h2⟩,
            fun ⟨h1, h2⟩ => ⟨(hmem j hj).mp h1, (hover j ((hmem j hj).mp h1)).symm ▸ h2⟩⟩ rfl rfl
      · have hf : (l.filter fun j => cabOf j = c && overGrant (reduceToGrant b s) j) =
            l.filter fun j => cabOf j = c && overGrant s j := List.filter_congr fun j hj => by rw [hover j hj]
        rw [h.link, hlink, hf]
        simp only [hsession]
        by_cases hc : cabOf b = c
        · rw [if_pos hc, List.filter_cons_of_pos (by simp [hc, ho])]
          rfl
        · rw [if_neg hc, List.filter_cons_of_neg (by simp [hc])]
    · have hr : reduceToGrant b s = s := if_neg fun h => ho (decide_eq_true h)
      rw [hr]
      have h := ih s fun j hj => hu j (List.mem_cons_of_mem b hj)
      refine ⟨h.rest, fun j => (h.power j).trans ?_, fun c => ?_⟩
      · by_cases hj : j = b
        · subst hj
          rw [if_neg fun e => ho e.2, if_neg fun e => ho e.2]
        · exact if_congr (and_congr_left fun _ => (hmem j hj).symm) rfl rfl
      · rw [h.link, List.filter_cons_of_neg (by simp [ho])]

/-! ### The rebuilt lists (R108, R109) -/

/-- The bond waiting list of a cabinet, from the last order (R107, step 4). -/
def rebuiltBonds (s : State) (c : Nat) : List BondEntry :=
  if (s.link c).state = .up then (s.alloc.lastOrder.filter fun b => cabOf b = c).filterMap (bondEntry s) else []

/-- The modules that the entries of a bond waiting list want, by their bays, in turn. -/
def wants (l : List BondEntry) : List Nat := l.flatMap fun e => List.replicate e.wanted e.bay

/-- A bond waiting list has one entry for a bay at most, and each entry wants a module (R108). -/
structure OneEach (l : List BondEntry) : Prop where
  nodup  : (l.map BondEntry.bay).Nodup
  wanted : ∀ e ∈ l, 1 ≤ e.wanted

/-- The state without the bond waiting lists. -/
def State.unlisted (s : State) : State := { s with bond := { s.bond with bondLists := Vector.replicate 8 [] } }

theorem rebuildBonds_rest (s : State) :
    rebuildBonds s = { s with bond := { s.bond with bondLists := (rebuildBonds s).bond.bondLists } } :=
  forEach_keeps (P := fun t => t = { s with bond := { s.bond with bondLists := t.bond.bondLists } })
    (fun c _ t h => by rw [h]; rfl) rfl

theorem rebuildBonds_list {c : Nat} (hc : validCab c = true) (s : State) :
    (rebuildBonds s).bondList c = rebuiltBonds s c := by
  obtain ⟨v, hv, he⟩ := (forEach_at (read := fun v c => (State.bondList v c, v.unlisted)) allCabs_nodup
    (f := fun c s => putBondList c (rebuiltBonds s c) s) (fun i _ j hij t => by
      rw [bondList_putBondList, if_neg fun e => hij e.1]
      rfl) s c).2 (mem_allCabs.mpr hc)
  have hu : v.unlisted = s.unlisted := (Prod.mk.inj hv).2
  calc (rebuildBonds s).bondList c
      = (putBondList c (rebuiltBonds v c) v).bondList c := (Prod.mk.inj he).1
    _ = rebuiltBonds v.unlisted c := by rw [bondList_putBondList, if_pos ⟨rfl, validCab_iff.mp hc⟩]; rfl
    _ = rebuiltBonds s c := by rw [hu]; rfl

/-- A bay's entry wants the modules that its grant needs beyond those BONDED and CLOSING. -/
theorem bondEntry_cases (s : State) (b : Nat) :
    (targetCount (s.session b).grant - (bonded s b + closing s b) = 0 ∧ bondEntry s b = none) ∨
    (1 ≤ targetCount (s.session b).grant - (bonded s b + closing s b) ∧
      bondEntry s b = some ⟨b, targetCount (s.session b).grant - (bonded s b + closing s b)⟩) := by
  unfold bondEntry
  dsimp only
  split
  · next h => exact .inr ⟨by omega, rfl⟩
  · next h => exact .inl ⟨by omega, rfl⟩

theorem wants_filterMap (s : State) (l : List Nat) : wants (l.filterMap (bondEntry s)) =
    l.flatMap fun b => List.replicate (targetCount (s.session b).grant - (bonded s b + closing s b)) b := by
  induction l with
  | nil => rfl
  | cons b l ih =>
    rw [List.flatMap_cons, ← ih]
    rcases bondEntry_cases s b with ⟨h0, h⟩ | ⟨-, h⟩
    · rw [List.filterMap_cons_none h, h0]
      rfl
    · rw [List.filterMap_cons_some h]
      rfl

theorem oneEach_filterMap (s : State) {l : List Nat} (hl : l.Nodup) : OneEach (l.filterMap (bondEntry s)) where
  nodup := by
    refine hl.sublist ?_
    clear hl
    induction l with
    | nil => exact .refl _
    | cons b l ih =>
      rcases bondEntry_cases s b with ⟨-, h⟩ | ⟨-, h⟩
      · rw [List.filterMap_cons_none h]
        exact ih.cons _
      · rw [List.filterMap_cons_some h]
        exact ih.cons_cons _
  wanted e he := by
    obtain ⟨b, -, hb⟩ := List.mem_filterMap.mp he
    rcases bondEntry_cases s b with ⟨-, h⟩ | ⟨h1, h⟩
    · rw [h] at hb; cases hb
    · rw [h] at hb
      exact Option.some.inj hb ▸ h1

theorem rebuiltBonds_oneEach {s : State} (hl : s.alloc.lastOrder.Nodup) (c : Nat) : OneEach (rebuiltBonds s c) := by
  unfold rebuiltBonds
  split
  · exact oneEach_filterMap s (hl.filter _)
  · exact ⟨List.nodup_nil, nofun⟩

end Sys2Proof.Machine
end

section
/-! The bond waiting lists served, and the raise waiting list examined, with the frames that each sends (R108, R109,
R111). -/

namespace Sys2Proof.Machine

/-! ### A bond waiting list is served (R108) -/

/-- The FREE modules of a cabinet, in ascending order. -/
def freeModules (s : State) (c : Nat) : List Nat := allModules.filter fun k => (s.module c k).state = .free

theorem freeModule_eq (s : State) (c : Nat) : freeModule s c = (freeModules s c).head? := List.head?_filter.symm

/-- A cabinet's modules after those of `given` have been closed for the bays beside them. -/
def closedFor (given : List (Nat × Nat)) (k : Nat) (x : Module) : Module :=
  match given.find? (fun g => g.1 = k) with
  | some g => ⟨.closing, some g.2, some 2000⟩
  | none => x

/-- Modules of cabinet `c` have been closed for bays, each with its BOND. -/
structure Served (c : Nat) (given : List (Nat × Nat)) (s t : State) : Prop where
  rest   : t = { s with bond := { s.bond with modules := t.bond.modules, bondLists := t.bond.bondLists }
                        links := t.links }
  module : ∀ d k, t.module d k = if d = c then closedFor given k (s.module d k) else s.module d k
  link   : ∀ d, t.link d = if d = c then (s.link d).handAll (given.map fun g => .bond g.1 (posOf g.2)) else s.link d
  list   : ∀ d, d ≠ c → t.bondList d = s.bondList d

theorem Served.none (c : Nat) (s : State) : Served c [] s s where
  rest := rfl
  module d k := by split <;> rfl
  link d := by split <;> rfl
  list _ _ := rfl

/-- What is served first and then the rest. -/
theorem Served.cons {c m b : Nat} {given : List (Nat × Nat)} {s t u : State} (h : Served c [(m, b)] s t)
    (k : Served c given t u) (hm : ∀ g ∈ given, g.1 ≠ m) : Served c ((m, b) :: given) s u where
  rest := by rw [k.rest, h.rest]
  module d j := by
    rw [k.module, h.module]
    by_cases hd : d = c
    · rw [if_pos hd, if_pos hd, if_pos hd]
      unfold closedFor
      by_cases hj : m = j
      · have hnone : given.find? (fun g => g.1 = j) = Option.none := by
          rw [List.find?_eq_none]
          exact fun g hg e => hm g hg ((of_decide_eq_true e).trans hj.symm)
        rw [hnone, List.find?_cons_of_pos (by simp [hj]), List.find?_cons_of_pos (by simp [hj])]
      · rw [List.find?_cons_of_neg (by simp [hj]), List.find?_cons_of_neg (by simp [hj])]
        rfl
    · rw [if_neg hd, if_neg hd, if_neg hd]
  link d := by
    rw [k.link, h.link]
    split <;> rfl
  list d hd := (k.list d hd).trans (h.list d hd)

/-- The entries left when the head entry has had one module. -/
def afterOne (e : BondEntry) (rest : List BondEntry) : List BondEntry :=
  if e.wanted ≤ 1 then rest else { e with wanted := e.wanted - 1 } :: rest

theorem wants_afterOne {e : BondEntry} (he : 1 ≤ e.wanted) (rest : List BondEntry) :
    wants (e :: rest) = e.bay :: wants (afterOne e rest) := by
  obtain ⟨bay, wanted⟩ := e
  obtain ⟨n, rfl⟩ : ∃ n, wanted = n + 1 := ⟨wanted - 1, by simp only at he; omega⟩
  unfold afterOne
  cases n with
  | zero => rfl
  | succ n => rw [if_neg (by simp)]; rfl

theorem OneEach.afterOne {e : BondEntry} {rest : List BondEntry} (h : OneEach (e :: rest)) :
    OneEach (afterOne e rest) := by
  obtain ⟨-, hn⟩ := List.nodup_cons.mp h.nodup
  unfold Machine.afterOne
  split
  · exact ⟨hn, fun i hi => h.wanted i (List.mem_cons_of_mem e hi)⟩
  · refine ⟨h.nodup, fun i hi => ?_⟩
    rcases List.mem_cons.mp hi with rfl | hi
    · dsimp only
      omega
    · exact h.wanted i (List.mem_cons_of_mem e hi)

theorem serveHead_idle {c : Nat} {s : State} (h : s.bondList c = [] ∨ freeModules s c = []) : serveHead c s = s := by
  unfold serveHead
  split
  · rfl
  · next he =>
    have hf := h.resolve_left (by simp [he])
    split
    · rfl
    · rw [freeModule_eq, hf]
      rfl

/-- The head entry takes the lowest FREE module (R108). -/
theorem serveHead_served {c m : Nat} {e : BondEntry} {rest : List BondEntry} {free : List Nat} (hc : validCab c = true)
    {s : State} (hs : s.faults.stopMinute = none) (hu : (s.link c).state = .up) (hl : s.bondList c = e :: rest)
    (hf : freeModules s c = m :: free) : Served c [(m, e.bay)] s (serveHead c s) ∧
      (serveHead c s).bondList c = afterOne e rest ∧ freeModules (serveHead c s) c = free := by
  have hm : m ∈ freeModules s c := by rw [hf]; exact List.mem_cons_self
  obtain ⟨hmem, -⟩ := List.mem_filter.mp hm
  have hvm := mem_allModules.mp hmem
  have he : serveHead c s = putBondList c (afterOne e rest) (putModule c m ⟨.closing, some e.bay, some 2000⟩
      (putLink c ((s.link c).hand (.bond m (posOf e.bay))) s)) := by
    unfold serveHead
    rw [hl]
    dsimp only
    rw [hs, freeModule_eq, hf]
    simp only [Option.isSome_none, Bool.false_eq_true, if_false, List.head?_cons]
    rw [show sendIfUp c (.bond m (posOf e.bay)) s = putLink c ((s.link c).hand (.bond m (posOf e.bay))) s from if_pos hu]
    rfl
  have hmod : ∀ d k, (serveHead c s).module d k = if c = d ∧ m = k then ⟨.closing, some e.bay, some 2000⟩
      else s.module d k := fun d k => by
    rw [he, putBondList_at_module]
    exact module_putModule _ c m d k _ hc hvm
  refine ⟨⟨?_, fun d k => ?_, fun d => ?_, fun d hd => ?_⟩, ?_, ?_⟩
  · rw [he]
    rfl
  · rw [hmod]
    by_cases hd : d = c
    · rw [if_pos hd]
      unfold closedFor
      by_cases hk : m = k
      · rw [if_pos ⟨hd.symm, hk⟩, List.find?_cons_of_pos (by simp [hk])]
      · rw [if_neg fun h => hk h.2, List.find?_cons_of_neg (by simp [hk])]
        rfl
    · rw [if_neg fun h => hd h.1.symm, if_neg hd]
  · rw [he, putBondList_at_link, putModule_at_link]
    refine (link_hand hc _ s).trans ?_
    by_cases hd : d = c
    · rw [if_pos hd.symm, if_pos hd]
      rfl
    · rw [if_neg fun h => hd h.symm, if_neg hd]
  · rw [he, bondList_putBondList, if_neg fun h => hd h.1.symm]
    rfl
  · rw [he, bondList_putBondList, if_pos ⟨rfl, validCab_iff.mp hc⟩]
  · have hn : (freeModules s c).Nodup := allModules_nodup.filter _
    have hd : freeModules (serveHead c s) c = (freeModules s c).filter fun k => k ≠ m := by
      unfold freeModules
      rw [List.filter_filter]
      refine List.filter_congr fun k _ => ?_
      rw [hmod]
      by_cases hk : m = k
      · rw [if_pos ⟨rfl, hk⟩]
        simp [hk]
      · rw [if_neg fun h => hk h.2]
        simp [Ne.symm hk]
    rw [hf] at hn hd
    rw [hd, List.filter_cons_of_neg (by simp), List.filter_eq_self]
    exact fun k hk => decide_eq_true fun e => (List.nodup_cons.mp hn).1 (e ▸ hk)

/-- What a cabinet's bond waiting list and FREE modules come to when the list is served while both last (R108). -/
structure ServedOut (c : Nat) (s t : State) : Prop where
  served : Served c ((freeModules s c).zip (wants (s.bondList c))) s t
  wants  : wants (t.bondList c) = (wants (s.bondList c)).drop (freeModules s c).length
  one    : OneEach (t.bondList c)

theorem servedOut_idle {c : Nat} {s : State} (ho : OneEach (s.bondList c))
    (hi : s.bondList c = [] ∨ freeModules s c = []) (n : Nat) : ServedOut c s ((serveHead c)^[n] s) := by
  rw [Function.iterate_fixed (serveHead_idle hi)]
  have hz : (freeModules s c).zip (wants (s.bondList c)) = [] := by
    rcases hi with hi | hi <;> rw [hi]
    · exact List.zip_nil_right
    · exact List.zip_nil_left
  refine ⟨hz ▸ .none c s, ?_, ho⟩
  rcases hi with hi | hi <;> rw [hi]
  · exact List.drop_nil.symm
  · rfl

theorem serveHead_iterate {c : Nat} (hc : validCab c = true) (n : Nat) {s : State} (hs : s.faults.stopMinute = none)
    (hu : s.bondList c ≠ [] → (s.link c).state = .up) (ho : OneEach (s.bondList c))
    (hn : (freeModules s c).length ≤ n) : ServedOut c s ((serveHead c)^[n] s) := by
  induction n generalizing s with
  | zero => exact servedOut_idle ho (.inr (List.length_eq_zero_iff.mp (Nat.le_zero.mp hn))) 0
  | succ n ih =>
    cases hf : freeModules s c with
    | nil => exact servedOut_idle ho (.inr hf) (n + 1)
    | cons m free =>
      cases hl : s.bondList c with
      | nil => exact servedOut_idle ho (.inl hl) (n + 1)
      | cons e rest =>
        obtain ⟨h, hrest, hfree⟩ := serveHead_served hc hs (hu (by simp [hl])) hl hf
        have hone : OneEach (e :: rest) := hl ▸ ho
        have hst : ((serveHead c s).link c).state = .up := by
          rw [h.link, if_pos rfl]
          exact (Link.hand_state ..).trans (hu (by simp [hl]))
        obtain ⟨h1, h2, h3⟩ := ih (s := serveHead c s) (by rw [h.rest]; exact hs) (fun _ => hst)
          (hrest ▸ hone.afterOne) (by rw [hf] at hn; rw [hfree]; exact Nat.le_of_succ_le_succ hn)
        have hnot : m ∉ free := (List.nodup_cons.mp (hf ▸ allModules_nodup.filter _ : (m :: free).Nodup)).1
        have hwants : wants (s.bondList c) = e.bay :: wants (afterOne e rest) :=
          hl ▸ wants_afterOne (hone.wanted e List.mem_cons_self) rest
        rw [hfree, hrest] at h1 h2
        rw [Function.iterate_succ_apply]
        refine ⟨?_, ?_, h3⟩
        · rw [hf, hwants]
          exact h.cons h1 fun g hg e => hnot (e ▸ (List.of_mem_zip hg).1)
        · rw [hf, hwants]
          exact h2

/-! ### All cabinets' bond waiting lists -/

/-- The head entry takes one module, or nothing is done. -/
theorem serveHead_cases (c : Nat) (s : State) : serveHead c s = s ∨ ∃ m b l, serveHead c s =
    putBondList c l (putModule c m ⟨.closing, some b, some contactorMs⟩ (sendIfUp c (.bond m (posOf b)) s)) := by
  unfold serveHead
  split
  · exact .inl rfl
  · split
    · exact .inl rfl
    · split
      · exact .inl rfl
      · exact .inr ⟨_, _, _, rfl⟩

theorem sendIfUp_bond (c : Nat) (m : CabMsg) (s : State) : (sendIfUp c m s).bond = s.bond := by
  unfold sendIfUp
  split <;> rfl

theorem serveHead_bondsOnly (c : Nat) (s : State) : BondsOnly s (serveHead c s) := by
  rcases serveHead_cases c s with h | ⟨m, b, l, h⟩ <;> rw [h]
  · exact .refl s
  · exact (BondsOnly.sendIfUp ..).trans ((BondsOnly.putModule ..).trans (BondsOnly.putBondList ..))

theorem serveHead_power (c : Nat) (s : State) : (serveHead c s).bond.bays = s.bond.bays ∧
    (serveHead c s).bond.raiseList = s.bond.raiseList := by
  rcases serveHead_cases c s with h | ⟨m, b, l, h⟩ <;> rw [h]
  · exact ⟨rfl, rfl⟩
  · have hb := sendIfUp_bond c (.bond m (posOf b)) s
    have hbays := congrArg BondController.bays hb
    have hraise := congrArg BondController.raiseList hb
    exact ⟨hbays, hraise⟩

/-- What the serving of a cabinet's list reads and writes. -/
def State.served (s : State) (c : Nat) : (Nat → Module) × List BondEntry × Link × Option Nat :=
  (s.module c, s.bondList c, s.link c, s.faults.stopMinute)

theorem serveHead_other {c d : Nat} (h : c ≠ d) (s : State) : (serveHead c s).served d = s.served d := by
  rcases serveHead_cases c s with he | ⟨m, b, l, he⟩
  · rw [he]
  · have hb := sendIfUp_bond c (.bond m (posOf b)) s
    have hmod : ∀ k, (serveHead c s).module d k = s.module d k := fun k => by
      rw [he, putBondList_at_module, (module_putModule_cases ..).resolve_right fun e => h e.1]
      unfold State.module
      rw [hb]
    have hlist : (serveHead c s).bondList d = s.bondList d := by
      rw [he, bondList_putBondList, if_neg fun e => h e.1]
      unfold State.bondList
      rw [putModule_bondLists, hb]
    have hlink : (serveHead c s).link d = s.link d := by
      rw [he, putBondList_at_link, putModule_at_link]
      unfold sendIfUp sendCab
      split
      · rw [link_putLink, if_neg fun e => h e.1]
      · rfl
    have hstop := congrArg FaultUnit.stopMinute (serveHead_bondsOnly c s).faults
    exact Prod.ext (funext hmod) (Prod.ext hlist (Prod.ext hlink hstop))

theorem serveBonds_eq (c : Nat) (s : State) : serveBonds c s = (serveHead c)^[4] s := rfl

theorem serveBonds_bondsOnly (c : Nat) (s : State) : BondsOnly s (serveBonds c s) :=
  (serveHead_bondsOnly c s).trans ((serveHead_bondsOnly ..).trans ((serveHead_bondsOnly ..).trans (serveHead_bondsOnly ..)))

theorem serveBonds_power (c : Nat) (s : State) : (serveBonds c s).bond.bays = s.bond.bays ∧
    (serveBonds c s).bond.raiseList = s.bond.raiseList := by
  unfold serveBonds
  simp only [serveHead_power, and_self]

theorem serveBonds_other {c d : Nat} (h : c ≠ d) (s : State) : (serveBonds c s).served d = s.served d := by
  unfold serveBonds
  rw [serveHead_other h, serveHead_other h, serveHead_other h, serveHead_other h]

theorem freeModules_length (s : State) (c : Nat) : (freeModules s c).length ≤ 4 :=
  List.length_filter_le _ allModules

/-- A cabinet's list after every list has been served (R108). -/
structure ServedAll (c : Nat) (s t : State) : Prop where
  module : ∀ k, t.module c k = closedFor ((freeModules s c).zip (wants (s.bondList c))) k (s.module c k)
  link   : t.link c = (s.link c).handAll
             (((freeModules s c).zip (wants (s.bondList c))).map fun g => .bond g.1 (posOf g.2))
  wants  : Machine.wants (t.bondList c) = (Machine.wants (s.bondList c)).drop (freeModules s c).length
  one    : OneEach (t.bondList c)

theorem servedAll {c : Nat} (hc : validCab c = true) {s : State} (hs : s.faults.stopMinute = none)
    (hu : s.bondList c ≠ [] → (s.link c).state = .up) (ho : OneEach (s.bondList c)) :
    ServedAll c s (forEach allCabs serveBonds s) := by
  obtain ⟨v, hv, he⟩ := (forEach_at (read := State.served) allCabs_nodup (f := serveBonds)
    (fun i _ j hij t => serveBonds_other hij t) s c).2 (mem_allCabs.mpr hc)
  obtain ⟨hm, hv⟩ := Prod.mk.inj hv
  obtain ⟨hl, hv⟩ := Prod.mk.inj hv
  obtain ⟨hk, hst⟩ := Prod.mk.inj hv
  obtain ⟨em, he⟩ := Prod.mk.inj he
  obtain ⟨el, he⟩ := Prod.mk.inj he
  obtain ⟨ek, -⟩ := Prod.mk.inj he
  have hf : freeModules v c = freeModules s c := by unfold freeModules; rw [hm]
  have h : ServedOut c v (serveBonds c v) := serveBonds_eq c v ▸ serveHead_iterate hc 4 (hst.trans hs)
    (by rw [hl, hk]; exact hu) (hl ▸ ho) (freeModules_length v c)
  obtain ⟨h1, h2, h3⟩ := h
  rw [hf, hl] at h1 h2
  refine ⟨fun k => ?_, ?_, ?_, ?_⟩
  · rw [em, h1.module, if_pos rfl, hm]
  · rw [ek, h1.link, if_pos rfl, hk]
  · rw [el, h2]
  · rw [el]
    exact h3

/-! ### The raise waiting list is examined (R111) -/

/-- Bays of a list have been raised, each once at most and within its grant, with SETPOINT sent in the order of the
list. -/
structure Raised (l : List Nat) (s t : State) : Prop where
  power  : ∀ b, b ∉ l → t.power b = s.power b
  rise   : ∀ b, (s.power b).commanded ≤ (t.power b).commanded
  within : ∀ b, (s.power b).commanded ≤ (s.session b).grant → (t.power b).commanded ≤ (s.session b).grant
  link   : ∀ c, t.link c = (s.link c).handAll
             ((l.filter fun b => cabOf b = c && (s.power b).commanded < (t.power b).commanded).map fun b =>
               .setpoint (posOf b) (t.power b).commanded)

/-- No bay is raised. -/
theorem Raised.same (l : List Nat) {s t : State} (hp : ∀ b, t.power b = s.power b) (hk : t.links = s.links) :
    Raised l s t where
  power b _ := hp b
  rise b := by rw [hp]
  within b hb := hp b ▸ hb
  link c := by
    have : (l.filter fun b => cabOf b = c && (s.power b).commanded < (t.power b).commanded) = [] := by
      rw [List.filter_eq_nil_iff]
      exact fun b _ => by simp [hp]
    rw [this]
    unfold State.link
    rw [hk]
    rfl

/-- The head bay is passed over. -/
theorem Raised.skip {b : Nat} {l : List Nat} {s t : State} (h : Raised l s t) (hb : b ∉ l) : Raised (b :: l) s t where
  power j hj := h.power j fun e => hj (List.mem_cons_of_mem b e)
  rise := h.rise
  within := h.within
  link c := by
    rw [h.link, List.filter_cons_of_neg (by simp [h.power b hb])]

theorem sendSetpoint_power (b v : Nat) (s : State) (j : Nat) : (sendSetpoint b v s).power j =
    if b = j ∧ 1 ≤ b ∧ b ≤ 48 then { s.power b with commanded := v } else s.power j := by
  unfold sendSetpoint
  rw [sendIfUp_power, power_putPower]

/-- The head bay is raised. -/
theorem Raised.raise {b v : Nat} {l : List Nat} {s t : State} (h : Raised l (sendSetpoint b v s) t) (hb : b ∉ l)
    (hvb : validBay b = true) (hu : (s.link (cabOf b)).state = .up) (hc : (s.power b).commanded < v)
    (hg : v ≤ (s.session b).grant) : Raised (b :: l) s t := by
  have hself : (sendSetpoint b v s).power b = { s.power b with commanded := v } :=
    (sendSetpoint_power b v s b).trans (if_pos ⟨rfl, validBay_iff.mp hvb⟩)
  have hother : ∀ j, j ≠ b → (sendSetpoint b v s).power j = s.power j := fun j hj =>
    (sendSetpoint_power b v s j).trans (if_neg fun e => hj e.1.symm)
  have htb : (t.power b).commanded = v := by rw [h.power b hb, hself]
  have hlink : ∀ c, (sendSetpoint b v s).link c =
      if cabOf b = c then (s.link c).hand (.setpoint (posOf b) v) else s.link c := fun c => by
    have hs : sendSetpoint b v s = putLink (cabOf b) ((s.link (cabOf b)).hand (.setpoint (posOf b) v))
        (putPower b { s.power b with commanded := v } s) := if_pos hu
    rw [hs]
    exact link_hand (cabOf_valid hvb) _ (putPower b { s.power b with commanded := v } s)
  refine ⟨fun j hj => ?_, fun j => ?_, fun j hj => ?_, fun c => ?_⟩
  · obtain ⟨hjb, hjl⟩ := List.ne_and_not_mem_of_not_mem_cons hj
    rw [h.power j hjl, hother j hjb]
  · by_cases hjb : j = b
    · rw [hjb, htb]
      exact Nat.le_of_lt hc
    · exact hother j hjb ▸ h.rise j
  · by_cases hjb : j = b
    · rw [hjb, htb]
      exact hg
    · have := h.within j
      rw [hother j hjb, sendSetpoint_grant] at this
      exact this hj
  · have hf : (l.filter fun j => cabOf j = c && ((sendSetpoint b v s).power j).commanded < (t.power j).commanded) =
        l.filter fun j => cabOf j = c && (s.power j).commanded < (t.power j).commanded :=
      List.filter_congr fun j hj => by rw [hother j fun e => hb (e ▸ hj)]
    rw [h.link, hlink, hf]
    by_cases hcb : cabOf b = c
    · rw [if_pos hcb, List.filter_cons_of_pos (by simp [hcb, htb, hc]), List.map_cons, htb]
      rfl
    · rw [if_neg hcb, List.filter_cons_of_neg (by simp [hcb])]

theorem examineFrom_raised {l : List Nat} (hl : l.Nodup) (hv : ∀ b ∈ l, validBay b = true) {s : State}
    (hu : ∀ b ∈ l, (s.link (cabOf b)).state = .up) : Raised l s (examineFrom l s) := by
  induction l generalizing s with
  | nil => exact .same [] (fun _ => rfl) rfl
  | cons b l ih =>
    obtain ⟨hb, hn⟩ := List.nodup_cons.mp hl
    have ih := fun s hu => ih hn (fun j hj => hv j (List.mem_cons_of_mem b hj)) (s := s) hu
    have hul : ∀ j ∈ l, (s.link (cabOf j)).state = .up := fun j hj => hu j (List.mem_cons_of_mem b hj)
    unfold examineFrom
    dsimp only
    split
    · exact (ih s hul).skip hb
    · split
      · exact .same _ (fun _ => rfl) rfl
      · split
        · exact .same _ (fun _ => rfl) rfl
        · next hy =>
          have hlim := raiseOf_le s b (by omega)
          have hg : raiseLimit s b ≤ (s.session b).grant := Nat.min_le_left ..
          have step : ∀ {t}, Raised l (sendSetpoint b ((s.power b).commanded + (raiseOf s b).toNat) s) t →
              Raised (b :: l) s t := fun h => h.raise hb (hv b List.mem_cons_self) (hu b List.mem_cons_self)
            (by omega) (by omega)
          split
          · exact step (ih _ fun j hj => (link_of_ripple (sendSetpoint_ripple ..) _).1.trans (hul j hj))
          · exact step (.same _ (fun _ => rfl) rfl)

end Sys2Proof.Machine
end

section
/-! A publication as a whole: what the six steps of R107 make of each cabinet, one after the other. -/

namespace Sys2Proof.Machine

/-! ### Modules and setpoints (R107, steps 1 to 3) -/

theorem mem_upBays {s : State} {b : Nat} :
    b ∈ upBays s ↔ validBay b = true ∧ (s.link (cabOf b)).state = .up := by
  unfold upBays
  rw [List.mem_filter, mem_allBays, decide_eq_true_iff]

theorem upBays_nodup (s : State) : (upBays s).Nodup := allBays_nodup.filter _

theorem BondsOnly.upBays {s t : State} (h : BondsOnly s t) : upBays t = upBays s :=
  List.filter_congr fun b _ => by rw [h.state]

theorem reduceToGrant_bondsOnly (b : Nat) (s : State) : BondsOnly s (reduceToGrant b s) := by
  unfold reduceToGrant
  split
  · exact .reduce ..
  · exact .refl s

/-- The state once ramps are cancelled, setpoints reduced and excess modules released. -/
def settled (s : State) : State :=
  forEach (upBays s) releaseExcess (forEach (upBays s) reduceToGrant (forEach (upBays s) cancelRamps s))

/-- The state once the two kinds of waiting list are rebuilt. -/
def listed (s : State) : State := rebuildRaises (rebuildBonds (settled s))

/-- The state once the bond waiting lists are served. -/
def served (s : State) : State := forEach allCabs serveBonds (listed s)

theorem cancelled_only (s : State) : ModulesOnly s (forEach (upBays s) cancelRamps s) :=
  .forEach cancelRamps_converting.only _ s

theorem reduced_only (s : State) :
    BondsOnly s (forEach (upBays s) reduceToGrant (forEach (upBays s) cancelRamps s)) :=
  (cancelled_only s).bondsOnly.trans (.forEach reduceToGrant_bondsOnly _ _)

theorem bondPublication_eq (s : State) : bondPublication s = examineRaises (served s) := by
  have h1 := (cancelled_only s).bondsOnly.upBays
  have h2 := (reduced_only s).upBays
  unfold served listed settled
  calc bondPublication s
      = examineRaises (forEach allCabs serveBonds (rebuildRaises (rebuildBonds
          (forEach (upBays (forEach (upBays (forEach (upBays s) cancelRamps s)) reduceToGrant
            (forEach (upBays s) cancelRamps s))) releaseExcess
          (forEach (upBays (forEach (upBays s) cancelRamps s)) reduceToGrant
            (forEach (upBays s) cancelRamps s)))))) := rfl
    _ = _ := by rw [h1, h2]

theorem cancelled_reduced (s : State) : Reduced (upBays s) (forEach (upBays s) cancelRamps s)
    (forEach (upBays s) reduceToGrant (forEach (upBays s) cancelRamps s)) :=
  reduced (upBays_nodup s) (fun _ hb => (mem_upBays.mp hb).1) fun b hb => by
    rw [(cancelled_only s).bondsOnly.state]
    exact (mem_upBays.mp hb).2

theorem ModulesOnly.power {s t : State} (h : ModulesOnly s t) (b : Nat) : t.power b = s.power b := by
  rw [h]
  rfl

theorem ModulesOnly.link {s t : State} (h : ModulesOnly s t) (c : Nat) : t.link c = s.link c := by
  rw [h]
  rfl

theorem ModulesOnly.overGrant {s t : State} (h : ModulesOnly s t) (b : Nat) : overGrant t b = overGrant s b := by
  unfold Machine.overGrant
  rw [h.session, h.power]

theorem released_only (s : State) :
    ModulesOnly (forEach (upBays s) reduceToGrant (forEach (upBays s) cancelRamps s)) (settled s) :=
  .forEach releaseExcess_converting.only _ _

theorem settled_only (s : State) : BondsOnly s (settled s) := (reduced_only s).trans (released_only s).bondsOnly

theorem settled_modules (s : State) : Trimmed (upBays s) s (settled s) :=
  trimmed (upBays_nodup s) (fun _ hb => (mem_upBays.mp hb).1) (by rw [(cancelled_reduced s).rest])
    (reduced_only s).sessions

/-- A setpoint above its grant has taken it, and every other one stands. -/
theorem settled_power (s : State) (b : Nat) : (settled s).power b = if b ∈ upBays s ∧ overGrant s b = true
    then ⟨(s.session b).grant, (s.power b).reported, some 5000⟩ else s.power b := by
  have h := cancelled_only s
  rw [(released_only s).power, (cancelled_reduced s).power, h.overGrant, h.session, h.power]

theorem settled_link (s : State) (c : Nat) : (settled s).link c = (s.link c).handAll
    (((upBays s).filter fun b => cabOf b = c && overGrant s b).map fun b =>
      .setpoint (posOf b) (s.session b).grant) := by
  have h := cancelled_only s
  rw [(released_only s).link, (cancelled_reduced s).link]
  simp only [h.overGrant, h.session, h.link]

/-- A module that changes is BONDED or RAMPING, before and after. -/
theorem settled_cases (s : State) (c k : Nat) : (settled s).module c k = s.module c k ∨
    ∀ st : ModuleState, st ≠ .bonded → st ≠ .ramping → ((settled s).module c k).state ≠ st ∧ (s.module c k).state ≠ st :=
  ((settled_modules s).changed c k).imp_right fun ⟨h, h'⟩ _ hb hr =>
    ⟨fun e => h'.elim (fun h' => hb (e ▸ h')) fun h' => hr (e ▸ h'),
      fun e => h.elim (fun h => hb (e ▸ h)) fun h => hr (e ▸ h)⟩

theorem settled_free (s : State) (c : Nat) : freeModules (settled s) c = freeModules s c :=
  List.filter_congr fun k _ => by
    rcases settled_cases s c k with h | h
    · rw [h]
    · obtain ⟨ht, hs⟩ := h .free (by decide) (by decide)
      simp [ht, hs]

theorem settled_closing (s : State) (b : Nat) : closing (settled s) b = closing s b :=
  congrArg List.length (List.filter_congr fun k _ => by
    rcases settled_cases s (cabOf b) k with h | h
    · rw [h]
    · obtain ⟨ht, hs⟩ := h .closing (by decide) (by decide)
      simp [ht, hs])

theorem settled_down {s : State} {c : Nat} (hc : (s.link c).state ≠ .up) (k : Nat) :
    (settled s).module c k = s.module c k :=
  (settled_modules s).others c k (.inl fun _ hb e => hc (e ▸ (mem_upBays.mp hb).2))

/-! ### The waiting lists (R107, step 4) -/

/-- Nothing but waiting lists has changed. -/
def ListsOnly (s t : State) : Prop :=
  t = { s with bond := { s.bond with bondLists := t.bond.bondLists, raiseList := t.bond.raiseList } }

namespace ListsOnly

variable {s t : State} (h : ListsOnly s t)
include h

theorem bondsOnly : BondsOnly s t where
  rest := by rw [h]
  reported _ := by rw [h]; rfl
  link _ := by rw [h]; exact .refl _

theorem module (c k : Nat) : t.module c k = s.module c k := by
  rw [h]
  rfl

theorem power (b : Nat) : t.power b = s.power b := by
  rw [h]
  rfl

theorem link (c : Nat) : t.link c = s.link c := by
  rw [h]
  rfl

end ListsOnly

theorem rebuildBonds_only (s : State) : ListsOnly s (rebuildBonds s) := by
  unfold ListsOnly
  have h := rebuildBonds_rest s
  generalize rebuildBonds s = t at h
  rw [h]

theorem rebuildRaises_only (s : State) : ListsOnly s (rebuildRaises s) := rfl

theorem ListsOnly.trans {s t u : State} (h : ListsOnly s t) (k : ListsOnly t u) : ListsOnly s u := by
  unfold ListsOnly at *
  rw [k, h]

theorem listed_lists (s : State) : ListsOnly (settled s) (listed s) :=
  (rebuildBonds_only _).trans (rebuildRaises_only _)

theorem listed_only (s : State) : BondsOnly s (listed s) := (settled_only s).trans (listed_lists s).bondsOnly

theorem rebuildRaises_bondList (s : State) (c : Nat) : (rebuildRaises s).bondList c = s.bondList c := rfl

theorem listed_bondList {c : Nat} (hc : validCab c = true) (s : State) :
    (listed s).bondList c = rebuiltBonds (settled s) c := by
  unfold listed
  rw [rebuildRaises_bondList, rebuildBonds_list hc]

theorem listed_free (s : State) (c : Nat) : freeModules (listed s) c = freeModules s c := by
  unfold freeModules
  simp only [(listed_lists s).module]
  exact settled_free s c

/-- The raise waiting list has the bays of UP cabinets whose setpoint is below the grant, as both stood (R109). -/
theorem listed_raises (s : State) : (listed s).bond.raiseList = s.alloc.lastOrder.filter fun b =>
    (s.link (cabOf b)).state = .up && (s.power b).commanded < (s.session b).grant := by
  have h := rebuildBonds_only (settled s)
  have hl : (listed s).bond.raiseList = (rebuildBonds (settled s)).alloc.lastOrder.filter fun b =>
    ((rebuildBonds (settled s)).link (cabOf b)).state = .up &&
      ((rebuildBonds (settled s)).power b).commanded < ((rebuildBonds (settled s)).session b).grant := rfl
  rw [hl, h.bondsOnly.alloc, (settled_only s).alloc]
  refine List.filter_congr fun b _ => ?_
  rw [h.link, h.power, h.bondsOnly.session, (settled_only s).state, (settled_only s).session, settled_power]
  split
  · next h =>
    have := of_decide_eq_true h.2
    simp only [Nat.lt_irrefl, decide_false, Bool.and_false]
    simp [Nat.not_lt.mpr (Nat.le_of_lt this)]
  · rfl

/-- The modules that each bay of a cabinet lacks, in the last order (R108). -/
def lacking (s : State) (c : Nat) : List Nat :=
  (s.alloc.lastOrder.filter fun b => cabOf b = c).flatMap fun b => List.replicate
    (targetCount (s.session b).grant - (min (max (bonded s b) (min (targetCount (s.session b).grant)
      (bonded s b + ramping s b))) (targetCount (s.session b).grant) + closing s b)) b

/-- What a publication finds: different bays in the last order, and no site stop. -/
structure Publishable (s : State) : Prop where
  order : BaysListed s.alloc.lastOrder
  stop  : s.faults.stopMinute = none

theorem wants_listed {s : State} (h : Publishable s) {c : Nat} (hc : validCab c = true)
    (hu : (s.link c).state = .up) : wants ((listed s).bondList c) = lacking s c := by
  rw [listed_bondList hc]
  unfold rebuiltBonds lacking
  rw [if_pos ((settled_only s).state c ▸ hu), wants_filterMap, (settled_only s).alloc]
  refine List.flatMap_congr fun b hb => ?_
  obtain ⟨hbo, hbc⟩ := List.mem_filter.mp hb
  have hbu : b ∈ upBays s := mem_upBays.mpr ⟨h.order.valid b hbo, by rw [of_decide_eq_true hbc]; exact hu⟩
  rw [(settled_only s).session, (settled_modules s).bonded b hbu, settled_closing]

/-! ### The bond waiting lists served (R107, step 5) -/

theorem served_only (s : State) : BondsOnly s (served s) :=
  (listed_only s).trans (.forEach serveBonds_bondsOnly _ _)

theorem served_power (s : State) (b : Nat) : (served s).power b = (settled s).power b := by
  have h : (served s).bond.bays = (listed s).bond.bays := by
    unfold served
    exact forEach_fields (fun s => s.bond.bays) (fun c s => (serveBonds_power c s).1) _ _
  rw [← (listed_lists s).power]
  unfold State.power
  rw [h]

theorem served_raises (s : State) : (served s).bond.raiseList = (listed s).bond.raiseList := by
  unfold served
  exact forEach_fields (fun s => s.bond.raiseList) (fun c s => (serveBonds_power c s).2) _ _

theorem served_cabinet {s : State} (h : Publishable s) {c : Nat} (hc : validCab c = true) :
    ServedAll c (listed s) (served s) := by
  refine servedAll hc (by rw [(listed_only s).faults]; exact h.stop) (fun hl => ?_) ?_
  · rw [listed_bondList hc] at hl
    rw [(listed_only s).state, ← (settled_only s).state]
    by_contra hu
    exact hl (if_neg hu)
  · rw [listed_bondList hc]
    exact rebuiltBonds_oneEach (by rw [(settled_only s).alloc]; exact h.order.nodup) c

theorem wants_nil : wants [] = [] := rfl

theorem closedFor_nil (k : Nat) (x : Module) : closedFor [] k x = x := rfl

/-- Only FREE modules are given. -/
theorem closedFor_cases (s : State) (c k : Nat) (l : List Nat) (x : Module) :
    closedFor ((freeModules s c).zip l) k x = x ∨ ((s.module c k).state = .free ∧
      (closedFor ((freeModules s c).zip l) k x).state = .closing) := by
  unfold closedFor
  split
  · next g hg =>
    have hk : g.1 = k := by simpa using List.find?_some hg
    have hm := (List.of_mem_zip (List.mem_of_find?_eq_some hg)).1
    rw [hk] at hm
    obtain ⟨-, hfree⟩ := List.mem_filter.mp hm
    exact .inr ⟨of_decide_eq_true hfree, rfl⟩
  · exact .inl rfl

theorem module_out {s : State} {c : Nat} (hc : ¬ validCab c = true) (k : Nat) : s.module c k = Module.reset := by
  refine get1_out _ _ fun h => hc ?_
  unfold moduleIndex at h
  split at h
  · next hk =>
    simp only [Bool.and_eq_true, validModule_iff, decide_eq_true_eq] at hk
    exact validCab_iff.mpr (by omega)
  · omega

/-- Serving gives FREE modules only. -/
theorem served_module {s : State} (h : Publishable s) (c k : Nat) : (served s).module c k = (settled s).module c k ∨
    (((settled s).module c k).state = .free ∧ ((served s).module c k).state = .closing) := by
  by_cases hc : validCab c = true
  · have := (served_cabinet h hc).module k
    rw [(listed_lists s).module] at this
    rw [this]
    exact (listed_lists s).module c k ▸ closedFor_cases (listed s) c k _ _
  · exact .inl ((module_out hc k).trans (module_out hc k).symm)

theorem served_bonded {s : State} (h : Publishable s) (b : Nat) : bonded (served s) b = bonded (settled s) b :=
  congrArg List.length (List.filter_congr fun k _ => by
    rcases served_module h (cabOf b) k with e | ⟨e, e'⟩
    · rw [e]
    · rw [e, e']
      simp)

/-- Nothing is served at a cabinet that is not UP. -/
theorem served_down {s : State} (h : Publishable s) {c : Nat} (hu : (s.link c).state ≠ .up) (k : Nat) :
    (served s).module c k = s.module c k := by
  by_cases hc : validCab c = true
  · have hl : (listed s).bondList c = [] := by
      rw [listed_bondList hc]
      unfold rebuiltBonds
      rw [if_neg (by rw [(settled_only s).state]; exact hu)]
    have hm := (served_cabinet h hc).module k
    rw [hl, wants_nil, List.zip_nil_right, closedFor_nil, (listed_lists s).module, settled_down hu] at hm
    exact hm
  · exact (module_out hc k).trans (module_out hc k).symm

end Sys2Proof.Machine
end

section
/-! The publication with the raises that end it (R107, step 6, R109, R111), cabinet by cabinet. -/

namespace Sys2Proof.Machine

/-- The bays of UP cabinets that a publication may raise, in the last order (R109). -/
def raiseBays (s : State) : List Nat := s.alloc.lastOrder.filter fun b =>
  (s.link (cabOf b)).state = .up && (s.power b).commanded < (s.session b).grant

theorem mem_raiseBays {s : State} {b : Nat} : b ∈ raiseBays s ↔ b ∈ s.alloc.lastOrder ∧
    (s.link (cabOf b)).state = .up ∧ (s.power b).commanded < (s.session b).grant := by
  unfold raiseBays
  rw [List.mem_filter, Bool.and_eq_true, decide_eq_true_iff, decide_eq_true_iff]

/-- A setpoint of an UP cabinet goes down to its grant where it stands above it. -/
theorem settled_commanded (s : State) (b : Nat) : ((settled s).power b).commanded =
    if b ∈ upBays s then min (s.power b).commanded (s.session b).grant else (s.power b).commanded := by
  rw [settled_power]
  unfold overGrant
  by_cases hb : b ∈ upBays s
  · rw [if_pos hb]
    by_cases ho : (s.session b).grant < (s.power b).commanded
    · rw [if_pos ⟨hb, decide_eq_true ho⟩]
      exact (Nat.min_eq_right (Nat.le_of_lt ho)).symm
    · rw [if_neg fun h => ho (of_decide_eq_true h.2)]
      exact (Nat.min_eq_left (Nat.not_lt.mp ho)).symm
  · rw [if_neg hb, if_neg fun h => hb h.1]

theorem examineFrom_bondLists (l : List Nat) (s : State) : (examineFrom l s).bond.bondLists = s.bond.bondLists := by
  induction l generalizing s with
  | nil => rfl
  | cons b l ih =>
    have hsend : ∀ v, (sendSetpoint b v s).bond.bondLists = s.bond.bondLists := fun v => by
      unfold sendSetpoint
      rw [sendIfUp_bond]
      rfl
    unfold examineFrom
    dsimp only
    split
    · exact ih s
    · split
      · rfl
      · split
        · rfl
        · split
          · exact (ih _).trans (hsend _)
          · exact hsend _

theorem published_only (s : State) : BondsOnly s (bondPublication s) := by
  rw [bondPublication_eq]
  exact (served_only s).trans (.examineRaises _)

theorem published_modules (s : State) : (bondPublication s).bond.modules = (served s).bond.modules := by
  rw [bondPublication_eq]
  exact (examineRaises_ripple (served s)).modules

theorem published_module (s : State) (c k : Nat) : (bondPublication s).module c k = (served s).module c k := by
  unfold State.module
  rw [published_modules]

theorem reduced_filter {s : State} {c : Nat} (hc : validCab c = true) (hu : (s.link c).state = .up) :
    ((upBays s).filter fun b => cabOf b = c && overGrant s b) = (baysOf c).filter (overGrant s) := by
  have hb : ∀ c ∈ allCabs, (allBays.filter fun b => cabOf b = c) = baysOf c := by decide
  unfold upBays
  rw [← hb c (mem_allCabs.mpr hc), List.filter_filter, List.filter_filter]
  refine List.filter_congr fun b _ => ?_
  by_cases hbc : cabOf b = c
  · simp [hbc, hu]
  · simp [hbc]

section
variable {s : State} (h : Publishable s)
include h

theorem published_raised : Raised (raiseBays s) (served s) (bondPublication s) := by
  have hr : (served s).bond.raiseList = raiseBays s := (served_raises s).trans (listed_raises s)
  have hs : (served s).faults.stopMinute.isSome = false := by rw [(served_only s).faults, h.stop]; rfl
  rw [bondPublication_eq]
  unfold examineRaises
  rw [if_neg (by simp [hs]), hr]
  refine examineFrom_raised (h.order.nodup.filter _) (fun b hb => h.order.valid b (mem_raiseBays.mp hb).1) fun b hb => ?_
  rw [(served_only s).state]
  exact (mem_raiseBays.mp hb).2.1

theorem published_bonded (b : Nat) : bonded (bondPublication s) b = bonded (settled s) b := by
  rw [← served_bonded h]
  exact congrArg List.length (List.filter_congr fun k _ => by rw [published_module])

/-- At an UP cabinet neither a setpoint nor the BONDED modules exceed the grant. -/
theorem published_up {b : Nat} (hb : validBay b = true) (hu : (s.link (cabOf b)).state = .up) :
    ((bondPublication s).power b).commanded ≤ (s.session b).grant ∧
      bonded (bondPublication s) b ≤ targetCount (s.session b).grant := by
  have hm := mem_upBays.mpr ⟨hb, hu⟩
  constructor
  · have hw := (published_raised h).within b
    rw [(served_only s).session, served_power, settled_commanded, if_pos hm] at hw
    exact hw (Nat.min_le_right ..)
  · rw [published_bonded h, (settled_modules s).bonded b hm]
    exact Nat.min_le_right ..

/-- At a cabinet that is not UP setpoints and modules stand. -/
theorem published_down {b : Nat} (hu : (s.link (cabOf b)).state ≠ .up) :
    (bondPublication s).power b = s.power b ∧ bonded (bondPublication s) b = bonded s b := by
  constructor
  · rw [(published_raised h).power b fun hb => hu (mem_raiseBays.mp hb).2.1, served_power, settled_power,
      if_neg fun hb => hu (mem_upBays.mp hb.1).2]
  · exact congrArg List.length (List.filter_congr fun k _ => by rw [published_module, served_down h hu])

/-- A raised setpoint is one that a publication found below its grant. -/
theorem raised_filter {c : Nat} (hu : (s.link c).state = .up) :
    ((raiseBays s).filter fun b => cabOf b = c &&
      ((served s).power b).commanded < ((bondPublication s).power b).commanded) =
    (s.alloc.lastOrder.filter fun b => cabOf b = c).filter fun b =>
      (s.power b).commanded < ((bondPublication s).power b).commanded := by
  unfold raiseBays
  rw [List.filter_filter, List.filter_filter]
  refine List.filter_congr fun b hb => ?_
  by_cases hc : cabOf b = c
  · subst hc
    have hm := mem_upBays.mpr ⟨h.order.valid b hb, hu⟩
    have hs : ((served s).power b).commanded = min (s.power b).commanded (s.session b).grant := by
      rw [served_power, settled_commanded, if_pos hm]
    by_cases hr : (s.power b).commanded < (s.session b).grant
    · rw [hs, Nat.min_eq_left (Nat.le_of_lt hr)]
      simp [hu, hr]
    · have hp := (published_raised h).power b fun hb => hr (mem_raiseBays.mp hb).2.2
      rw [hp, hs]
      simp [hr]
  · simp [hc]

/-- What an UP cabinet is sent: its reductions in ascending order of the bays, its bonds, and its raises in the last
order. -/
theorem published_link {c : Nat} (hc : validCab c = true) (hu : (s.link c).state = .up) :
    (bondPublication s).link c = (s.link c).handAll (
      (((baysOf c).filter (overGrant s)).map fun b => .setpoint (posOf b) (s.session b).grant) ++
      (((freeModules s c).zip (lacking s c)).map fun g => .bond g.1 (posOf g.2)) ++
      (((s.alloc.lastOrder.filter fun b => cabOf b = c).filter fun b =>
        (s.power b).commanded < ((bondPublication s).power b).commanded).map fun b =>
          .setpoint (posOf b) ((bondPublication s).power b).commanded)) := by
  rw [Link.handAll_append, Link.handAll_append, (published_raised h).link, raised_filter h hu,
    (served_cabinet h hc).link, listed_free, wants_listed h hc hu, (listed_lists s).link, settled_link,
    reduced_filter hc hu]

/-- The modules of an UP cabinet: FREE ones are closed for the bays that lack them. -/
theorem published_cabinet {c : Nat} (hc : validCab c = true) (hu : (s.link c).state = .up) (k : Nat) :
    (bondPublication s).module c k = closedFor ((freeModules s c).zip (lacking s c)) k ((settled s).module c k) := by
  rw [published_module, (served_cabinet h hc).module, listed_free, wants_listed h hc hu, (listed_lists s).module]

/-- A module that was BONDED or RAMPING is not given. -/
theorem published_engaged {c k : Nat} (hc : validCab c = true) (hu : (s.link c).state = .up)
    (hk : (s.module c k).state ≠ .free) : (bondPublication s).module c k = (settled s).module c k := by
  rw [published_cabinet h hc hu]
  refine (closedFor_cases s c k _ _).resolve_right fun e => hk e.1

theorem published_list {c : Nat} (hc : validCab c = true) (hu : (s.link c).state = .up) :
    wants ((bondPublication s).bondList c) = (lacking s c).drop (freeModules s c).length ∧
      OneEach ((bondPublication s).bondList c) := by
  have hl : (bondPublication s).bondList c = (served s).bondList c := by
    rw [bondPublication_eq]
    unfold State.bondList examineRaises
    split
    · rfl
    · rw [examineFrom_bondLists]
  have hs := served_cabinet h hc
  rw [hl, hs.wants, wants_listed h hc hu, listed_free]
  exact ⟨rfl, hs.one⟩

end

end Sys2Proof.Machine
end

section
/-! The completion of a pass: what is written, published and started again (R93 to R96). -/

namespace Sys2Proof.Machine

theorem targetCount_eq (g : Nat) : targetCount g = (g + 299) / 300 := ceilDiv_300 g

theorem overLimits_iff (s : State) (r : PassResult) : overLimits s r = true ↔
    s.env.available < r.total ∨ ∃ c, validCab c = true ∧ (s.ceiling c).steps < ((baysOf c).map r.grant).sum := by
  unfold overLimits
  rw [Bool.or_eq_true, decide_eq_true_iff, List.any_eq_true]
  exact or_congr_right (exists_congr fun c => and_congr mem_allCabs decide_eq_true_iff)

theorem withdrawn_iff (p : Snapshot) (s : State) (b : Nat) : withdrawn p s b = true ↔
    (s.session b).serial ≠ (p.bay b).serial ∨ (s.session b).state = .vacant ∨ (s.session b).state = .identifying ∨
      (s.session b).holds.any = true ∨ (s.link (cabOf b)).state ≠ .up := by
  simp [withdrawn, or_assoc]

/-- The session that a publication writes for a bay (R94). -/
def publishedSession (p : Snapshot) (r : PassResult) (s : State) (b : Nat) : Session :=
  if withdrawn p s b then { s.session b with grant := 0, short := false, preShort := false }
  else { s.session b with grant := r.grant b, short := get1 r.short false b, preShort := get1 r.preShort false b }

theorem publishBay_eq (p : Snapshot) (r : PassResult) (b : Nat) (s : State) :
    publishBay p r b s = putSession b (publishedSession p r s b) s := by
  unfold publishBay publishedSession
  dsimp only
  split <;> rfl

/-- The session of a bay and the state of its cabinet's link, on which the filter of R94 looks. -/
def State.filtered (s : State) (b : Nat) : Session × LinkState := (s.session b, (s.link (cabOf b)).state)

theorem publishedSession_congr {p : Snapshot} {r : PassResult} {s t : State} {b : Nat}
    (h : t.filtered b = s.filtered b) : publishedSession p r t b = publishedSession p r s b := by
  obtain ⟨hx, hl⟩ := Prod.mk.inj h
  unfold publishedSession withdrawn
  rw [hx, hl]

theorem publishBays_session (p : Snapshot) (r : PassResult) (s : State) {b : Nat} (hb : validBay b = true) :
    (forEach allBays (publishBay p r) s).session b = publishedSession p r s b := by
  obtain ⟨v, hv, he⟩ := (forEach_at (read := State.filtered) allBays_nodup (f := publishBay p r)
    (fun i _ j hij t => by
      rw [publishBay_eq]
      refine Prod.ext ?_ rfl
      exact (session_putSession ..).trans (if_neg fun e => hij e.1)) s b).2 (mem_allBays.mpr hb)
  have hs : (forEach allBays (publishBay p r) s).session b = (publishBay p r b v).session b := (Prod.mk.inj he).1
  rw [hs, publishBay_eq, session_putSession_self _ _ _ hb, publishedSession_congr hv]

/-- The state in which the grants and the last order are written and the bond controller has not yet acted (R94,
R95). -/
def written (p : Snapshot) (s : State) : State :=
  { forEach allBays (publishBay p (passResult p)) s with
    alloc := { (forEach allBays (publishBay p (passResult p)) s).alloc with lastOrder := (passResult p).order } }

theorem writePublication_eq (p : Snapshot) (s : State) :
    writePublication p (passResult p) s = bondPublication (written p s) := rfl

theorem written_eq (p : Snapshot) (s : State) : written p s = { s with
    sessions := (written p s).sessions, alloc := { s.alloc with lastOrder := (passResult p).order } } := by
  obtain ⟨x, hx⟩ := publishBays_eq p (passResult p) s
  unfold written
  rw [hx]

theorem written_session (p : Snapshot) (s : State) {b : Nat} (hb : validBay b = true) :
    (written p s).session b = publishedSession p (passResult p) s b := by
  rw [← publishBays_session p (passResult p) s hb]
  obtain ⟨x, hx⟩ := publishBays_eq p (passResult p) s
  unfold written
  rw [hx]
  rfl

theorem written_publishable (p : Snapshot) {s : State} (he : allocationEnabled s = true) :
    Publishable (written p s) := by
  obtain ⟨-, -, hs⟩ := (allocationEnabled_iff s).mp he
  have ho : (written p s).alloc.lastOrder = (passResult p).order := by rw [written_eq]
  have hf : (written p s).faults = s.faults := by rw [written_eq]
  exact ⟨by rw [ho]; exact passResult_order p, by rw [hf]; exact hs⟩

/-- The PASS notice of R96 for a state's grants and flags. -/
def passBody (p : Snapshot) (s : State) : List Byte :=
  enc16 p.available ++ enc16 ((allBays.map fun b => (s.session b).grant).sum) ++
    enc8 (allBays.filter fun b => (s.session b).short).length ++
    enc8 (allBays.filter fun b => (s.session b).preShort).length

/-- Between a publication and the end of the pass only the notice and the allocator are written. -/
theorem publish_eq (p : Snapshot) (s : State) : ∃ a, publish p (passResult p) s =
      { bondPublication (written p s) with
        alloc := a, order := noticed [(.pass, passBody p (bondPublication (written p s)))] s.order } ∧
    a.lastOrder = (passResult p).order ∧ a.snapshot.isSome = s.alloc.again ∧ a.again = false ∧ a.stale = false := by
  have halloc : (bondPublication (written p s)).alloc = { s.alloc with lastOrder := (passResult p).order } := by
    rw [(published_only _).alloc, written_eq]
  have horder : (bondPublication (written p s)).order = s.order := by
    rw [(published_only _).rest, written_eq]
  unfold publish passNotice
  rw [writePublication_eq]
  generalize bondPublication (written p s) = t at halloc horder
  dsimp only
  rw [notify_eq, ← horder]
  have hagain : t.alloc.again = s.alloc.again := by rw [halloc]
  have hlast : t.alloc.lastOrder = (passResult p).order := by rw [halloc]
  dsimp only
  rw [hagain]
  cases ha : s.alloc.again
  · exact ⟨_, rfl, hlast, rfl, rfl, rfl⟩
  · exact ⟨_, rfl, hlast, rfl, rfl, rfl⟩

end Sys2Proof.Machine
end

section
/-! O43: the completion of a pass. -/

namespace Sys2Proof.Machine

/-- The modules, the bond waiting list and the frames of an UP cabinet after a publication (R107 to R109, R118). -/
structure CabinetPublished (c : Nat) (s t : State) : Prop where
  kept    : ∀ b k, cabOf b = c → validBay b = true → validModule k = true → (s.module c k).bay = some b →
              (s.module c k).state = .bonded → t.module c k = (s.module c k).become
                (if modulesBelow s b .bonded k < targetCount (s.session b).grant then .bonded else .ramping)
  ramping : ∀ b k, cabOf b = c → validBay b = true → validModule k = true → (s.module c k).bay = some b →
              (s.module c k).state = .ramping → t.module c k = (s.module c k).become
                (if bonded s b + modulesBelow s b .ramping k < targetCount (s.session b).grant then .bonded
                  else .ramping)
  given   : ∀ k, (s.module c k).state ≠ .bonded → (s.module c k).state ≠ .ramping →
              t.module c k = closedFor ((freeModules s c).zip (lacking s c)) k (s.module c k)
  wants   : wants (t.bondList c) = (lacking s c).drop (freeModules s c).length
  one     : OneEach (t.bondList c)
  link    : t.link c = (s.link c).handAll (
              (((baysOf c).filter fun b => (s.session b).grant < (s.power b).commanded).map fun b =>
                .setpoint (posOf b) (s.session b).grant) ++
              (((freeModules s c).zip (lacking s c)).map fun g => .bond g.1 (posOf g.2)) ++
              (((s.alloc.lastOrder.filter fun b => cabOf b = c).filter fun b =>
                (s.power b).commanded < (t.power b).commanded).map fun b =>
                  .setpoint (posOf b) (t.power b).commanded))

/-- The bond controller and the links after a publication (R107). -/
structure Published (s t : State) : Prop where
  only    : BondsOnly s t
  up      : ∀ b, validBay b = true → (s.link (cabOf b)).state = .up →
              (t.power b).commanded ≤ (s.session b).grant ∧ bonded t b ≤ targetCount (s.session b).grant
  down    : ∀ b, (s.link (cabOf b)).state ≠ .up → t.power b = s.power b ∧ bonded t b = bonded s b
  cabinet : ∀ c, validCab c = true → (s.link c).state = .up → CabinetPublished c s t
  raises  : ∃ q : State, BondsOnly s q ∧ q.bond.modules = t.bond.modules ∧ q.bond.raiseList = raiseBays s ∧
              (∀ b, q.power b = if b ∈ upBays s ∧ overGrant s b = true
                then ⟨(s.session b).grant, (s.power b).reported, some 5000⟩ else s.power b) ∧ t = examineRaises q

theorem cabinetPublished {s : State} (h : Publishable s) {c : Nat} (hc : validCab c = true)
    (hu : (s.link c).state = .up) : CabinetPublished c s (bondPublication s) where
  kept b k hbc hb hk hbay hst := by
    subst hbc
    rw [published_engaged h hc hu (by rw [hst]; decide)]
    exact (settled_modules s).kept b (mem_upBays.mpr ⟨hb, hu⟩) k hk hbay hst
  ramping b k hbc hb hk hbay hst := by
    subst hbc
    rw [published_engaged h hc hu (by rw [hst]; decide)]
    exact (settled_modules s).ramping b (mem_upBays.mpr ⟨hb, hu⟩) k hk hbay hst
  given k hb hr := by
    rw [published_cabinet h hc hu, (settled_modules s).others c k (.inr ⟨hb, hr⟩)]
  wants := (published_list h hc hu).1
  one := (published_list h hc hu).2
  link := published_link h hc hu

theorem bondPublication_published {s : State} (h : Publishable s) : Published s (bondPublication s) where
  only := published_only s
  up _ hb hu := published_up h hb hu
  down _ hu := published_down h hu
  cabinet _ hc hu := cabinetPublished h hc hu
  raises := ⟨served s, served_only s, (published_modules s).symm, (served_raises s).trans (listed_raises s),
    fun b => (served_power s b).trans (settled_power s b), bondPublication_eq s⟩

theorem execPassComplete_eq (s : State) : exec .passComplete s = .next (completePass s) := rfl

section
variable {s : State} {p : Snapshot} (hp : s.alloc.snapshot = some p)
include hp

theorem completePass_disabled (he : allocationEnabled s = false) : completePass s = becomeIdle s := by
  unfold completePass
  rw [hp]
  exact if_pos (by simp [he])

theorem completePass_stale (he : allocationEnabled s = true) (hs : s.alloc.stale = true) :
    completePass s = startPass s := by
  unfold completePass
  rw [hp]
  simp [he, hs]

theorem completePass_over (he : allocationEnabled s = true) (ho : overLimits s (passResult p) = true) :
    completePass s = startPass s := by
  unfold completePass
  rw [hp]
  simp [he, ho]

theorem completePass_published (he : allocationEnabled s = true) (hs : s.alloc.stale = false)
    (ho : ¬ overLimits s (passResult p) = true) : completePass s = publish p (passResult p) s := by
  unfold completePass
  rw [hp]
  simp [he, hs, ho]

end

end Sys2Proof.Machine

open Sys2Proof Sys2Proof.Machine

/-- Settles O43: the six steps of a publication are followed one after the other, each cabinet and bay by itself. -/
theorem passCompletionPublishesOrDiscards : Obligations.PassCompletionPublishesOrDiscards := by
  unfold Obligations.PassCompletionPublishesOrDiscards
  intro s
  dsimp only
  refine ⟨fun hn => ?none, fun p hp => ⟨fun he => ?disabled, fun he hs => ?stale, fun he ho => ?limits,
    fun he hs htotal hceil => ?published⟩⟩
  case none =>
    rw [execPassComplete_eq]
    unfold completePass
    rw [hn]
  case disabled => rw [execPassComplete_eq, completePass_disabled hp he]; rfl
  case stale => rw [execPassComplete_eq, completePass_stale hp he hs]; rfl
  case limits => rw [execPassComplete_eq, completePass_over hp he ((overLimits_iff ..).mpr ho)]; rfl
  case published =>
    have hover : ¬ overLimits s (passResult p) = true := fun ho => by
      rcases (overLimits_iff ..).mp ho with h | ⟨c, hc, h⟩
      · omega
      · exact absurd (hceil c hc) (by omega)
    obtain ⟨a, ha, hlast, hpass, hagain, hstale⟩ := publish_eq p s
    rw [execPassComplete_eq, completePass_published hp he hs hover, ha]
    have hpub := bondPublication_published (written_publishable p he)
    have hwritten := fun b (hb : validBay b = true) => written_session p s hb
    obtain ⟨x, hx⟩ : ∃ x, written p s =
      { s with sessions := x, alloc := { s.alloc with lastOrder := a.lastOrder } } := ⟨_, hlast ▸ written_eq p s⟩
    rw [hx] at hpub hwritten ⊢
    generalize bondPublication _ = t at hpub ⊢
    have hses := hpub.only.session
    have hrest := hpub.only.rest
    refine ⟨_, rfl, fun b hb => ?session, hlast, hpass, hagain, hstale, fun b hb hbu => ?up, fun b hbu => hpub.down b hbu,
      by rw [hrest], by rw [hrest], by rw [hrest], by rw [hrest], by rw [hrest], by rw [hrest], by rw [hrest],
      noticed_kept .., hpub.only.link, rfl, fun c hc hcu => ?cabinet, ?raises⟩
    case session =>
      refine (hses b).trans ((hwritten b hb).trans ?_)
      exact if_congr (withdrawn_iff ..) rfl rfl
    case up =>
      obtain ⟨hcom, hbond⟩ := hpub.up b hb hbu
      rw [← hses] at hcom hbond
      refine ⟨hcom, ?_, hpub.only.reported b⟩
      have hmod : 300 * bonded t b < (t.session b).grant + 300 := by
        rw [targetCount_eq] at hbond
        omega
      exact hmod
    case cabinet =>
      obtain ⟨hkept, hramping, hgiven, hlist, hone, hlink⟩ := hpub.cabinet c hc hcu
      simp only [← hses, targetCount_eq, lacking] at hkept hramping hgiven hlist hlink
      refine ⟨fun b k hbc hb hk hbay => ⟨fun hst => ?_, fun hst => ?_⟩, fun k hk => hgiven k, hlist, hone.nodup,
        hone.wanted, hlink⟩
      · subst hbc
        exact hkept b k rfl hb hk hbay hst
      · subst hbc
        exact hramping b k rfl hb hk hbay hst
    case raises =>
      obtain ⟨q, hq, hm, hl, hpower, ht⟩ := hpub.raises
      have hbond := congrArg State.bond ht
      have hlinks := congrArg State.links ht
      refine ⟨q, hq.sessions.trans hpub.only.sessions.symm, hq.env, hq.faults, hm, hl.trans ?_, fun b hb => ?_,
        hbond, hlinks⟩
      · unfold raiseBays
        simp only [← hses]
        rfl
      · refine (hpower b).trans ?_
        simp only [← hses, overGrant, mem_upBays, decide_eq_true_eq, hb, true_and]
        rfl

end

section
/-! The examination of the raise waiting list, bay by bay: O45. -/

namespace Sys2Proof.Machine

/-! ### The site exposure -/

theorem LinkKept.lostSum {a b : Link} (h : LinkKept a b) : b.lostSum = a.lostSum := by
  rw [h]
  rfl

/-- A setpoint that rises adds no more than its rise to the site exposure (section 5.2). -/
theorem siteExposure_sendSetpoint (b v : Nat) {s : State} (h : (s.power b).commanded ≤ v) :
    siteExposure (sendSetpoint b v s) + (s.power b).commanded ≤ siteExposure s + v := by
  have hlost : lostHoldSum (sendSetpoint b v s) = lostHoldSum s :=
    congrArg List.sum (List.map_congr_left fun c _ => ((sendSetpoint_ripple b v s).link c).lostSum)
  have hsum := sum_update_le (f := fun j => max (s.power j).commanded (s.power j).reported)
    (g := fun j => max ((sendSetpoint b v s).power j).commanded ((sendSetpoint b v s).power j).reported) (b := b)
    allBays_nodup (fun j hj => by rw [sendSetpoint_power, if_neg fun e => hj e.1.symm]) (.inr (by
      rw [sendSetpoint_power]
      split
      · exact max_le_max_right _ h
      · exact Nat.le_refl _))
  have hb : ((sendSetpoint b v s).power b).reported = (s.power b).reported := (sendSetpoint_ripple b v s).reported b
  have hc : ((sendSetpoint b v s).power b).commanded ≤ v := by
    rw [sendSetpoint_power]
    split
    · exact Nat.le_refl v
    · exact h
  unfold siteExposure
  omega

/-! ### What an examination makes of the setpoints (R111) -/

/-- Bays of the list `l` have been raised between `s` and `t`, each within its limit and the available power, and only
after every bay ahead of it has its grant. -/
structure Examined (l : List Nat) (s t : State) : Prop where
  rise     : ∀ b, (s.power b).commanded ≤ (t.power b).commanded
  exposure : siteExposure s ≤ s.env.available → siteExposure t ≤ s.env.available
  within   : (∃ b, (s.power b).commanded < (t.power b).commanded) → siteExposure t ≤ s.env.available
  raised   : ∀ b, (s.power b).commanded < (t.power b).commanded →
    (t.power b).commanded ≤ raiseLimit s b ∧ ((s.power b).commanded = 0 → 20 ≤ (t.power b).commanded) ∧
    ∃ pre post, l = pre ++ b :: post ∧ ∀ a ∈ pre, (t.power a).commanded = (s.session a).grant

namespace Examined

variable {l : List Nat} {s t u : State} {h v : Nat}

/-- No setpoint has been touched. -/
theorem same (l : List Nat) (hb : t.bond.bays = s.bond.bays) (hk : t.links = s.links) : Examined l s t := by
  have hp : ∀ b, t.power b = s.power b := fun b => congrArg (get1 · BayPower.reset b) hb
  have hx : siteExposure t = siteExposure s := by
    unfold siteExposure lostHoldSum State.link
    simp only [hp, hk]
  have hn : ∀ b, ¬ (s.power b).commanded < (t.power b).commanded := fun b => by
    rw [hp]
    exact Nat.lt_irrefl _
  refine ⟨fun b => ?_, fun he => ?_, fun ⟨b, hb⟩ => absurd hb (hn b), fun b hb => absurd hb (hn b)⟩
  · rw [hp]
  · rwa [hx]

/-- A bay that has its grant keeps it. -/
theorem keeps (e : Examined l s t) (hg : (s.power h).commanded = (s.session h).grant) :
    (t.power h).commanded = (s.session h).grant := by
  have hrise := e.rise h
  by_contra hne
  have hlim := (e.raised h (by omega)).1
  have hle : raiseLimit s h ≤ (s.session h).grant := Nat.min_le_left ..
  omega

/-- The head bay has its grant and is passed over. -/
theorem skip (e : Examined l s t) (hg : (s.power h).commanded = (s.session h).grant) : Examined (h :: l) s t where
  rise := e.rise
  exposure := e.exposure
  within := e.within
  raised b hb := by
    obtain ⟨hlim, hleast, pre, post, hl, hpre⟩ := e.raised b hb
    refine ⟨hlim, hleast, h :: pre, post, congrArg (h :: ·) hl, fun a ha => ?_⟩
    rcases List.mem_cons.mp ha with rfl | ha
    · exact e.keeps hg
    · exact hpre a ha

/-- The head bay is raised, and the bays after it only where it then has its grant. -/
theorem raise (e : Examined l (sendSetpoint h v s) t) (hc : (s.power h).commanded < v) (hv : v ≤ raiseLimit s h)
    (hleast : (s.power h).commanded = 0 → 20 ≤ v) (hx : siteExposure (sendSetpoint h v s) ≤ s.env.available)
    (hg : v = (s.session h).grant ∨ t.bond.bays = (sendSetpoint h v s).bond.bays) : Examined (h :: l) s t := by
  have hr := sendSetpoint_ripple h v s
  have hsess : ∀ b, (sendSetpoint h v s).session b = s.session b := fun b =>
    congrArg (get1 · (Session.vacant 0) b) (sendSetpoint_sessions h v s)
  have hlimit : ∀ b, raiseLimit (sendSetpoint h v s) b = raiseLimit s b := fun b => by
    unfold raiseLimit
    rw [hsess, bonded_of_ripple hr]
  have hvalid : validBay h = true := by
    by_contra hn
    have : raiseLimit s h ≤ 0 := Nat.le_trans (Nat.min_le_left ..) (by rw [session_out hn]; exact Nat.le_refl 0)
    omega
  have hself : ((sendSetpoint h v s).power h).commanded = v := by
    rw [sendSetpoint_power, if_pos ⟨rfl, validBay_iff.mp hvalid⟩]
  have hother : ∀ b, b ≠ h → (sendSetpoint h v s).power b = s.power b := fun b hb => by
    rw [sendSetpoint_power, if_neg fun e => hb e.1.symm]
  have hhead : (t.power h).commanded = v := by
    rcases hg with hg | hg
    · rw [hg, ← hsess h]
      exact e.keeps (by rw [hself, hsess, hg])
    · rw [← hself]
      exact congrArg (fun w => (get1 w BayPower.reset h).commanded) hg
  have hend : siteExposure t ≤ s.env.available := by
    rw [← hr.env]
    exact e.exposure (hr.env ▸ hx)
  refine ⟨fun b => ?rise, fun _ => hend, fun _ => hend, fun b hb => ?raised⟩
  case rise =>
    by_cases hbh : b = h
    · rw [hbh, hhead]
      exact Nat.le_of_lt hc
    · exact hother b hbh ▸ e.rise b
  case raised =>
    by_cases hbh : b = h
    · subst hbh
      rw [hhead]
      exact ⟨hv, hleast, [], l, rfl, nofun⟩
    · -- a bay after the head bay has been raised, so the head bay was served whole
      have hrose := hother b hbh ▸ hb
      have hwhole : v = (s.session h).grant := hg.resolve_right fun hsame => by
        have : t.power b = (sendSetpoint h v s).power b := congrArg (get1 · BayPower.reset b) hsame
        rw [this, hother b hbh] at hb
        exact Nat.lt_irrefl _ hb
      obtain ⟨hlim, hl20, pre, post, hl, hpre⟩ := e.raised b hrose
      rw [hlimit] at hlim
      rw [hother b hbh] at hl20
      refine ⟨hlim, hl20, h :: pre, post, congrArg (h :: ·) hl, fun a ha => ?_⟩
      rcases List.mem_cons.mp ha with rfl | ha
      · exact hhead.trans hwhole
      · exact (hpre a ha).trans (by rw [hsess])

end Examined

/-- A raise from a setpoint of 0 reaches 20 at least (R111). -/
theorem raiseOf_least {s : State} {b : Nat} (h : 0 < raiseOf s b) (hc : (s.power b).commanded = 0) :
    20 ≤ raiseOf s b := by
  unfold raiseOf at h ⊢
  dsimp only at h ⊢
  split at h
  · exact absurd h (Int.lt_irrefl 0)
  · next hn =>
    simp only [hc, decide_true, Bool.true_and, decide_eq_true_eq] at hn
    rw [if_neg (by simpa [hc] using hn)]
    simpa [hc] using hn

theorem examineFrom_examined (l : List Nat) (s : State) : Examined l s (examineFrom l s) := by
  induction l generalizing s with
  | nil => exact .same [] rfl rfl
  | cons h rest ih =>
    unfold examineFrom
    dsimp only
    split
    · next hg => exact (ih s).skip hg
    · split
      · exact .same _ rfl rfl
      · split
        · exact .same _ rfl rfl
        · next hy =>
          have hpos : 0 < raiseOf s h := by omega
          have hlim := raiseOf_le s h hpos
          have havail := raiseOf_le_available s h hpos
          have hleast := raiseOf_least hpos
          have hexp := siteExposure_sendSetpoint h ((s.power h).commanded + (raiseOf s h).toNat) (s := s) (by omega)
          split
          · next hg => exact (ih _).raise (by omega) hlim (fun e => by have := hleast e; omega) (by omega) (.inl hg)
          · exact Examined.raise (.same rest rfl rfl) (by omega) hlim (fun e => by have := hleast e; omega) (by omega)
              (.inr rfl)

/-! ### One examination, by its cases -/

/-- An examination writes the list anew, and reads nothing of the one that stands. -/
theorem examineFrom_relist (l r : List Nat) (s : State) : examineFrom l (putRaiseList r s) = examineFrom l s := by
  induction l generalizing s with
  | nil => rfl
  | cons h rest ih =>
    have hsend : ∀ v, sendSetpoint h v (putRaiseList r s) = putRaiseList r (sendSetpoint h v s) := fun v => by
      rw [sendSetpoint, sendIfUp_eq, sendSetpoint, sendIfUp_eq]
      rfl
    have hraise : raiseOf (putRaiseList r s) h = raiseOf s h := rfl
    have hlimit : raiseLimit (putRaiseList r s) h = raiseLimit s h := rfl
    have hpower : (putRaiseList r s).power h = s.power h := rfl
    have hgrant : (putRaiseList r s).session h = s.session h := rfl
    unfold examineFrom
    simp only [hsend, hraise, hlimit, hpower, hgrant, ih]
    rfl

theorem examineRaises_stopped {s : State} (h : s.faults.stopMinute.isSome = true) : examineRaises s = s := if_pos h

theorem examineRaises_running {s : State} (h : s.faults.stopMinute = none) :
    examineRaises s = examineFrom s.bond.raiseList s := if_neg (by simp [h])

/-- An examination with the list given. -/
theorem examineRaises_putRaiseList {s : State} (h : s.faults.stopMinute = none) (l : List Nat) :
    examineRaises (putRaiseList l s) = examineFrom l s :=
  (examineRaises_running (s := putRaiseList l s) h).trans (examineFrom_relist l l s)

/-- Writing the list that stands changes nothing. -/
theorem putRaiseList_self {s : State} {l : List Nat} (h : s.bond.raiseList = l) : putRaiseList l s = s := by
  subst h
  rfl

theorem examineRaises_examined (s : State) : Examined s.bond.raiseList s (examineRaises s) := by
  unfold examineRaises
  split
  · exact .same _ rfl rfl
  · exact examineFrom_examined _ s

section
variable {h : Nat} {rest : List Nat} {s : State}

/-- The head bay has its grant. -/
theorem examineFrom_served (hg : (s.power h).commanded = (s.session h).grant) :
    examineFrom (h :: rest) s = examineFrom rest s := if_pos hg

/-- The head bay cannot be raised, and the examination ends. -/
theorem examineFrom_waits (hg : (s.power h).commanded ≠ (s.session h).grant) (hy : raiseOf s h ≤ 0) :
    examineFrom (h :: rest) s = putRaiseList (h :: rest) s := by
  unfold examineFrom
  dsimp only
  rw [if_neg hg, if_pos hy]
  exact ite_self _

/-- The head bay is raised. -/
theorem examineFrom_raises (hy : 0 < raiseOf s h) : examineFrom (h :: rest) s =
    if (s.power h).commanded + (raiseOf s h).toNat = (s.session h).grant
    then examineFrom rest (sendSetpoint h ((s.power h).commanded + (raiseOf s h).toNat) s)
    else putRaiseList (h :: rest) (sendSetpoint h ((s.power h).commanded + (raiseOf s h).toNat) s) := by
  have hlim := raiseOf_le s h hy
  have hle : raiseLimit s h ≤ (s.session h).grant := Nat.min_le_left ..
  conv => lhs; unfold examineFrom
  dsimp only
  rw [if_neg (by omega), if_neg (by omega), if_neg (by omega)]

/-- A bay at or above its limit is not raised. -/
theorem raiseOf_nonpos (hl : raiseLimit s h ≤ (s.power h).commanded) : raiseOf s h ≤ 0 := by
  by_contra hy
  have := raiseOf_le s h (by omega)
  omega

end

theorem sendSetpoint_eq (b v : Nat) (s : State) : sendSetpoint b v s =
    if (s.link (cabOf b)).state = .up
    then putLink (cabOf b) ((s.link (cabOf b)).hand (.setpoint (posOf b) v))
      (putPower b { s.power b with commanded := v } s)
    else putPower b { s.power b with commanded := v } s := rfl

end Sys2Proof.Machine

open Sys2Proof Sys2Proof.Machine

/-- Settles O45: the examination is followed from bay to bay along the list. -/
theorem raisesStayWithinTheAvailablePower : Obligations.RaisesStayWithinTheAvailablePower := by
  intro s
  have hexamined := examineRaises_examined s
  refine ⟨examineRaises_ripple s, (BondsOnly.examineRaises s).sessions, examineRaises_stopped, hexamined.rise,
    hexamined.within, fun b hb => ?raised, fun hs => ⟨fun hl => ?empty, ?head⟩, ?exposure⟩
  case raised =>
    obtain ⟨hlim, hleast, hpre⟩ := hexamined.raised b hb
    exact ⟨Nat.le_trans hlim (Nat.min_le_left ..), Nat.le_trans hlim (Nat.min_le_right ..), hleast, hpre⟩
  case empty =>
    rw [examineRaises_running hs, hl]
    exact putRaiseList_self hl
  case head =>
    intro h rest hl hv g c limit room least y next raised
    have hrun : examineRaises s = examineFrom (h :: rest) s := hl ▸ examineRaises_running hs
    have hy : raiseOf s h = y :=
      if_congr (by rw [Bool.and_eq_true, decide_eq_true_iff, decide_eq_true_iff]; rfl) rfl rfl
    have hstays : c ≠ g → raiseOf s h ≤ 0 → examineRaises s = s := fun hg hn =>
      hrun.trans ((examineFrom_waits hg hn).trans (putRaiseList_self hl))
    have hnot : limit ≤ c ∨ y ≤ 0 → raiseOf s h ≤ 0 := fun hn => hn.elim raiseOf_nonpos fun hn => hy ▸ hn
    refine ⟨fun hg => ?_, fun hg hn => hstays (Nat.ne_of_lt hg) (hnot (.inl hn)), fun hg hn => hstays hg (hnot hn),
      fun _ hpos => ?_⟩
    · rw [hrun, examineFrom_served hg]
      exact (examineRaises_putRaiseList hs rest).symm
    · have hsend : sendSetpoint h (c + y.toNat) s = raised s := sendSetpoint_eq h (c + y.toNat) s
      have hnext : raised next = putRaiseList rest (raised s) := by
        simp only [raised]
        by_cases hu : (s.link (cabOf h)).state = .up
        · rw [if_pos hu]
          exact if_pos hu
        · rw [if_neg hu]
          exact if_neg hu
      have hstop : (raised s).faults.stopMinute = none := by
        rw [← hsend, (sendSetpoint_ripple ..).faults, hs]
      have hlist : (raised s).bond.raiseList = h :: rest := by
        rw [← hsend, sendSetpoint, sendIfUp_bond]
        exact hl
      rw [hrun, examineFrom_raises (hy ▸ hpos), hy, hnext, examineRaises_putRaiseList hstop]
      refine (if_congr .rfl ?_ ?_)
      · rw [← hsend]
      · exact (congrArg _ hsend).trans (putRaiseList_self hlist)
  case exposure =>
    unfold siteExposure lostHoldSum
    simp only [lostSum_eq] <;> rfl

end

section
/-! Pass requests alone, a fault as it is taken, and the alarm indication after it: for O46 and O47. -/

namespace Sys2Proof.Machine

/-- Only a bay that there is belongs to a cabinet that there is. -/
theorem validBay_of_cabOf {b : Nat} (h : validCab (cabOf b) = true) : validBay b = true := by
  rw [validCab_iff] at h
  rw [validBay_iff]
  unfold cabOf ceilDiv at h
  omega

/-! ### Pass requests alone -/

/-- The allocator, and what enables it, have not been touched. -/
theorem PassKept.same {s t : State} (ha : t.alloc = s.alloc) (he : allocationEnabled t = allocationEnabled s) :
    PassKept s t where
  flight hs := by unfold inFlight; rw [ha]; exact hs
  again _ hs := ha ▸ hs
  stale _ hs := ha ▸ hs
  enabled := he

/-- Between `s` and `t` nothing but pass requests has been made. -/
structure PassOnly (s t : State) : Prop where
  rest  : t = { s with alloc := t.alloc }
  alloc : AllocKept s.alloc t.alloc
  kept  : PassKept s t

namespace PassOnly

theorem refl (s : State) : PassOnly s s := ⟨rfl, .refl _, .refl s⟩

theorem trans {s t u : State} (h : PassOnly s t) (k : PassOnly t u) : PassOnly s u where
  rest := by rw [k.rest, h.rest]
  alloc := h.alloc.trans k.alloc
  kept := h.kept.trans k.kept

theorem requestPass (s : State) : PassOnly s (requestPass s) := by
  obtain ⟨a, ha, hk, -⟩ := requestPass_alloc s
  have hkept := requestPass_kept s
  rw [ha] at hkept ⊢
  exact ⟨rfl, hk, hkept⟩

/-- One session written in both states. -/
theorem putSession {s t : State} (h : PassOnly s t) (b : Nat) (x : Session) :
    PassOnly (putSession b x s) (putSession b x t) where
  rest := by rw [h.rest]; rfl
  alloc := h.alloc
  kept := ⟨h.kept.flight, h.kept.again, h.kept.stale, h.kept.enabled⟩

variable {s t : State} (h : PassOnly s t)
include h

theorem quiet : Quiet s t := by
  rw [h.rest]
  exact .ofAlloc h.alloc

theorem session (b : Nat) : t.session b = s.session b := h.quiet.session b

theorem link (c : Nat) : t.link c = s.link c := congrArg (get1 · Link.reset c) h.quiet.power.links

theorem order : t.order = s.order := by rw [h.rest]

end PassOnly

/-! ### The record of a fault (R159) -/

/-- A cabinet's record after a fault: a clear flag takes its code, and a set one keeps its own. -/
def CabinetFaults.recorded (f : CabinetFaults) (first : FirstCode) : CabinetFaults :=
  f.setFlag first.code.cls (some ((f.flag first.code.cls).getD first))

theorem CabinetFaults.setFlag_flag (f : CabinetFaults) (c : FaultClass) : f.setFlag c (f.flag c) = f := by
  cases c <;> rfl

theorem putCabFaults_self (c : Nat) (s : State) : putCabFaults c (s.cabFaults c) s = s := by
  unfold putCabFaults State.cabFaults
  rw [set1_get1]

theorem cabFaults_putCabFaults_self {c : Nat} (hc : validCab c = true) (x : CabinetFaults) (s : State) :
    (putCabFaults c x s).cabFaults c = x := by
  rw [cabFaults_putCabFaults, if_pos ⟨rfl, validCab_iff.mp hc⟩]

theorem recordFault_eq (c : Nat) (first : FirstCode) (s : State) :
    recordFault c first s = putCabFaults c ((s.cabFaults c).recorded first) s := by
  unfold recordFault CabinetFaults.recorded
  dsimp only
  cases h : (s.cabFaults c).flag first.code.cls with
  | none => rfl
  | some x =>
    rw [Option.getD_some, ← h, CabinetFaults.setFlag_flag, putCabFaults_self]
    exact if_pos (by rw [h]; rfl)

/-! ### The alarm indication (R163, R174) -/

/-- The lines in turn are handed the alarm indication. -/
def realarmed (a : Bool) (l : List Nat) (v : Vector Line 8) : Vector Line 8 :=
  l.foldl (fun v k => set1 v k ((get1 v (Line.reset true) k).takeAlarm a)) v

theorem evaluateAlarm_lines (s : State) : (evaluateAlarm s).lines =
    if alarmWanted s = s.faults.alarm then s.lines else realarmed (alarmWanted s) allLines s.lines := by
  have hlines : ∀ (a : Bool) (l : List Nat) (t : State),
      (forEach l (fun k t => putLine k ((t.line k).takeAlarm a) t) t).lines = realarmed a l t.lines := by
    intro a l
    induction l with
    | nil => exact fun _ => rfl
    | cons k l ih => exact fun t => ih (putLine k ((t.line k).takeAlarm a) t)
  unfold evaluateAlarm
  dsimp only
  split
  · rfl
  · exact hlines _ _ _

theorem evaluateAlarm_faults (s : State) :
    (evaluateAlarm s).faults = { s.faults with alarm := alarmWanted s } := by
  obtain ⟨lines, h, -⟩ := evaluateAlarm_eq s
  rw [h]

theorem evaluateAlarm_alloc (s : State) : (evaluateAlarm s).alloc = s.alloc := by
  obtain ⟨lines, h, -⟩ := evaluateAlarm_eq s
  rw [h]

theorem evaluateAlarm_power (s : State) : PowerAs s (evaluateAlarm s) := by
  obtain ⟨lines, h, -⟩ := evaluateAlarm_eq s
  rw [h]
  exact ⟨rfl, rfl, rfl⟩

/-- The lines are as they were when the alarm indication is evaluated in `t`, so they take its change alone. -/
theorem linesRealarmed {s t r : State} (hl : t.lines = s.lines) (ha : t.faults.alarm = s.faults.alarm)
    (hr : r.lines = (evaluateAlarm t).lines) (hf : r.faults = (evaluateAlarm t).faults) : LinesRealarmed s r := by
  have hfaults : { r.faults with alarm := s.faults.alarm } = t.faults := by
    rw [hf, evaluateAlarm_faults, ← ha]
  unfold LinesRealarmed
  rw [hr, evaluateAlarm_lines, evaluateAlarm_lines, hfaults, hl]
  rfl

/-! ### A fault is taken (R159, R160) -/

/-- A FAULT notice speaks of the records and of what asserts the alarm, not of the indication itself. -/
theorem faultNotices_congr {r t : State} {a : Bool} (h : t.faults = { r.faults with alarm := a }) (c : Nat)
    (code : FaultCode) (x : Subject) (s : State) : faultNotices c code x s t = faultNotices c code x s r := by
  have hc : t.cabFaults c = r.cabFaults c := by
    unfold State.cabFaults
    rw [h]
  have ha : alarmWanted t = alarmWanted r :=
    alarmWanted_congr (s := { r with faults := { r.faults with alarm := a } }) h
  unfold faultNotices
  rw [hc, ha]

/-- The FAULT notice that a fault taken in `s` creates in the state `t` after its effect (R160). -/
theorem faultNotice_eq {c : Nat} {first : FirstCode} {s t : State} (hn : t.faults.notices = s.faults.notices)
    (hm : t.clock = s.clock) : faultNotice c first ((s.cabFaults c).flag first.code.cls).isNone t =
      { t with order := noticed (faultNotices c first.code first.subject s t) t.order } := by
  unfold faultNotice faultNotices
  dsimp only
  rw [hn, show t.clock.minute = s.clock.minute by rw [hm]]
  split
  · rw [notify_eq]
    simp only [faultHead, noticeSubject, Subject.bytes, encFlag, mark, List.append_assoc, List.cons_append,
      List.nil_append]
  · rfl

/-- A fault of a cabinet, whole: its record, its effect, its notice and the alarm indication (R159). -/
theorem takeFault_eq {source : FaultSource} {c : Nat} {code : FaultCode} {x : Subject} {s t : State}
    (ht : faultEffect source c ⟨code, x⟩ (putCabFaults c ((s.cabFaults c).recorded ⟨code, x⟩) s) = t)
    (hn : t.faults.notices = s.faults.notices) (hm : t.clock = s.clock) : takeFault source c code x s =
      { evaluateAlarm t with order := noticed (faultNotices c code x s (evaluateAlarm t)) t.order } := by
  have hnotices := faultNotices_congr (evaluateAlarm_faults t) c code x s
  have htake : takeFault source c code x s =
      evaluateAlarm (t.reframed t.env (noticed (faultNotices c code x s t) t.order)) := by
    unfold takeFault
    dsimp only
    rw [recordFault_eq, ht]
    exact congrArg evaluateAlarm (faultNotice_eq (first := ⟨code, x⟩) hn hm)
  obtain ⟨lines, he, -⟩ := evaluateAlarm_eq t
  rw [htake, evaluateAlarm_reframed, hnotices, he]
  rfl

/-- Notices created in turn, and no more. -/
theorem noticed_quiet (l : List (NoticeKind × List Byte)) (s : State) :
    Quiet s { s with order := noticed l s.order } := by
  induction l generalizing s with
  | nil => exact .refl s
  | cons n l ih =>
    have h := notify_quiet n.1 n.2 s
    rw [notify_eq] at h
    exact h.trans (ih _)

end Sys2Proof.Machine
end

section
/-! A cabinet is isolated: what the bond controller empties, whom it raises, and the holds that follow (R123, R141,
R162). -/

namespace Sys2Proof.Machine

/-! ### What an examination leaves alone (R111) -/

/-- What setpoints sent to the bays of the list keep, the examination keeps. -/
theorem examineFrom_keeps {P : State → Prop} {l : List Nat} (send : ∀ b ∈ l, ∀ v t, P t → P (sendSetpoint b v t))
    (list : ∀ r t, P t → P (putRaiseList r t)) {s : State} (h : P s) : P (examineFrom l s) := by
  induction l generalizing s with
  | nil => exact list [] s h
  | cons b rest ih =>
    have ih := fun t ht => ih (fun j hj => send j (List.mem_cons_of_mem b hj)) (s := t) ht
    have hsend := fun v => send b List.mem_cons_self v s h
    unfold examineFrom
    dsimp only
    split
    · exact ih s h
    · split
      · exact list _ s h
      · split
        · exact list _ s h
        · split
          · exact ih _ (hsend _)
          · exact list _ _ (hsend _)

theorem examineRaises_keepsOf {P : State → Prop} {s : State}
    (send : ∀ b ∈ s.bond.raiseList, ∀ v t, P t → P (sendSetpoint b v t))
    (list : ∀ r t, P t → P (putRaiseList r t)) (h : P s) : P (examineRaises s) := by
  unfold examineRaises
  split
  · exact h
  · exact examineFrom_keeps send list h

/-- A bay that does not wait is not raised. -/
theorem examineRaises_power {b : Nat} {s : State} (hb : b ∉ s.bond.raiseList) :
    (examineRaises s).power b = s.power b :=
  examineRaises_keepsOf (P := fun t => t.power b = s.power b) (fun j hj v t ht => by
    have hjb : ¬ (j = b ∧ 1 ≤ j ∧ j ≤ 48) := fun e => hb (e.1 ▸ hj)
    rw [sendSetpoint_power, if_neg hjb, ht]) (fun _ _ h => h) rfl

/-- A cabinet none of whose bays waits is sent nothing. -/
theorem examineRaises_link {c : Nat} {s : State} (hc : ∀ b ∈ s.bond.raiseList, cabOf b ≠ c) :
    (examineRaises s).link c = s.link c :=
  examineRaises_keepsOf (P := fun t => t.link c = s.link c) (fun j hj v t ht => by
    have hjc : ¬ (cabOf j = c ∧ 1 ≤ cabOf j ∧ cabOf j ≤ 8) := fun e => hc j hj e.1
    rw [sendSetpoint, sendIfUp_eq, link_putLink, if_neg hjc]
    exact ht) (fun _ _ h => h) rfl

theorem examineRaises_bondLists (s : State) : (examineRaises s).bond.bondLists = s.bond.bondLists :=
  examineRaises_keepsOf (P := fun t => t.bond.bondLists = s.bond.bondLists) (fun _ _ _ _ h => by
    rw [sendSetpoint, sendIfUp_bond]
    exact h) (fun _ _ h => h) rfl

/-- The bays that still wait are the last of those that waited. -/
theorem examineFrom_raiseList (l : List Nat) (s : State) : (examineFrom l s).bond.raiseList <:+ l := by
  induction l generalizing s with
  | nil => exact List.suffix_refl []
  | cons b rest ih =>
    have hlater : ∀ t, (examineFrom rest t).bond.raiseList <:+ b :: rest := fun t => (ih t).trans (List.suffix_cons b rest)
    unfold examineFrom
    dsimp only
    split
    · exact hlater s
    · split
      · exact List.suffix_refl _
      · split
        · exact List.suffix_refl _
        · split
          · exact hlater _
          · exact List.suffix_refl _

theorem examineRaises_raiseList (s : State) : (examineRaises s).bond.raiseList <:+ s.bond.raiseList := by
  unfold examineRaises
  split
  · exact List.suffix_refl _
  · exact examineFrom_raiseList _ s

/-- The state with the sessions and the fault unit of `k`. -/
def State.resettled (s k : State) : State := { s with sessions := k.sessions, faults := k.faults }

/-- An examination reads of the sessions the grants of the bays that wait. -/
theorem examineFrom_resettled {k : State} {l : List Nat} {s : State}
    (hg : ∀ b ∈ l, (k.session b).grant = (s.session b).grant) :
    examineFrom l (s.resettled k) = (examineFrom l s).resettled k := by
  induction l generalizing s with
  | nil => rfl
  | cons b l ih =>
    have hb : ((s.resettled k).session b).grant = (s.session b).grant := hg b List.mem_cons_self
    have hl : ∀ j ∈ l, (k.session j).grant = (s.session j).grant := fun j hj => hg j (List.mem_cons_of_mem b hj)
    have hlimit : raiseLimit (s.resettled k) b = raiseLimit s b := congrArg (min · (300 * bonded s b)) hb
    have hraise : raiseOf (s.resettled k) b = raiseOf s b := by
      unfold raiseOf
      rw [hlimit]
      rfl
    have hsend : ∀ v, sendSetpoint b v (s.resettled k) = (sendSetpoint b v s).resettled k := fun v => by
      rw [sendSetpoint, sendIfUp_eq, sendSetpoint, sendIfUp_eq]
      rfl
    have hsent : ∀ v, ∀ j ∈ l, (k.session j).grant = ((sendSetpoint b v s).session j).grant := fun v j hj => by
      rw [hl j hj]
      exact congrArg (fun w => (get1 w (Session.vacant 0) j).grant) (sendSetpoint_sessions b v s).symm
    have hpower : (s.resettled k).power b = s.power b := rfl
    unfold examineFrom
    simp only [hb, hlimit, hraise, hsend, hpower, ih hl, ih (hsent _), apply_ite (fun t : State => t.resettled k)]
    rfl

theorem examineRaises_resettled {k s : State} (hs : k.faults.stopMinute = s.faults.stopMinute)
    (hg : ∀ b ∈ s.bond.raiseList, (k.session b).grant = (s.session b).grant) :
    examineRaises (s.resettled k) = (examineRaises s).resettled k := by
  unfold examineRaises
  have hstop : (s.resettled k).faults.stopMinute = s.faults.stopMinute := hs
  rw [hstop]
  split
  · rfl
  · exact examineFrom_resettled hg

/-! ### What the bond controller empties (R123, steps 1 to 4) -/

/-- A cabinet's setpoints are 0 and its ramp timers stopped. -/
def cleared (c : Nat) (s : State) : State :=
  forEach (baysOf c) (fun b s => putPower b { s.power b with commanded := 0, ramp := none } s) s

theorem cleared_rest (c : Nat) (s : State) :
    cleared c s = { s with bond := { s.bond with bays := (cleared c s).bond.bays } } :=
  forEach_keeps (P := fun t => t = { s with bond := { s.bond with bays := t.bond.bays } })
    (fun b _ t h => by rw [h]; rfl) rfl

theorem cleared_power {c : Nat} (hc : validCab c = true) (s : State) (b : Nat) :
    (cleared c s).power b = if cabOf b = c then ⟨0, (s.power b).reported, none⟩ else s.power b := by
  have hread := forEach_read State.power (fun b s => putPower b { s.power b with commanded := 0, ramp := none } s)
    (fun _ x => ⟨0, x.reported, none⟩) (fun i j t => by
      rw [power_putPower]
      by_cases hij : i = j
      · subst hij
        rw [if_pos rfl]
        split
        · rfl
        · next hi => rw [power_out fun hv => hi ⟨rfl, validBay_iff.mp hv⟩]; rfl
      · rw [if_neg hij, if_neg fun e => hij e.1]) (baysOf_nodup c) s b
  exact hread.trans (if_congr ((mem_baysOf hc).trans ⟨And.right, fun h => ⟨validBay_of_cabOf (h ▸ hc), h⟩⟩) rfl rfl)

theorem forgetModules_only (c : Nat) (s : State) : ModulesOnly s (forgetModules c s) :=
  .forEach (fun m t => by
    split
    · exact .refl t
    · rfl) _ s

/-- Every module that is not FAULTED becomes UNKNOWN (R123, step 1). -/
theorem forgetModules_module {c m : Nat} (hc : validCab c = true) (hm : validModule m = true) (s : State) :
    (forgetModules c s).module c m = if (s.module c m).state = .faulted then s.module c m else Module.reset := by
  obtain ⟨v, hv, he⟩ := (forEach_at (read := fun t m => t.module c m) (l := allModules)
    (f := fun m t => if (t.module c m).state = .faulted then t else putModule c m Module.reset t) allModules_nodup
    (fun i _ j hij t => by
      split
      · rfl
      · exact (module_putModule_cases ..).resolve_right fun e => hij e.2.1) s m).2 (mem_allModules.mpr hm)
  refine he.trans ?_
  rw [← hv]
  split
  · rfl
  · rw [module_putModule _ _ _ _ _ _ hc hm, if_pos ⟨rfl, rfl⟩]

theorem forgetModules_other {c d : Nat} (hd : d ≠ c) (m : Nat) (s : State) :
    (forgetModules c s).module d m = s.module d m :=
  forEach_keeps (P := fun t => t.module d m = s.module d m) (fun i _ t h => by
    split
    · exact h
    · exact ((module_putModule_cases c i d m _ t).resolve_right fun e => hd e.1.symm).trans h) rfl

/-- A cabinet's modules are forgotten, its setpoints, ramp timers and bond list cleared, and its bays wait no more. -/
def emptied (c : Nat) (s : State) : State :=
  putRaiseList (s.bond.raiseList.filter fun b => cabOf b ≠ c) (putBondList c [] (cleared c (forgetModules c s)))

structure Emptied (c : Nat) (s t : State) : Prop where
  rest    : t = { s with bond := t.bond }
  power   : ∀ b, t.power b = if cabOf b = c then ⟨0, (s.power b).reported, none⟩ else s.power b
  modules : ∀ m, validModule m = true →
              t.module c m = if (s.module c m).state = .faulted then s.module c m else ⟨.unknown, none, none⟩
  others  : ∀ d m, d ≠ c → t.module d m = s.module d m
  bonds   : ∀ d, t.bondList d = if d = c then [] else s.bondList d
  raises  : t.bond.raiseList = s.bond.raiseList.filter fun b => cabOf b ≠ c

theorem emptied_emptied {c : Nat} (hc : validCab c = true) (s : State) : Emptied c s (emptied c s) := by
  have hforget := forgetModules_only c s
  have hmodule := fun m hm => forgetModules_module (m := m) hc hm s
  have hother := fun d m hd => forgetModules_other (c := c) (d := d) hd m s
  have hclear := cleared_rest c (forgetModules c s)
  have hpower := cleared_power hc (forgetModules c s)
  unfold emptied
  generalize cleared c (forgetModules c s) = u at *
  generalize forgetModules c s = v at *
  have hsame : ∀ b, v.power b = s.power b := fun b => by rw [hforget]; rfl
  have hmod : ∀ d m, u.module d m = v.module d m := fun d m => by rw [hclear]; rfl
  refine ⟨?_, fun b => ?_, fun m hm => (hmod c m).trans (hmodule m hm),
    fun d m hd => (hmod d m).trans (hother d m hd), fun d => ?_, rfl⟩
  · rw [hclear, hforget]
    rfl
  · rw [putRaiseList_at_power, putBondList_at_power, hpower, hsame]
  · rw [putRaiseList_at_bondList, bondList_putBondList]
    refine if_congr ⟨fun h => h.1.symm, fun h => ⟨h.symm, validCab_iff.mp hc⟩⟩ rfl ?_
    rw [hclear, hforget]
    rfl

/-- The bond controller is told that a link has become ISOLATED (R123). -/
theorem bondLeavesUp_emptied (c : Nat) (s : State) :
    PassOnly (examineRaises (emptied c s)) (bondLeavesUp false c s) := by
  have hraises : (cleared c (forgetModules c s)).bond.raiseList = s.bond.raiseList := by
    rw [cleared_rest, forgetModules_only c s]
  have he : emptied c s = putRaiseList ((cleared c (forgetModules c s)).bond.raiseList.filter fun b => cabOf b ≠ c)
      (putBondList c [] (cleared c (forgetModules c s))) := by rw [hraises]; rfl
  rw [he]
  unfold bondLeavesUp
  dsimp only
  split
  · exact .refl _
  · exact .requestPass _

end Sys2Proof.Machine
end

section
/-! The isolation of a cabinet, and the ramp and contactor timers: O47. -/

namespace Sys2Proof.Machine

/-! ### Holds at a cabinet whose link is not UP (R23) -/

/-- The session is open and takes a hold reason that it does not bear. -/
def Session.takes (x : Session) (r : HoldReason) : Prop := x.state ≠ .vacant ∧ x.holds.has r = false

/-- A hold set where the link is not UP is written and requests a pass; the bond controller does nothing. -/
theorem setHold_down {r : HoldReason} {b : Nat} {s : State} (hb : validBay b = true)
    (hu : (s.link (cabOf b)).state ≠ .up) : PassOnly (putSession b ((s.session b).held r) s) (setHold r b s) ∧
      ((s.session b).takes r → Requested s (setHold r b s)) := by
  by_cases ht : (s.session b).takes r
  · obtain ⟨ho, hr⟩ := ht
    have hset : setHold r b s = requestPass (putSession b ((s.session b).held r) s) := by
      have hlower : lowerGrant b (putSession b ((s.session b).held r) s) = putSession b ((s.session b).held r) s :=
        if_neg hu
      rw [setHold_open hb ho hr, hlower, ite_self]
    rw [hset]
    exact ⟨.requestPass _, fun _ => requested_requestPass id⟩
  · have hx : (s.session b).state = .vacant ∨ (s.session b).holds.has r = true := by
      by_contra hn
      rw [not_or] at hn
      exact ht ⟨hn.1, Bool.eq_false_iff.mpr hn.2⟩
    have hheld : (s.session b).held r = s.session b := if_pos hx
    have hset : setHold r b s = s := by
      unfold setHold Session.isOpen
      rcases hx with hx | hx <;> simp [hx]
    rw [hheld, putSession_self, hset]
    exact ⟨.refl s, fun h => absurd h ht⟩

theorem PassOnly.mapSessions {s t : State} (h : PassOnly s t) (f : Session → Session) (l : List Nat) :
    PassOnly (mapSessions f l s) (mapSessions f l t) := by
  induction l generalizing s t with
  | nil => exact h
  | cons b l ih =>
    have hb : PassOnly (Machine.putSession b (f (s.session b)) s) (Machine.putSession b (f (t.session b)) t) := by
      rw [h.session b]
      exact h.putSession b _
    exact ih hb

theorem mapSessions_sessions {s t : State} (h : t.sessions = s.sessions) (f : Session → Session) (l : List Nat) :
    (mapSessions f l t).sessions = (mapSessions f l s).sessions := by
  induction l generalizing s t with
  | nil => exact h
  | cons b l ih =>
    have hb : (putSession b (f (t.session b)) t).sessions = (putSession b (f (s.session b)) s).sessions := by
      unfold putSession State.session
      rw [h]
    exact ih hb

theorem mapSessions_kept (f : Session → Session) (l : List Nat) (s : State) : PassKept s (mapSessions f l s) := by
  rw [mapSessions_keeps]
  exact .same rfl rfl

/-- Holds set in turn at bays whose links are not UP. -/
theorem setHolds_down {r : HoldReason} {l : List Nat} (hl : l.Nodup) (hv : ∀ b ∈ l, validBay b = true) {s : State}
    (hu : ∀ b ∈ l, (s.link (cabOf b)).state ≠ .up) :
    PassOnly (mapSessions (·.held r) l s) (forEach l (setHold r) s) ∧
      ((∃ b ∈ l, (s.session b).takes r) → Requested s (forEach l (setHold r) s)) := by
  induction l generalizing s with
  | nil => exact ⟨.refl s, fun ⟨b, hb, _⟩ => absurd hb List.not_mem_nil⟩
  | cons b l ih =>
    obtain ⟨hbl, hn⟩ := List.nodup_cons.mp hl
    obtain ⟨hset, hreq⟩ := setHold_down (r := r) (hv b List.mem_cons_self) (hu b List.mem_cons_self)
    have hlink : ∀ c, (setHold r b s).link c = s.link c := hset.link
    have hother : ∀ j ∈ l, (setHold r b s).session j = s.session j := fun j hj => by
      have hbj : ¬ (b = j ∧ 1 ≤ b ∧ b ≤ 48) := fun e => hbl (e.1 ▸ hj)
      rw [hset.session, session_putSession, if_neg hbj]
    obtain ⟨hrest, hlater⟩ := ih hn (fun j hj => hv j (List.mem_cons_of_mem b hj)) (s := setHold r b s)
      fun j hj => by rw [hlink]; exact hu j (List.mem_cons_of_mem b hj)
    have hkept : PassKept s (setHold r b s) :=
      .trans (t := putSession b ((s.session b).held r) s) (.same rfl rfl) hset.kept
    refine ⟨(hset.mapSessions _ l).trans hrest, fun ⟨j, hj, ht⟩ => ?_⟩
    rcases List.mem_cons.mp hj with rfl | hj
    · exact (hreq ht).kept ((mapSessions_kept _ l _).trans hrest.kept)
    · exact hkept.requested (hlater ⟨j, hj, by rw [hother j hj]; exact ht⟩)

theorem holdCabinet_down {r : HoldReason} {c : Nat} (hc : validCab c = true) {s : State}
    (hu : (s.link c).state ≠ .up) : PassOnly (mapSessions (·.held r) (baysOf c) s) (holdCabinet r c s) ∧
      ((∃ b, cabOf b = c ∧ (s.session b).takes r) → Requested s (holdCabinet r c s)) := by
  obtain ⟨hrest, hreq⟩ := setHolds_down (r := r) (baysOf_nodup c) (fun b hb => ((mem_baysOf hc).mp hb).1) (s := s)
    fun b hb => by rw [((mem_baysOf hc).mp hb).2]; exact hu
  exact ⟨hrest, fun ⟨b, hb, ht⟩ => hreq ⟨b, (mem_baysOf hc).mpr ⟨validBay_of_cabOf (hb ▸ hc), hb⟩, ht⟩⟩

theorem mapSessions_baysOf {f : Session → Session} (hf : f (Session.vacant 0) = Session.vacant 0) {c : Nat}
    (hc : validCab c = true) (s : State) (k : Nat) :
    (mapSessions f (baysOf c) s).session k = if cabOf k = c then f (s.session k) else s.session k :=
  (mapSessions_session hf (baysOf_nodup c) s k).trans (if_congr ((mem_baysOf hc).trans
    ⟨And.right, fun h => ⟨validBay_of_cabOf (h ▸ hc), h⟩⟩) rfl rfl)

/-! ### The link is asked to isolate its cabinet (R141) -/

/-- A change of link state requests a pass and creates a LINK notice (R145). -/
theorem linkChanged_eq (c : Nat) (before : LinkState) (cause : LinkCause) (s : State) : linkChanged c before cause s =
    { requestPass s with order := noticed [linkNotice c before (s.link c).state cause.code] s.order } := by
  unfold linkChanged
  dsimp only
  rw [notify_eq, requestPass_order, (PassOnly.requestPass s).link]
  rfl

/-- A link that isolates its cabinet: one that was UP discards what waits to be sent in UP alone (R186). -/
def Link.isolating (l : Link) : Link :=
  if l.state = .up then (l.leaveUp .isolated).hand .isolate
  else { l.hand .isolate with state := .isolated, probe := none, silence := some silenceMs }

theorem Link.isolating_state (l : Link) : l.isolating.state = .isolated := by
  unfold Link.isolating
  split
  · exact Link.hand_state ..
  · rfl

/-- The power of the site once a link has been asked to isolate its cabinet: where it was UP the bond controller has
emptied the cabinet and examined its raise waiting list (R123). -/
def isolating (c : Nat) (s : State) : State :=
  if (s.link c).state = .up then examineRaises (emptied c (putLink c (s.link c).isolating s))
  else putLink c (s.link c).isolating s

theorem isolating_up {c : Nat} {s : State} (hu : (s.link c).state = .up) :
    isolating c s = examineRaises (emptied c (putLink c (s.link c).isolating s)) := if_pos hu

theorem isolating_down {c : Nat} {s : State} (hu : (s.link c).state ≠ .up) :
    isolating c s = putLink c (s.link c).isolating s := if_neg hu

section
variable {c : Nat} (hc : validCab c = true) (s : State)
include hc

theorem isolating_rest : isolating c s =
    { s with bond := (isolating c s).bond, links := (isolating c s).links } := by
  unfold isolating
  split
  · rw [(BondsOnly.examineRaises _).rest, (emptied_emptied hc _).rest]
    rfl
  · rfl

theorem isolating_link : (isolating c s).link c = (s.link c).isolating := by
  unfold isolating
  split
  · have he := emptied_emptied hc (putLink c (s.link c).isolating s)
    rw [examineRaises_link fun b hb => ?_, he.rest]
    · exact link_putLink_self hc _ s
    · rw [he.raises] at hb
      exact of_decide_eq_true (List.mem_filter.mp hb).2
  · exact link_putLink_self hc _ s

theorem isolating_reported (k : Nat) : ((isolating c s).power k).reported = (s.power k).reported := by
  unfold isolating
  split
  · rw [(examineRaises_ripple _).reported, (emptied_emptied hc _).power]
    split <;> rfl
  · rfl

end

/-- Between `s` and `t` the link of cabinet `c` has isolated it, a pass has been requested and LINK created. -/
structure LinkIsolated (c : Nat) (s t : State) : Prop where
  rest      : t = { isolating c s with
                alloc := t.alloc, order := noticed [linkNotice c (s.link c).state .isolated 5] s.order }
  alloc     : AllocKept s.alloc t.alloc
  kept      : PassKept s t
  requested : Requested s t

/-- A link that is not ISOLATED isolates its cabinet (R141, R145). -/
theorem isolateLink_isolated {c : Nat} (hc : validCab c = true) {s : State} (hn : (s.link c).state ≠ .isolated) :
    LinkIsolated c s (isolateLink c s) := by
  have hrest := isolating_rest hc s
  have hlink := isolating_link hc s
  -- the request and the LINK notice that end the isolation
  have changed : ∀ t, PassOnly (isolating c s) t → LinkIsolated c s (linkChanged c (s.link c).state .isolation t) := by
    intro t ht
    have hkept : PassKept s t := by
      refine .trans (t := isolating c s) ?_ ht.kept
      rw [hrest]
      exact .same rfl rfl
    have hpass := ht.trans (.requestPass t)
    have halloc := hpass.alloc
    rw [hrest] at halloc
    have horder : t.order = s.order := by rw [ht.order, hrest]
    rw [linkChanged_eq, ht.link, hlink, Link.isolating_state, horder]
    refine ⟨?_, halloc, ?_, hkept.requested (requestPass_requested t)⟩
    · conv => lhs; rw [hpass.rest]
      rfl
    · exact (hkept.trans (requestPass_kept t)).trans (.same rfl rfl)
  by_cases hu : (s.link c).state = .up
  · have hx : (s.link c).isolating = ((s.link c).leaveUp .isolated).hand .isolate := if_pos hu
    have he : isolateLink c s = linkChanged c (s.link c).state .isolation
        (bondLeavesUp false c (putLink c (s.link c).isolating s)) := by
      rw [hx]
      unfold isolateLink
      simp only [hu]
    rw [he]
    refine changed _ ?_
    rw [isolating_up hu]
    exact bondLeavesUp_emptied c _
  · have hx : (s.link c).isolating =
        { (s.link c).hand .isolate with state := .isolated, probe := none, silence := some silenceMs } := if_neg hu
    have he : isolateLink c s = linkChanged c (s.link c).state .isolation (isolating c s) := by
      rw [isolating_down hu, hx]
      unfold isolateLink
      dsimp only
      split
      · next h => exact absurd h hu
      · next h => exact absurd h hn
      · rfl
    rw [he]
    exact changed _ (.refl _)

/-! ### A FATAL fault isolates a cabinet (R162) -/

/-- The state with a cabinet's isolated marker set. -/
def marked (c : Nat) (s : State) : State := putCabFaults c { s.cabFaults c with isolated := true } s

/-- The power of the site once a cabinet has been isolated: as it was where the marker stood already. -/
def isolatedPower (c : Nat) (s : State) : State :=
  if (s.cabFaults c).isolated then s else isolating c (marked c s)

theorem marked_self {c : Nat} {s : State} (h : (s.cabFaults c).isolated = true) : marked c s = s := by
  have hx : { s.cabFaults c with isolated := true } = s.cabFaults c := by rw [← h]
  unfold marked
  rw [hx, putCabFaults_self]

theorem isolatedPower_marked {c : Nat} {s : State} (h : (s.cabFaults c).isolated = true) : isolatedPower c s = s :=
  if_pos h

theorem isolatedPower_unmarked {c : Nat} {s : State} (h : (s.cabFaults c).isolated = false) :
    isolatedPower c s = isolating c (marked c s) := if_neg (by simp [h])

theorem isolatedPower_rest {c : Nat} (hc : validCab c = true) (s : State) : isolatedPower c s =
    { s with bond := (isolatedPower c s).bond, links := (isolatedPower c s).links, faults := (marked c s).faults } := by
  cases h : (s.cabFaults c).isolated with
  | true => rw [isolatedPower_marked h, marked_self h]
  | false =>
    rw [isolatedPower_unmarked h]
    exact isolating_rest hc (marked c s)

/-- Between `s` and `t` cabinet `c` has been isolated, and its open sessions have taken the FAULT hold. -/
structure CabinetIsolated (c : Nat) (s t : State) : Prop where
  rest      : t = { isolatedPower c s with
                sessions := (mapSessions (·.held .fault) (baysOf c) s).sessions
                alloc := t.alloc
                order := noticed (if (s.cabFaults c).isolated then [] else [linkNotice c (s.link c).state .isolated 5])
                  s.order }
  alloc     : AllocKept s.alloc t.alloc
  kept      : PassKept s t
  requested : (s.cabFaults c).isolated = false ∨ (∃ b, cabOf b = c ∧ (s.session b).takes .fault) → Requested s t

theorem isolateCabinet_isolated {c : Nat} (hc : validCab c = true) {s : State}
    (hi : (s.cabFaults c).isolated = true ↔ (s.link c).state = .isolated) :
    CabinetIsolated c s (isolateCabinet c s) := by
  cases h : (s.cabFaults c).isolated with
  | true =>
    have hd : isolateCabinet c s = holdCabinet .fault c s := by
      unfold isolateCabinet
      rw [if_pos h]
    obtain ⟨hold, hreq⟩ := holdCabinet_down (r := .fault) hc (s := s) (by rw [hi.mp h]; decide)
    rw [hd]
    refine ⟨?_, ?_, (mapSessions_kept ..).trans hold.kept, fun hx => hreq (hx.resolve_left (by simp [h]))⟩
    · conv => lhs; rw [hold.rest, mapSessions_keeps]
      rw [isolatedPower_marked h, if_pos h]
      rfl
    · have := hold.alloc
      rwa [mapSessions_keeps] at this
  | false =>
    have hn : ((marked c s).link c).state ≠ .isolated := fun e => by
      rw [hi.mpr e] at h
      cases h
    have hd : isolateCabinet c s = holdCabinet .fault c (isolateLink c (marked c s)) := by
      unfold isolateCabinet marked
      rw [if_neg (by simp [h])]
    have hw := isolateLink_isolated hc hn
    rw [hd]
    generalize isolateLink c (marked c s) = w at *
    have hlink : w.link c = ((marked c s).link c).isolating := by
      rw [hw.rest]
      exact isolating_link hc _
    have hsessions : w.sessions = s.sessions := by
      rw [hw.rest, isolating_rest hc]
      rfl
    obtain ⟨hold, -⟩ := holdCabinet_down (r := .fault) hc (s := w) (by rw [hlink, Link.isolating_state]; decide)
    generalize holdCabinet .fault c w = t at *
    have hheld : PassKept w t := (mapSessions_kept ..).trans hold.kept
    have hkept : PassKept s w := .trans (t := marked c s) (.same rfl rfl) hw.kept
    have hreq : Requested s w := hw.requested
    refine ⟨?_, ?_, hkept.trans hheld, fun _ => hreq.kept hheld⟩
    · conv => lhs; rw [hold.rest, mapSessions_keeps]
      rw [mapSessions_sessions (s := s) hsessions, isolatedPower_unmarked h, if_neg (by simp [h])]
      conv => lhs; rw [hw.rest]
      rfl
    · have halloc := hold.alloc
      rw [mapSessions_keeps] at halloc
      exact AllocKept.trans hw.alloc halloc

end Sys2Proof.Machine
end

section
/-! The power of a site whose cabinet has been isolated, and the two expiries: O47. -/

namespace Sys2Proof.Machine

/-! ### A cabinet that was UP (R123) -/

theorem Link.isolating_up {l : Link} (h : l.state = .up) :
    l.isolating = (l.leaveUp .isolated).hand .isolate := if_pos h

theorem Link.isolating_down {l : Link} (h : l.state ≠ .up) : l.isolating =
    { l.hand .isolate with state := .isolated, probe := none, silence := some 2000 } := if_neg h

/-- The frames and timers of a link that was UP and isolates its cabinet (R141, R186). -/
theorem Link.isolating_frames {l : Link} (h : l.state = .up) :
    l.isolating.handed .isolate ∧ l.isolating.keep = none ∧
      (l.isolating.outbound, l.isolating.sending) = l.refilled [.isolate] ∧ l.isolating.silence = l.silence := by
  have hleft : (l.leaveUp .isolated).state ≠ .up := by
    rw [(leaveUp_fields _ _).1]
    decide
  rw [isolating_up h]
  refine ⟨Link.hand_handed .., Link.hand_keep hleft _, ?_, ?_⟩
  · rw [Link.refilled_eq]
    exact Link.hand_frames (l.leaveUp .isolated) .isolate
  · rw [Link.hand_kept (l.leaveUp .isolated)]
    rfl

section
variable {c : Nat} (hc : validCab c = true) {s : State} (hu : (s.link c).state = .up)
include hc hu

theorem isolating_power {b : Nat} (hb : cabOf b = c) :
    (isolating c s).power b = ⟨0, (s.power b).reported, none⟩ := by
  have he := emptied_emptied hc (putLink c (s.link c).isolating s)
  rw [isolating_up hu, examineRaises_power, he.power, if_pos hb]
  · rfl
  · intro hm
    rw [he.raises] at hm
    exact of_decide_eq_true (List.mem_filter.mp hm).2 hb

theorem isolating_leftUp : LeftUp c s (isolating c s) := by
  have he := emptied_emptied hc (putLink c (s.link c).isolating s)
  have hmodule := module_of_ripple (examineRaises_ripple (emptied c (putLink c (s.link c).isolating s)))
  have hlist : ∀ d, (examineRaises (emptied c (putLink c (s.link c).isolating s))).bondList d =
      if d = c then [] else s.bondList d := fun d =>
    (congrArg (get1 · [] d) (examineRaises_bondLists _)).trans (he.bonds d)
  refine ⟨fun b _ hb => ?_, fun m hm => ?_, fun d m hd => ?_, ?_, fun d hd => ?_, fun b hb => ?_⟩
  · rw [isolating_power hc hu hb]
    exact ⟨rfl, rfl⟩
  · rw [isolating_up hu, hmodule, he.modules m hm]
    rfl
  · rw [isolating_up hu, hmodule, he.others d m hd]
    rfl
  · rw [isolating_up hu, hlist, if_pos rfl]
  · rw [isolating_up hu, hlist, if_neg hd]
  · rw [isolating_up hu] at hb
    have hm := (examineRaises_raiseList _).mem hb
    rw [he.raises] at hm
    obtain ⟨hm, hn⟩ := List.mem_filter.mp hm
    exact ⟨of_decide_eq_true hn, hm⟩

end

/-- What a cabinet that has left UP is left with is a matter of the bond controller alone. -/
theorem LeftUp.ofBond {c : Nat} {s v t r : State} (h : LeftUp c v t) (hr : r.bond = t.bond)
    (hmodules : v.bond.modules = s.bond.modules) (hlists : v.bond.bondLists = s.bond.bondLists)
    (hraises : v.bond.raiseList = s.bond.raiseList) : LeftUp c s r := by
  obtain ⟨hb, hm, ho, hl, hw, hq⟩ := h
  unfold State.module at hm ho
  unfold State.bondList at hl hw
  unfold State.power at hb
  rw [hmodules] at hm ho
  rw [hlists] at hw
  rw [hraises] at hq
  rw [← hr] at hb hm ho hl hw hq
  exact ⟨hb, hm, ho, hl, hw, hq⟩

/-- The raise waiting list was examined without the bays of a cabinet that was UP (R123, step 5), whatever became
afterwards of the sessions of that cabinet and of the alarm. -/
theorem isolating_examined {c : Nat} (hc : validCab c = true) {s v r : State} (hu : (v.link c).state = .up)
    (hbond : r.bond = (isolating c v).bond) (hlinks : r.links = (isolating c v).links)
    (hsession : ∀ b, cabOf b ≠ c → r.session b = v.session b) (hstop : r.faults.stopMinute = v.faults.stopMinute)
    (henv : v.env = s.env) (hraises : v.bond.raiseList = s.bond.raiseList)
    (hpower : ∀ b, cabOf b ≠ c → v.power b = s.power b) (hlink : v.links = s.links) : ExaminedWithout c s r := by
  have he := emptied_emptied hc (putLink c (v.link c).isolating v)
  have hself := isolating_link hc v
  have hzero := fun b hb => isolating_power hc hu (b := b) hb
  rw [isolating_up hu] at hbond hlinks hself hzero
  generalize emptied c (putLink c (v.link c).isolating v) = e at *
  have hwaits : ∀ b ∈ e.bond.raiseList, cabOf b ≠ c := fun b hb => by
    rw [he.raises] at hb
    exact of_decide_eq_true (List.mem_filter.mp hb).2
  have hres : examineRaises (e.resettled r) = (examineRaises e).resettled r :=
    examineRaises_resettled (by rw [hstop, he.rest]; rfl) fun b hb => by
      rw [hsession b (hwaits b hb), he.rest]
      rfl
  refine ⟨e.resettled r, rfl, ?_, rfl, ?_, ?_, ?_, fun b _ => ?_, fun k _ => ?_, ?_, ?_⟩
  · rw [← henv, he.rest]
    rfl
  · rw [hbond, (examineRaises_ripple e).modules]
    rfl
  · rw [hbond, examineRaises_bondLists]
    rfl
  · rw [← hraises]
    exact he.raises
  · refine (he.power b).trans ?_
    by_cases hb : cabOf b = c
    · rw [if_pos hb, if_pos hb]
      exact (hzero b hb).symm.trans (congrArg (fun x : BondController => get1 x.bays BayPower.reset b) hbond.symm)
    · rw [if_neg hb, if_neg hb]
      exact hpower b hb
  · have hk : (e.resettled r).link k = (putLink c (v.link c).isolating v).link k := by
      rw [he.rest]
      rfl
    rw [hk]
    by_cases hkc : k = c
    · rw [if_pos hkc, hkc, link_putLink_self hc]
      exact hself.symm.trans (congrArg (get1 · Link.reset c) hlinks.symm)
    · rw [if_neg hkc, link_putLink, if_neg fun h => hkc h.1.symm]
      exact congrArg (get1 · Link.reset k) hlink
  · rw [hbond, hres]
    rfl
  · rw [hlinks, hres]
    rfl

end Sys2Proof.Machine
end

section
/-! The state in which a running ramp timer leaves the machine, and O47. -/

namespace Sys2Proof.Machine

/-- A running ramp timer has stopped, and its cabinet's record holds RAMP_TIMEOUT (R119, R159). -/
def rampFaulted (b : Nat) (s : State) : State :=
  putCabFaults (cabOf b) ((s.cabFaults (cabOf b)).recorded ⟨.rampTimeout, ⟨.cabinet, cabOf b⟩⟩)
    (putPower b { s.power b with ramp := none } s)

/-- Between `s` and `r` the ramp timer of bay `b` has expired: `t` is the state once the cabinet has been isolated. -/
structure RampExpired (b : Nat) (s t r : State) : Prop where
  isolated : CabinetIsolated (cabOf b) (rampFaulted b s) t
  result   : r = { evaluateAlarm t with
               order := noticed (faultNotices (cabOf b) .rampTimeout ⟨.cabinet, cabOf b⟩ s (evaluateAlarm t)) t.order }

section
variable {b : Nat} {s : State} (hb : validBay b = true)
include hb

/-- The record of a ramp fault leaves the marker and the link as they are. -/
theorem rampFaulted_marker :
    ((rampFaulted b s).cabFaults (cabOf b)).isolated = (s.cabFaults (cabOf b)).isolated := by
  rw [rampFaulted, cabFaults_putCabFaults_self (cabOf_valid hb)]
  rfl

theorem expireRamp_expired (hr : (s.power b).ramp.isSome = true)
    (hi : (s.cabFaults (cabOf b)).isolated = true ↔ (s.link (cabOf b)).state = .isolated) :
    ∃ t, RampExpired b s t (expireRamp b s) := by
  have hc := cabOf_valid hb
  have ht := isolateCabinet_isolated hc (s := rampFaulted b s) (by rw [rampFaulted_marker hb]; exact hi)
  refine ⟨isolateCabinet (cabOf b) (rampFaulted b s), ht, ?_⟩
  have hrest := ht.rest
  rw [isolatedPower_rest hc] at hrest
  unfold expireRamp
  rw [if_pos hr, takeFault_eq (t := isolateCabinet (cabOf b) (rampFaulted b s)) rfl (by rw [hrest]; rfl)
    (by rw [hrest]; rfl)]
  rfl

end

/-! ### What has become of each part of the state -/

namespace RampExpired

variable {b : Nat} {s t r : State} (h : RampExpired b s t r)
include h

/-- The alarm indication and the notice apart, `r` is the isolated state. -/
theorem resultOf : ∃ lines, r = { t with
    faults := { t.faults with alarm := alarmWanted t }, lines := lines
    order := noticed (faultNotices (cabOf b) .rampTimeout ⟨.cabinet, cabOf b⟩ s r) t.order } ∧
    ∀ l, LineKept (t.line l) (get1 lines (Line.reset true) l) := by
  have hnotices : faultNotices (cabOf b) .rampTimeout ⟨.cabinet, cabOf b⟩ s r =
      faultNotices (cabOf b) .rampTimeout ⟨.cabinet, cabOf b⟩ s (evaluateAlarm t) := by rw [h.result]; rfl
  obtain ⟨lines, he, hl⟩ := evaluateAlarm_eq t
  rw [hnotices]
  refine ⟨lines, ?_, hl⟩
  rw [h.result, he]

theorem alloc_eq : r.alloc = t.alloc := by rw [h.result]; exact evaluateAlarm_alloc t

theorem kept : PassKept t r := by
  obtain ⟨lines, he, -⟩ := h.resultOf
  exact .same h.alloc_eq (by rw [he]; rfl)

theorem alarm : r.faults.alarm = alarmWanted r := by
  have hr : alarmWanted r = alarmWanted t := by
    rw [h.result]
    exact alarmWanted_evaluateAlarm t
  obtain ⟨lines, he, -⟩ := h.resultOf
  rw [hr, he]

variable (hb : validBay b = true)
include hb

/-- Each part of `t` that the isolation does not touch. -/
theorem rest_eq : t = { s with
    bond := (isolatedPower (cabOf b) (rampFaulted b s)).bond
    links := (isolatedPower (cabOf b) (rampFaulted b s)).links
    faults := (marked (cabOf b) (rampFaulted b s)).faults
    sessions := t.sessions, alloc := t.alloc, order := t.order } := by
  have hrest := h.isolated.rest
  rw [isolatedPower_rest (cabOf_valid hb)] at hrest
  conv => lhs; rw [hrest]
  rw [show t.sessions = _ from congrArg State.sessions hrest, show t.order = _ from congrArg State.order hrest]
  rfl

theorem bond_eq : r.bond = (isolatedPower (cabOf b) (rampFaulted b s)).bond := by
  obtain ⟨lines, he, -⟩ := h.resultOf
  rw [he, h.rest_eq hb]

theorem links_eq : r.links = (isolatedPower (cabOf b) (rampFaulted b s)).links := by
  obtain ⟨lines, he, -⟩ := h.resultOf
  rw [he, h.rest_eq hb]

theorem faults_eq : r.faults = { (marked (cabOf b) (rampFaulted b s)).faults with alarm := alarmWanted r } := by
  have ha := h.alarm
  obtain ⟨lines, he, -⟩ := h.resultOf
  rw [← ha, he, h.rest_eq hb]

theorem session (k : Nat) : r.session k = if cabOf k = cabOf b then (s.session k).held .fault else s.session k := by
  have hs : r.sessions = (mapSessions (·.held .fault) (baysOf (cabOf b)) (rampFaulted b s)).sessions := by
    have ht := congrArg State.sessions h.isolated.rest
    obtain ⟨lines, he, -⟩ := h.resultOf
    rw [he]
    exact ht
  refine (congrArg (fun v => get1 v (Session.vacant 0) k) hs).trans ?_
  exact mapSessions_baysOf (f := (·.held .fault)) rfl (cabOf_valid hb) (rampFaulted b s) k

theorem order_eq : r.order = noticed
    ((if (s.cabFaults (cabOf b)).isolated then []
      else [linkNotice (cabOf b) (s.link (cabOf b)).state .isolated 5]) ++
      faultNotices (cabOf b) .rampTimeout ⟨.cabinet, cabOf b⟩ s r) s.order := by
  have ht : t.order = noticed (if (s.cabFaults (cabOf b)).isolated then []
      else [linkNotice (cabOf b) (s.link (cabOf b)).state .isolated 5]) s.order := by
    refine (congrArg State.order h.isolated.rest).trans ?_
    rw [rampFaulted_marker hb]
    rfl
  obtain ⟨lines, he, -⟩ := h.resultOf
  rw [noticed_append, ← ht]
  exact congrArg State.order he

theorem settled : Settled s r := by
  have horder := h.order_eq hb
  have hsame := h.rest_eq hb
  have halloc := h.isolated.alloc
  have hr := h.alloc_eq
  obtain ⟨lines, he, hl⟩ := h.resultOf
  refine ⟨?_, ?_, ?_, ?_, ?_, ?_, ?_, fun l => ?_⟩
  · rw [he, hsame]
  · rw [he, hsame]
  · rw [he, hsame]
  · rw [he, hsame]
  · rw [he, hsame]
  · rw [horder]
    exact noticed_kept ..
  · rw [hr]
    exact halloc
  · have ht : t.line l = s.line l := by rw [hsame]; rfl
    obtain ⟨h1, h2, h3, h4⟩ := hl l
    rw [ht] at h1 h2 h3 h4
    rw [he]
    exact ⟨h1, h2, h3, h4⟩

theorem linesRealarmed : LinesRealarmed s r := by
  have hsame := h.rest_eq hb
  refine Machine.linesRealarmed (t := t) ?_ ?_ ?_ ?_
  · rw [hsame]
  · rw [hsame]
    rfl
  · rw [h.result]
  · rw [h.result]

/-- The cabinet's record has taken its FATAL flag, and its marker is set (R159, R162). -/
theorem cabFaults_self : r.cabFaults (cabOf b) = { s.cabFaults (cabOf b) with
    fatal := some ((s.cabFaults (cabOf b)).fatal.getD ⟨.rampTimeout, ⟨.cabinet, cabOf b⟩⟩), isolated := true } := by
  have hr : r.cabFaults (cabOf b) = (marked (cabOf b) (rampFaulted b s)).cabFaults (cabOf b) := by
    unfold State.cabFaults
    rw [h.faults_eq hb]
  rw [hr, marked, cabFaults_putCabFaults_self (cabOf_valid hb), rampFaulted,
    cabFaults_putCabFaults_self (cabOf_valid hb)]
  rfl

theorem cabFaults_other {k : Nat} (hk : k ≠ cabOf b) : r.cabFaults k = s.cabFaults k := by
  have hr : r.cabFaults k = (marked (cabOf b) (rampFaulted b s)).cabFaults k := by
    unfold State.cabFaults
    rw [h.faults_eq hb]
  have hne : ∀ x u, (putCabFaults (cabOf b) x u).cabFaults k = u.cabFaults k := fun x u => by
    rw [cabFaults_putCabFaults, if_neg fun e => hk e.1.symm]
  rw [hr, marked, hne, rampFaulted, hne]
  rfl

theorem requested (hx : (s.cabFaults (cabOf b)).isolated = false ∨ TakesFaultHold (cabOf b) s) : Requested s r := by
  have hv : PassKept s (rampFaulted b s) := .same rfl rfl
  refine Requested.kept (hv.requested (h.isolated.requested ?_)) h.kept
  rw [rampFaulted_marker hb]
  exact hx.imp_right fun ⟨k, _, hk, hs, hf⟩ => ⟨k, hk, hs, hf⟩

theorem reported (k : Nat) : (r.power k).reported = (s.power k).reported := by
  have hv : ((rampFaulted b s).power k).reported = (s.power k).reported := by
    have hp : (rampFaulted b s).power k = (putPower b { s.power b with ramp := none } s).power k := rfl
    rw [hp, power_putPower]
    split
    · next e => rw [e.1]
    · rfl
  have hp : r.power k = (isolatedPower (cabOf b) (rampFaulted b s)).power k := by
    unfold State.power
    rw [h.bond_eq hb]
  rw [hp, ← hv]
  unfold isolatedPower
  split
  · rfl
  · exact isolating_reported (cabOf_valid hb) _ k

/-! ### The link and the bond controller -/

/-- A cabinet isolated already keeps its link (R162). -/
theorem links_marked (hm : (s.cabFaults (cabOf b)).isolated = true) : r.links = s.links := by
  rw [h.links_eq hb, isolatedPower_marked (by rw [rampFaulted_marker hb]; exact hm)]
  rfl

/-- A cabinet not isolated before is isolated now. -/
theorem bond_unmarked (hm : (s.cabFaults (cabOf b)).isolated = false) :
    r.bond = (isolating (cabOf b) (marked (cabOf b) (rampFaulted b s))).bond ∧
      r.links = (isolating (cabOf b) (marked (cabOf b) (rampFaulted b s))).links := by
  rw [h.bond_eq hb, h.links_eq hb, isolatedPower_unmarked (by rw [rampFaulted_marker hb]; exact hm)]
  exact ⟨rfl, rfl⟩

theorem link_unmarked (hm : (s.cabFaults (cabOf b)).isolated = false) :
    r.link (cabOf b) = (s.link (cabOf b)).isolating :=
  (congrArg (get1 · Link.reset (cabOf b)) (h.bond_unmarked hb hm).2).trans (isolating_link (cabOf_valid hb) _)

/-- Where the link was not UP, the bond controller has stopped the ramp timer and no more. -/
theorem bond_down (hu : (s.link (cabOf b)).state ≠ .up) :
    r.bond = (putPower b { s.power b with ramp := none } s).bond ∧ ∀ k, k ≠ cabOf b → r.link k = s.link k := by
  cases hm : (s.cabFaults (cabOf b)).isolated with
  | true =>
    refine ⟨?_, fun k _ => congrArg (get1 · Link.reset k) (h.links_marked hb hm)⟩
    rw [h.bond_eq hb, isolatedPower_marked (by rw [rampFaulted_marker hb]; exact hm)]
    rfl
  | false =>
    obtain ⟨hbond, hlinks⟩ := h.bond_unmarked hb hm
    rw [isolating_down (s := marked (cabOf b) (rampFaulted b s)) hu] at hbond hlinks
    refine ⟨hbond, fun k hk => (congrArg (get1 · Link.reset k) hlinks).trans ?_⟩
    exact (link_putLink ..).trans (if_neg fun e => hk e.1.symm)

/-- Where the link was UP, the bond controller has emptied the cabinet and examined the raise waiting list (R123). -/
theorem bond_up (hm : (s.cabFaults (cabOf b)).isolated = false) (hu : (s.link (cabOf b)).state = .up) :
    LeftUp (cabOf b) s r ∧ ExaminedWithout (cabOf b) s r := by
  obtain ⟨hbond, hlinks⟩ := h.bond_unmarked hb hm
  refine ⟨(isolating_leftUp (cabOf_valid hb) (s := marked (cabOf b) (rampFaulted b s)) hu).ofBond hbond rfl rfl rfl,
    isolating_examined (cabOf_valid hb) (v := marked (cabOf b) (rampFaulted b s)) hu hbond hlinks
      (fun k hk => ?_) ?_ rfl rfl (fun k hk => ?_) rfl⟩
  · rw [h.session hb, if_neg hk]
    rfl
  · rw [h.faults_eq hb]
  · have hbk : ¬ (b = k ∧ 1 ≤ b ∧ b ≤ 48) := fun e => hk (congrArg cabOf e.1).symm
    exact (power_putPower ..).trans (if_neg hbk)

/-- The ramp timer that expired has stopped. -/
theorem ramp : (r.power b).ramp = none := by
  have hbonds : ∀ {u : State}, r.bond = u.bond → (u.power b).ramp = none → (r.power b).ramp = none :=
    fun hu hp => by
      unfold State.power at hp ⊢
      rw [hu]
      exact hp
  have hstopped : ((putPower b { s.power b with ramp := none } s).power b).ramp = none := by
    rw [power_putPower, if_pos ⟨rfl, validBay_iff.mp hb⟩]
  by_cases hu : (s.link (cabOf b)).state = .up
  · cases hm : (s.cabFaults (cabOf b)).isolated with
    | true =>
      refine hbonds (u := rampFaulted b s) ?_ hstopped
      rw [h.bond_eq hb, isolatedPower_marked (by rw [rampFaulted_marker hb]; exact hm)]
    | false => exact ((h.bond_up hb hm hu).1.bays b hb rfl).2
  · exact hbonds (h.bond_down hb hu).1 hstopped

end RampExpired

/-! ### A contactor timer (R120) -/

/-- The cabinet's record holds CONTACTOR_TIMEOUT, and the alarm indication has been evaluated (R120, R159). -/
def contactorFaulted (c m : Nat) (s : State) : State :=
  evaluateAlarm (putCabFaults c ((s.cabFaults c).recorded ⟨.contactorTimeout, ⟨.module, m⟩⟩) s)

/-- The module is FAULTED, and the FAULT notice has been created. -/
def contactorOpened (c m : Nat) (s : State) : State :=
  putModule c m ⟨.faulted, none, none⟩ { contactorFaulted c m s with
    order := noticed (faultNotices c .contactorTimeout ⟨.module, m⟩ s (contactorFaulted c m s)) s.order }

theorem expireContactor_eq {c m : Nat} {s : State} (hr : (s.module c m).contactor.isSome = true) :
    expireContactor c m s = requestPass (contactorOpened c m s) := by
  unfold expireContactor
  rw [if_pos hr, takeFault_eq rfl rfl rfl]
  rfl

/-- The effect of the expiry is the record, the FAULTED module, a notice and a request. -/
theorem requestPass_contactorOpened (c m : Nat) (s : State) :
    let r := requestPass (contactorOpened c m s)
    Quiet (putModule c m ⟨.faulted, none, none⟩ (contactorFaulted c m s)) r ∧
      Requested s r ∧ r.sessions = s.sessions ∧
      r.order = noticed (faultNotices c .contactorTimeout ⟨.module, m⟩ s r) s.order ∧
      r.bond = { s.bond with modules := r.bond.modules } := by
  intro r
  have hpass : PassOnly (contactorOpened c m s) r := .requestPass _
  have halloc : (contactorFaulted c m s).alloc = s.alloc := evaluateAlarm_alloc _
  have hpower : PowerAs s (contactorFaulted c m s) := by
    obtain ⟨hs, hb, hl⟩ := evaluateAlarm_power (putCabFaults c
      ((s.cabFaults c).recorded ⟨.contactorTimeout, ⟨.module, m⟩⟩) s)
    exact ⟨hs, hb, hl⟩
  have horder : (contactorFaulted c m s).order = s.order := by
    unfold contactorFaulted
    obtain ⟨lines, hframe, -⟩ := evaluateAlarm_eq (putCabFaults c
      ((s.cabFaults c).recorded ⟨.contactorTimeout, ⟨.module, m⟩⟩) s)
    rw [hframe]
    rfl
  have hreq : Requested s r := requested_requestPass fun hs => by
    have he : (contactorOpened c m s).alloc = s.alloc := halloc
    unfold inFlight at hs ⊢
    rw [he]
    exact hs
  have hrest := hpass.rest
  have hnotices : faultNotices c .contactorTimeout ⟨.module, m⟩ s r =
      faultNotices c .contactorTimeout ⟨.module, m⟩ s (contactorFaulted c m s) := by rw [hrest]; rfl
  refine ⟨?_, hreq, ?_, ?_, ?_⟩
  · refine Quiet.trans (t := contactorOpened c m s) ?_ hpass.quiet
    have hquiet := noticed_quiet (faultNotices c .contactorTimeout ⟨.module, m⟩ s (contactorFaulted c m s))
      (putModule c m ⟨.faulted, none, none⟩ (contactorFaulted c m s))
    unfold contactorOpened
    rw [← horder]
    exact hquiet
  · rw [hrest]
    exact hpower.sessions
  · rw [hnotices, hrest]
    rfl
  · rw [← hpower.bond, hrest]
    rfl

end Sys2Proof.Machine

open Sys2Proof Sys2Proof.Machine

/-- Settles O47: each expiry takes its fault; what follows in each part of the state is said of the isolated
cabinet. -/
theorem rampAndContactorExpiries : Obligations.RampAndContactorExpiries := by
  refine ⟨fun b s hb => ⟨fun hn => ?_, fun hi hr => ?_⟩, fun c m s hc hm => ⟨fun hn => ?_, fun hr => ?_⟩⟩
  · exact (if_pos hb).trans (congrArg Host.Outcome.next (if_neg (by rw [hn]; decide)))
  · obtain ⟨t, h⟩ := expireRamp_expired hb hr hi
    refine ⟨_, if_pos hb, h.settled hb, h.cabFaults_self hb, fun k hk => h.cabFaults_other hb hk, h.alarm,
      h.linesRealarmed hb, h.ramp hb, h.order_eq hb, h.session hb, h.reported hb, fun hm => ?_, h.bond_down hb,
      fun hx => h.requested hb (.inr hx), fun hm => ?_⟩
    · have hl := h.links_marked hb hm
      exact ⟨congrArg (fun v => (get1 v Link.reset (cabOf b)).state) hl, hl⟩
    · rw [h.link_unmarked hb hm]
      refine ⟨Link.isolating_state _, h.requested hb (.inl hm), Link.isolating_down, fun hu => ?_⟩
      obtain ⟨hleft, hexamined⟩ := h.bond_up hb hm hu
      exact ⟨hleft, hexamined, Link.isolating_frames hu⟩
  · exact (if_pos hc).trans ((if_pos hm).trans (congrArg Host.Outcome.next (if_neg (by rw [hn]; decide))))
  · have he : exec (.contactorTimerExpiry c m) s = .next (requestPass (contactorOpened c m s)) :=
      (if_pos hc).trans ((if_pos hm).trans (congrArg Host.Outcome.next (expireContactor_eq hr)))
    obtain ⟨hquiet, hreq, hrest⟩ := requestPass_contactorOpened c m s
    exact ⟨_, hquiet, he, hreq, hrest⟩
end

section
/-! A bond waiting list served, whatever its entries and the link's state (R108, R106): for O46. -/

namespace Sys2Proof.Machine

/-! ### Frames that only an UP link takes (R106) -/

/-- Frames handed in turn to a link that takes them only while it is UP. -/
def Link.handAllIfUp (l : Link) (ms : List CabMsg) : Link := if l.state = .up then l.handAll ms else l

theorem Link.handIfUp_state (l : Link) (m : CabMsg) : (l.handIfUp m).state = l.state := by
  rw [Link.handIfUp_kept l m]

theorem Link.handAllIfUp_cons (l : Link) (m : CabMsg) (ms : List CabMsg) :
    l.handAllIfUp (m :: ms) = (l.handIfUp m).handAllIfUp ms := by
  unfold handAllIfUp
  rw [handIfUp_state]
  split
  · next h => rw [handIfUp, if_pos h]; rfl
  · next h => rw [handIfUp, if_neg h]

/-! ### One FREE module for the head entry (R108) -/

/-- The bays for which the entries of a list take FREE modules in turn; an entry takes one whatever it wants. -/
def seats (l : List BondEntry) : List Nat := l.flatMap fun e => List.replicate (max 1 e.wanted) e.bay

theorem seats_cons (e : BondEntry) (rest : List BondEntry) : seats (e :: rest) = e.bay :: seats (afterOne e rest) := by
  obtain ⟨bay, wanted⟩ := e
  unfold afterOne seats
  rw [List.flatMap_cons]
  split
  · next h => rw [Nat.max_eq_left h]; rfl
  · next h =>
    obtain ⟨n, rfl⟩ : ∃ n, wanted = n + 2 := ⟨wanted - 2, by simp only at h; omega⟩
    rw [List.flatMap_cons, Nat.max_eq_right (by omega), Nat.max_eq_right (by simp)]
    rfl

/-- Modules of cabinet `c` have been closed for bays, each with its BOND where the link is UP. -/
structure Seated (c : Nat) (given : List (Nat × Nat)) (s t : State) : Prop where
  rest   : t = { s with
             links := set1 s.links c ((s.link c).handAllIfUp (given.map fun g => .bond g.1 (posOf g.2)))
             bond := { s.bond with
               modules := t.bond.modules
               bondLists := set1 s.bond.bondLists c (t.bondList c) } }
  module : ∀ d k, t.module d k = if d = c then closedFor given k (s.module d k) else s.module d k

theorem Link.handAllIfUp_nil (l : Link) : l.handAllIfUp [] = l := ite_self _

theorem Seated.none (c : Nat) (s : State) : Seated c [] s s where
  rest := by
    have hlinks : set1 s.links c (s.link c) = s.links := set1_get1 ..
    have hlists : set1 s.bond.bondLists c (s.bondList c) = s.bond.bondLists := set1_get1 ..
    rw [List.map_nil, Link.handAllIfUp_nil, hlinks, hlists]
  module d k := by split <;> rfl

/-- The first of those given a module is closed before, and apart from, the others. -/
theorem closedFor_cons {m b : Nat} {given : List (Nat × Nat)} (hm : ∀ g ∈ given, g.1 ≠ m) (k : Nat) (x : Module) :
    closedFor given k (closedFor [(m, b)] k x) = closedFor ((m, b) :: given) k x := by
  unfold closedFor
  by_cases hk : m = k
  · have hnone : given.find? (fun g => g.1 = k) = Option.none := by
      rw [List.find?_eq_none]
      exact fun g hg e => hm g hg ((of_decide_eq_true e).trans hk.symm)
    rw [hnone, List.find?_cons_of_pos (by simp [hk]), List.find?_cons_of_pos (by simp [hk])]
  · rw [List.find?_cons_of_neg (by simp [hk]), List.find?_cons_of_neg (by simp [hk])]
    rfl

theorem Seated.cons {c m b : Nat} {given : List (Nat × Nat)} {s t u : State} (hc : validCab c = true)
    (h : Seated c [(m, b)] s t) (k : Seated c given t u) (hm : ∀ g ∈ given, g.1 ≠ m) :
    Seated c ((m, b) :: given) s u where
  rest := by
    have hlink : t.link c = (s.link c).handIfUp (.bond m (posOf b)) := by
      rw [h.rest]
      refine (get1_set1_self _ _ _ _ (validCab_iff.mp hc).1 (validCab_iff.mp hc).2).trans ?_
      rw [List.map_cons, List.map_nil, Link.handAllIfUp_cons, Link.handAllIfUp_nil]
    conv => lhs; rw [k.rest, hlink, h.rest]
    dsimp only
    rw [set1_set1, set1_set1, List.map_cons, Link.handAllIfUp_cons]
  module d j := by
    rw [k.module, h.module]
    split
    · exact closedFor_cons hm j _
    · rfl

section
variable {c m : Nat} {e : BondEntry} {rest : List BondEntry} {free : List Nat} {s : State} (hc : validCab c = true)
  (hs : s.faults.stopMinute = none) (hl : s.bondList c = e :: rest) (hf : freeModules s c = m :: free)
include hs hl hf

/-- The head entry takes the lowest FREE module. -/
theorem serveHead_eq : serveHead c s = putBondList c (afterOne e rest)
    (putModule c m ⟨.closing, some e.bay, some 2000⟩
      (putLink c ((s.link c).handIfUp (.bond m (posOf e.bay))) s)) := by
  unfold serveHead
  rw [hl]
  dsimp only
  rw [hs, freeModule_eq, hf, List.head?_cons, ← sendIfUp_eq]
  rfl

include hc

theorem serveHead_bondList : (serveHead c s).bondList c = afterOne e rest := by
  rw [serveHead_eq hs hl hf, bondList_putBondList, if_pos ⟨rfl, validCab_iff.mp hc⟩]

theorem serveHead_module (d k : Nat) : (serveHead c s).module d k =
    if c = d ∧ m = k then ⟨.closing, some e.bay, some 2000⟩ else s.module d k := by
  have hm : m ∈ freeModules s c := by rw [hf]; exact List.mem_cons_self
  rw [serveHead_eq hs hl hf, putBondList_at_module]
  exact module_putModule _ c m d k _ hc (mem_allModules.mp (List.mem_filter.mp hm).1)

theorem serveHead_seated : Seated c [(m, e.bay)] s (serveHead c s) where
  rest := by
    rw [serveHead_bondList hc hs hl hf, List.map_cons, List.map_nil, Link.handAllIfUp_cons, Link.handAllIfUp_nil]
    conv => lhs; rw [serveHead_eq hs hl hf]
    rw [serveHead_eq hs hl hf]
    rfl
  module d k := by
    rw [serveHead_module hc hs hl hf]
    by_cases hd : d = c
    · rw [if_pos hd]
      unfold closedFor
      by_cases hk : m = k
      · rw [if_pos ⟨hd.symm, hk⟩, List.find?_cons_of_pos (by simp [hk])]
      · rw [if_neg fun h => hk h.2, List.find?_cons_of_neg (by simp [hk])]
        rfl
    · rw [if_neg fun h => hd h.1.symm, if_neg hd]

theorem serveHead_free : freeModules (serveHead c s) c = free := by
  have hn : (freeModules s c).Nodup := allModules_nodup.filter _
  have hd : freeModules (serveHead c s) c = (freeModules s c).filter fun k => k ≠ m := by
    unfold freeModules
    rw [List.filter_filter]
    refine List.filter_congr fun k _ => ?_
    rw [serveHead_module hc hs hl hf]
    by_cases hk : m = k
    · rw [if_pos ⟨rfl, hk⟩]
      simp [hk]
    · rw [if_neg fun h => hk h.2]
      simp [Ne.symm hk]
  rw [hf] at hn hd
  rw [hd, List.filter_cons_of_neg (by simp), List.filter_eq_self]
  exact fun k hk => decide_eq_true fun e => (List.nodup_cons.mp hn).1 (e ▸ hk)

end

/-! ### The list while it and the FREE modules last -/

/-- What a cabinet's bond waiting list and FREE modules come to. -/
structure SeatedOut (c : Nat) (s t : State) : Prop where
  seated : Seated c ((freeModules s c).zip (seats (s.bondList c))) s t
  seats  : seats (t.bondList c) = (seats (s.bondList c)).drop (freeModules s c).length

theorem seatedOut_idle {c : Nat} {s : State} (hi : s.bondList c = [] ∨ freeModules s c = []) (n : Nat) :
    SeatedOut c s ((serveHead c)^[n] s) := by
  rw [Function.iterate_fixed (serveHead_idle hi)]
  have hz : (freeModules s c).zip (seats (s.bondList c)) = [] := by
    rcases hi with hi | hi <;> rw [hi]
    · exact List.zip_nil_right
    · exact List.zip_nil_left
  refine ⟨hz ▸ .none c s, ?_⟩
  rcases hi with hi | hi <;> rw [hi]
  · exact List.drop_nil.symm
  · rfl

theorem serveHead_iterate_seated {c : Nat} (hc : validCab c = true) (n : Nat) {s : State}
    (hs : s.faults.stopMinute = none) (hn : (freeModules s c).length ≤ n) : SeatedOut c s ((serveHead c)^[n] s) := by
  induction n generalizing s with
  | zero => exact seatedOut_idle (.inr (List.length_eq_zero_iff.mp (Nat.le_zero.mp hn))) 0
  | succ n ih =>
    cases hf : freeModules s c with
    | nil => exact seatedOut_idle (.inr hf) (n + 1)
    | cons m free =>
      cases hl : s.bondList c with
      | nil => exact seatedOut_idle (.inl hl) (n + 1)
      | cons e rest =>
        have hrest := serveHead_bondList hc hs hl hf
        have hfree := serveHead_free hc hs hl hf
        have h := serveHead_seated hc hs hl hf
        obtain ⟨hlater, hseats⟩ := ih (s := serveHead c s) (by rw [h.rest]; exact hs)
          (by rw [hf] at hn; rw [hfree]; exact Nat.le_of_succ_le_succ hn)
        have hnot : m ∉ free := (List.nodup_cons.mp (hf ▸ allModules_nodup.filter _ : (m :: free).Nodup)).1
        rw [hfree, hrest] at hlater hseats
        rw [Function.iterate_succ_apply]
        refine ⟨?_, ?_⟩ <;> rw [hf, hl, seats_cons]
        · exact h.cons hc hlater fun g hg e => hnot (e ▸ (List.of_mem_zip hg).1)
        · exact hseats

/-- A bond waiting list is served in its order while a FREE module and an entry last (R108). -/
theorem serveBonds_seatedOut {c : Nat} (hc : validCab c = true) {s : State} (hs : s.faults.stopMinute = none) :
    SeatedOut c s (serveBonds c s) := by
  rw [serveBonds_eq]
  exact serveHead_iterate_seated hc 4 hs (freeModules_length s c)

theorem serveHead_stopped {c : Nat} {s : State} (hs : s.faults.stopMinute.isSome = true) : serveHead c s = s := by
  unfold serveHead
  split
  · rfl
  · exact if_pos hs

theorem serveBonds_stopped {c : Nat} {s : State} (hs : s.faults.stopMinute.isSome = true) : serveBonds c s = s := by
  rw [serveBonds_eq, Function.iterate_fixed (serveHead_stopped hs)]

theorem serveBonds_idle {c : Nat} {s : State} (h : s.bondList c = [] ∨ freeModules s c = []) : serveBonds c s = s := by
  rw [serveBonds_eq, Function.iterate_fixed (serveHead_idle h)]

/-- With one FREE module the head entry takes it, and the list waits on. -/
theorem serveBonds_single {c m : Nat} {e : BondEntry} {rest : List BondEntry} {s : State} (hc : validCab c = true)
    (hs : s.faults.stopMinute = none) (hl : s.bondList c = e :: rest) (hf : freeModules s c = [m]) :
    serveBonds c s = serveHead c s := by
  rw [serveBonds_eq, Function.iterate_succ_apply, Function.iterate_fixed
    (serveHead_idle (.inr (serveHead_free hc hs hl hf)))]

/-- Serving a list does not look at the allocator. -/
theorem serveHead_alloc (c : Nat) (s : State) (a : Allocator) :
    serveHead c { s with alloc := a } = { serveHead c s with alloc := a } := by
  have hsend : ∀ m, sendIfUp c m { s with alloc := a } = { sendIfUp c m s with alloc := a } := fun m => by
    rw [sendIfUp_eq, sendIfUp_eq]
    rfl
  unfold serveHead
  simp only [hsend]
  have hlist : State.bondList { s with alloc := a } c = s.bondList c := rfl
  have hfree : freeModule { s with alloc := a } c = freeModule s c := rfl
  rw [hlist, hfree]
  split
  · rfl
  · split
    · rfl
    · split <;> rfl

theorem serveBonds_alloc (c : Nat) (s : State) (a : Allocator) :
    serveBonds c { s with alloc := a } = { serveBonds c s with alloc := a } := by
  unfold serveBonds
  simp only [serveHead_alloc]

end Sys2Proof.Machine
end

section
/-! MODULE REPORT opened and closed (R115, R116): for O46. -/

namespace Sys2Proof.Machine

/-! ### The arrival (R140) -/

theorem exec_moduleReport {c : Nat} {m res : Byte} {s : State} (hc : validCab c = true)
    (hm : validModule m.toNat = true) (hr : res.toNat ≤ 2) :
    exec (.moduleReport c m res) s = .next (actModuleReport c m res (goodFrame c s)) := by
  have hv : validReport m res = true := by
    rw [validReport, hm]
    exact decide_eq_true hr
  refine (if_pos hc).trans (congrArg Host.Outcome.next ?_)
  unfold takeModuleReport takeChecked
  rw [if_pos hv]

/-- A good frame leaves the state of its link, and whether the link is adopted. -/
theorem goodFrame_state {c : Nat} (hc : validCab c = true) (s : State) :
    ((goodFrame c s).link c).state = (s.link c).state ∧ ((goodFrame c s).link c).adopted = (s.link c).adopted := by
  rw [goodFrame_link hc]
  exact Link.heard_state _

section
variable {c : Nat} {m : Byte} {s : State} (hc : validCab c = true) (hm : validModule m.toNat = true)
include hc hm

/-- A report at a link that is not UP or not adopted is not acted on. -/
theorem exec_moduleReport_discarded (hn : (s.link c).state ≠ .up ∨ (s.link c).adopted = false) {res : Byte}
    (hr : res.toNat ≤ 2) : exec (.moduleReport c m res) s = .next (goodFrame c s) := by
  obtain ⟨hst, had⟩ := goodFrame_state hc s
  have hguard : ¬ ((decide ((s.link c).state = .up) && (s.link c).adopted) = true) := by
    rcases hn with hn | hn <;> simp [hn]
  rw [exec_moduleReport hc hm hr]
  unfold actModuleReport
  dsimp only
  rw [hst, had, if_neg hguard]

theorem exec_moduleReport_taken (hu : (s.link c).state = .up) (ha : (s.link c).adopted = true) :
    exec (.moduleReport c m 0) s = .next (moduleOpened c m.toNat (goodFrame c s)) ∧
    exec (.moduleReport c m 1) s = .next (moduleClosed c m.toNat (goodFrame c s)) ∧
    exec (.moduleReport c m 2) s = .next (moduleFailed c m.toNat (goodFrame c s)) := by
  obtain ⟨hst, had⟩ := goodFrame_state hc s
  have hguard : (decide (((goodFrame c s).link c).state = .up) && ((goodFrame c s).link c).adopted) = true := by
    rw [hst, had, ha, hu]
    rfl
  refine ⟨?_, ?_, ?_⟩
  · exact (exec_moduleReport hc hm (by decide)).trans (congrArg Host.Outcome.next (if_pos hguard))
  · exact (exec_moduleReport hc hm (by decide)).trans (congrArg Host.Outcome.next (if_pos hguard))
  · exact (exec_moduleReport hc hm (by decide)).trans (congrArg Host.Outcome.next (if_pos hguard))

end

/-! ### What a report of opened does (R115) -/

/-- The state with a module FREE (R115). -/
def freed (c m : Nat) (s : State) : State := putModule c m ⟨.free, none, none⟩ s

section
variable {c m : Nat} {s : State}

theorem moduleOpened_none (ho : (s.module c m).state ≠ .opening) (hn : (s.module c m).state ≠ .closing) :
    moduleOpened c m s = s := by
  unfold moduleOpened
  split
  · next h => exact absurd h ho
  · next h => exact absurd h hn
  · rfl

theorem moduleOpened_opening (h : (s.module c m).state = .opening) :
    moduleOpened c m s = serveBonds c (freed c m s) := by
  unfold moduleOpened
  rw [h]
  rfl

theorem moduleOpened_closing (h : (s.module c m).state = .closing) :
    moduleOpened c m s = serveBonds c (requestPass (freed c m s)) := by
  unfold moduleOpened
  rw [h]
  rfl

theorem freed_module (hc : validCab c = true) (hm : validModule m = true) (k : Nat) :
    (freed c m s).module c k = if m = k then ⟨.free, none, none⟩ else s.module c k :=
  (module_putModule _ _ _ _ _ _ hc hm).trans (if_congr (and_iff_right rfl) rfl rfl)

/-- A module that is freed is the one FREE module where there was none. -/
theorem freeModules_freed (hc : validCab c = true) (hm : validModule m = true)
    (hn : ∀ k, validModule k = true → (s.module c k).state ≠ .free) : freeModules (freed c m s) c = [m] := by
  have hfilter : freeModules (freed c m s) c = allModules.filter (· = m) := by
    refine List.filter_congr fun k hk => ?_
    rw [freed_module hc hm]
    by_cases hkm : m = k
    · simp [hkm]
    · simp [hkm, Ne.symm hkm, hn k (mem_allModules.mp hk)]
  rw [hfilter, List.filter_eq, List.count_eq_one_of_mem allModules_nodup (mem_allModules.mpr hm)]
  rfl

/-- A module freed for the only FREE one closes at once for the head of the bond waiting list (R108). -/
theorem serveBonds_freed {e : BondEntry} {rest : List BondEntry} (hc : validCab c = true)
    (hm : validModule m = true) (hu : (s.link c).state = .up) (hl : s.bondList c = e :: rest)
    (hs : s.faults.stopMinute = none) (hn : ∀ k, validModule k = true → (s.module c k).state ≠ .free) :
    serveBonds c (freed c m s) = putBondList c (afterOne e rest) (putModule c m ⟨.closing, some e.bay, some 2000⟩
      (sendCab c (.bond m (posOf e.bay)) (freed c m s))) := by
  have hfree := freeModules_freed hc hm hn
  have hhand : ((freed c m s).link c).handIfUp (.bond m (posOf e.bay)) =
      ((freed c m s).link c).hand (.bond m (posOf e.bay)) := if_pos hu
  rw [serveBonds_single (s := freed c m s) hc hs hl hfree, serveHead_eq (s := freed c m s) hs hl hfree, hhand]
  rfl

/-- A freed module stays FREE or closes for the head of the bond waiting list. -/
theorem serveBonds_freed_state (hc : validCab c = true) (hm : validModule m = true) :
    ((serveBonds c (freed c m s)).module c m).state = .free ∨
      ((serveBonds c (freed c m s)).module c m).state = .closing := by
  have hfreed : (freed c m s).module c m = ⟨.free, none, none⟩ := (freed_module hc hm m).trans (if_pos rfl)
  cases hs : (freed c m s).faults.stopMinute with
  | some _ =>
    rw [serveBonds_stopped (by rw [hs]; rfl), hfreed]
    exact .inl rfl
  | none =>
    rw [(serveBonds_seatedOut hc hs).seated.module, if_pos rfl]
    rcases closedFor_cases (freed c m s) c m (seats ((freed c m s).bondList c)) ((freed c m s).module c m) with
      hx | ⟨-, hx⟩
    · rw [hx, hfreed]
      exact .inl rfl
    · exact .inr hx

/-- The module that a report of opened frees while it was CLOSING: the request, and what is served (R115). -/
theorem moduleOpened_closing_effect (hc : validCab c = true) (hm : validModule m = true)
    (h : (s.module c m).state = .closing) :
    let r := moduleOpened c m s
    Requested s r ∧ r.order = s.order ∧ ((r.module c m).state = .free ∨ (r.module c m).state = .closing) ∧
      (s.bondList c = [] → r.module c m = ⟨.free, none, none⟩) ∧ Quiet (serveBonds c (freed c m s)) r := by
  intro r
  have hpass := PassOnly.requestPass (freed c m s)
  have hserved := serveBonds_bondsOnly c (freed c m s)
  have hr : r = { serveBonds c (freed c m s) with alloc := (requestPass (freed c m s)).alloc } := by
    rw [← serveBonds_alloc, ← hpass.rest]
    exact moduleOpened_closing h
  have hmodule : r.module c m = (serveBonds c (freed c m s)).module c m := by rw [hr]; rfl
  have hrequested : Requested s (requestPass (freed c m s)) := requested_requestPass id
  rw [hmodule]
  refine ⟨hrequested.kept (.same (by rw [hr]) ?_), ?_, serveBonds_freed_state hc hm, fun he => ?_, ?_⟩
  · rw [hr, hserved.rest, hpass.rest]
    rfl
  · rw [hr, hserved.rest]
    rfl
  · rw [serveBonds_idle (s := freed c m s) (.inl he)]
    exact (freed_module hc hm m).trans (if_pos rfl)
  · have hq := hpass.alloc
    rw [← hserved.alloc] at hq
    rw [hr]
    exact .ofAlloc hq

end

/-! ### What a report of closed does (R116) -/

theorem moduleClosed_none {c m : Nat} {s : State} (hn : (s.module c m).state ≠ .closing) : moduleClosed c m s = s := by
  unfold moduleClosed
  dsimp only
  split
  · next h => exact absurd h hn
  · rfl

theorem releaseExcess_modulesOnly (b : Nat) (s : State) : ModulesOnly s (releaseExcess b s) := by
  rw [releaseExcess_eq]
  exact .forEach (fun m t => convert_modulesOnly _ _ _ b m t) _ s

section
variable {b m : Nat} {s : State}

/-- A CLOSING module is BONDED to its bay, and the modules that the grant does not need are released. -/
theorem moduleClosed_closing (h : (s.module (cabOf b) m).state = .closing) (hb : (s.module (cabOf b) m).bay = some b) :
    moduleClosed (cabOf b) m s =
      examineRaises (requestPass (releaseExcess b (putModule (cabOf b) m ⟨.bonded, some b, none⟩ s))) := by
  unfold moduleClosed
  dsimp only
  rw [h]
  dsimp only
  rw [hb]
  rfl

/-- After the release a bay's BONDED modules are no more than its grant needs. -/
theorem bonded_releaseExcess (hb : validBay b = true) (s : State) :
    300 * bonded (releaseExcess b s) b < (s.session b).grant + 300 := by
  have hn := (releaseExcess_spec hb s).1
  have ht := targetCount_eq (s.session b).grant
  omega

/-- The BONDED modules that the grant does not need go to RAMPING. -/
theorem releaseExcess_module (hb : validBay b = true) {k : Nat} (hk : validModule k = true) (s : State) :
    (releaseExcess b s).module (cabOf b) k =
      if (s.module (cabOf b) k).state = .bonded ∧ (s.module (cabOf b) k).bay = some b ∧
        (s.session b).grant ≤ 300 * modulesBelow s b .bonded k
      then { s.module (cabOf b) k with state := .ramping } else s.module (cabOf b) k := by
  refine ((releaseExcess_spec hb s).2 _ k).trans (if_congr ?_ rfl rfl)
  rw [inState_iff]
  unfold targetCount
  rw [ceilDiv_le_iff (by decide)]
  exact ⟨fun ⟨_, _, h, hg⟩ => ⟨h.1, h.2, hg⟩, fun ⟨h1, h2, hg⟩ => ⟨rfl, hk, ⟨h1, h2⟩, hg⟩⟩

theorem moduleClosed_effect (h : (s.module (cabOf b) m).state = .closing)
    (hbay : (s.module (cabOf b) m).bay = some b) :
    let w := releaseExcess b (putModule (cabOf b) m ⟨.bonded, some b, none⟩ s)
    let r := moduleClosed (cabOf b) m s
    Ripple w r ∧ Requested s r ∧ r.order = s.order ∧ PowerAs (examineRaises w) r := by
  intro w r
  have hr : r = examineRaises (requestPass w) := moduleClosed_closing h hbay
  have hw : ModulesOnly (putModule (cabOf b) m ⟨.bonded, some b, none⟩ s) w := releaseExcess_modulesOnly ..
  have hrequested : Requested s (requestPass w) := requested_requestPass fun hs => by rw [hw]; exact hs
  refine ⟨?_, ?_, ?_, ?_⟩
  · rw [hr]
    exact (requestPass_ripple w).trans (examineRaises_ripple _)
  · rw [hr]
    exact hrequested.kept (examineRaises_kept _)
  · rw [hr, (BondsOnly.examineRaises _).rest]
    exact (requestPass_order w).trans (by rw [hw]; rfl)
  · rw [hr]
    exact (Alike.ofQuiet (requestPass_quiet w)).examineRaises.power

end

end Sys2Proof.Machine
end

section
/-! A module fault at the bond controller (R121, R122): for O46. -/

namespace Sys2Proof.Machine

/-! ### A reduction and the clip of a setpoint (R113, R121) -/

/-- A reduction: the setpoint, its SETPOINT where the link is UP, and the ramp timer. -/
theorem reduce_eq {b : Nat} (hb : validBay b = true) (v : Nat) (s : State) : reduce b v s =
    let u := putPower b ⟨v, (s.power b).reported, some 5000⟩ s
    if (s.link (cabOf b)).state = .up then
      putLink (cabOf b) ((s.link (cabOf b)).hand (.setpoint (posOf b) v)) u else u := by
  dsimp only
  split
  · next hu => exact reduce_up hb hu v
  · next hu =>
    have hs : sendSetpoint b v s = putPower b { s.power b with commanded := v } s := if_neg hu
    unfold reduce
    dsimp only
    rw [hs, power_putPower, if_pos ⟨rfl, validBay_iff.mp hb⟩, putPower_putPower]
    rfl

theorem clipSetpoint_bondsOnly (b : Nat) (s : State) : BondsOnly s (clipSetpoint b s) := by
  unfold clipSetpoint
  split
  · exact .reduce ..
  · exact .refl s

theorem clipSetpoint_ripple (b : Nat) (s : State) : Ripple s (clipSetpoint b s) := by
  unfold clipSetpoint
  split
  · exact reduce_ripple ..
  · exact .refl s

theorem clipSetpoint_commanded (b : Nat) (s : State) :
    ((clipSetpoint b s).power b).commanded = min (s.power b).commanded (300 * bonded s b) := by
  unfold clipSetpoint
  split
  · next h =>
    by_cases hb : validBay b = true
    · rw [reduce_commanded hb, Nat.min_eq_right (Nat.le_of_lt h)]
    · rw [power_out hb] at h
      exact absurd h (Nat.not_lt_zero _)
  · next h => rw [Nat.min_eq_left (Nat.not_lt.mp h)]

/-! ### The NARROW notice and the pass request (R122, R121) -/

/-- NARROW has been created, and a pass requested. -/
def narrowed (b c m : Nat) (had : ModuleState) (s : State) : State := requestPass (narrowNotice b c m had s)

section
variable (b c m : Nat) (had : ModuleState) (s : State)

theorem narrowed_quiet : Quiet s (narrowed b c m had s) :=
  (notify_quiet ..).trans (requestPass_quiet _)

theorem narrowed_requested : Requested s (narrowed b c m had s) :=
  (notify_kept ..).requested (requestPass_requested _)

theorem narrowed_order : (narrowed b c m had s).order = noticed [(.narrow, enc8 b ++ enc8 c ++ enc8 m ++
    enc8 had.code ++ enc8 (bonded s b) ++ enc16 (s.power b).commanded)] s.order := by
  unfold narrowed narrowNotice
  rw [requestPass_order, notify_eq]

end

/-! ### What a module fault does, by the state of the module (R121) -/

/-- The state with a module FAULTED. -/
def faulted (c m : Nat) (s : State) : State := putModule c m ⟨.faulted, none, none⟩ s

section
variable {c m : Nat} {s : State}

theorem moduleFault_faulted (h : (s.module c m).state = .faulted) : moduleFault c m s = s := by
  unfold moduleFault
  dsimp only
  rw [h]

theorem moduleFault_unused (h : (s.module c m).state = .absent ∨ (s.module c m).state = .unknown) :
    moduleFault c m s = faulted c m s := by
  unfold moduleFault
  dsimp only
  rcases h with h | h <;> rw [h] <;> rfl

theorem moduleFault_unbonded (h : (s.module c m).state = .free ∨ (s.module c m).state = .closing ∨
    (s.module c m).state = .opening) : moduleFault c m s = requestPass (faulted c m s) := by
  unfold moduleFault
  dsimp only
  rcases h with h | h | h <;> rw [h] <;> rfl

theorem moduleFault_ramping (h : (s.module c m).state = .ramping) :
    moduleFault c m s = narrowed ((s.module c m).bay.getD 0) c m .ramping (faulted c m s) := by
  unfold moduleFault
  dsimp only
  rw [h]
  rfl

theorem moduleFault_bonded (h : (s.module c m).state = .bonded) : moduleFault c m s =
    examineRaises (narrowed ((s.module c m).bay.getD 0) c m .bonded
      (clipSetpoint ((s.module c m).bay.getD 0) (faulted c m s))) := by
  unfold moduleFault
  dsimp only
  rw [h]
  rfl

theorem moduleFault_ripple (hn : (s.module c m).state ≠ .faulted) :
    Ripple (faulted c m s) (moduleFault c m s) ∧ (moduleFault c m s).sessions = s.sessions := by
  -- what a quiet step from the faulted module leaves
  have quiet : ∀ r, Quiet (faulted c m s) r → Ripple (faulted c m s) r ∧ r.sessions = s.sessions :=
    fun r hr => ⟨hr.ripple, hr.power.sessions⟩
  cases h : (s.module c m).state with
  | faulted => exact absurd h hn
  | absent => exact moduleFault_unused (.inl h) ▸ quiet _ (.refl _)
  | unknown => exact moduleFault_unused (.inr h) ▸ quiet _ (.refl _)
  | free => exact moduleFault_unbonded (.inl h) ▸ quiet _ (requestPass_quiet _)
  | closing => exact moduleFault_unbonded (.inr (.inl h)) ▸ quiet _ (requestPass_quiet _)
  | opening => exact moduleFault_unbonded (.inr (.inr h)) ▸ quiet _ (requestPass_quiet _)
  | ramping => exact moduleFault_ramping h ▸ quiet _ (narrowed_quiet ..)
  | bonded =>
    rw [moduleFault_bonded h]
    generalize (s.module c m).bay.getD 0 = b
    have hnarrow := narrowed_quiet b c m .bonded (clipSetpoint b (faulted c m s))
    refine ⟨(clipSetpoint_ripple ..).trans (hnarrow.ripple.trans (examineRaises_ripple _)), ?_⟩
    rw [(BondsOnly.examineRaises _).sessions, hnarrow.power.sessions, (clipSetpoint_bondsOnly ..).sessions]
    rfl

theorem moduleFault_requested (h : (s.module c m).state = .free ∨ (s.module c m).state = .closing ∨
    (s.module c m).state = .bonded ∨ (s.module c m).state = .ramping ∨ (s.module c m).state = .opening) :
    Requested s (moduleFault c m s) := by
  have plain : Requested s (requestPass (faulted c m s)) := requestPass_requested (faulted c m s)
  rcases h with h | h | h | h | h
  · exact moduleFault_unbonded (.inl h) ▸ plain
  · exact moduleFault_unbonded (.inr (.inl h)) ▸ plain
  · rw [moduleFault_bonded h]
    have hclip := PassKept.ofAlloc (clipSetpoint_ripple _ _)
      (clipSetpoint_bondsOnly ((s.module c m).bay.getD 0) (faulted c m s)).alloc
    exact (hclip.requested (narrowed_requested _ _ _ _ _)).kept (examineRaises_kept _)
  · exact moduleFault_ramping h ▸ narrowed_requested _ _ _ _ _
  · exact moduleFault_unbonded (.inr (.inr h)) ▸ plain

/-- Only a BONDED module's fault touches a setpoint or a link. -/
theorem moduleFault_power (hf : (s.module c m).state ≠ .faulted) (hb : (s.module c m).state ≠ .bonded) :
    PowerAs (faulted c m s) (moduleFault c m s) := by
  cases h : (s.module c m).state with
  | faulted => exact absurd h hf
  | bonded => exact absurd h hb
  | absent => exact moduleFault_unused (.inl h) ▸ .mk rfl rfl rfl
  | unknown => exact moduleFault_unused (.inr h) ▸ .mk rfl rfl rfl
  | free => exact moduleFault_unbonded (.inl h) ▸ (requestPass_quiet _).power
  | closing => exact moduleFault_unbonded (.inr (.inl h)) ▸ (requestPass_quiet _).power
  | opening => exact moduleFault_unbonded (.inr (.inr h)) ▸ (requestPass_quiet _).power
  | ramping => exact moduleFault_ramping h ▸ (narrowed_quiet ..).power

/-- The bay of a BONDED module has its setpoint clipped, and the raise waiting list is examined. -/
theorem moduleFault_bonded_power {b : Nat} (h : (s.module c m).state = .bonded) (hb : (s.module c m).bay = some b) :
    PowerAs (examineRaises (clipSetpoint b (faulted c m s))) (moduleFault c m s) := by
  rw [moduleFault_bonded h, hb]
  exact (Alike.ofQuiet (narrowed_quiet ..)).examineRaises.power

/-- NARROW is the one notice of a module fault; its setpoint is that after the clip (R122). -/
theorem moduleFault_order : (moduleFault c m s).order =
    noticed (narrowNotices c m s (moduleFault c m s)) s.order := by
  have none : (s.module c m).state ≠ .bonded → (s.module c m).state ≠ .ramping →
      (moduleFault c m s).order = s.order →
      (moduleFault c m s).order = noticed (narrowNotices c m s (moduleFault c m s)) s.order := by
    intro h1 h2 ho
    unfold narrowNotices
    dsimp only
    rw [if_neg h1, if_neg h2]
    exact ho
  cases h : (s.module c m).state with
  | faulted => exact none (by simp [h]) (by simp [h]) (by rw [moduleFault_faulted h])
  | absent => exact none (by simp [h]) (by simp [h]) (by rw [moduleFault_unused (.inl h)]; rfl)
  | unknown => exact none (by simp [h]) (by simp [h]) (by rw [moduleFault_unused (.inr h)]; rfl)
  | free => exact none (by simp [h]) (by simp [h]) (by rw [moduleFault_unbonded (.inl h), requestPass_order]; rfl)
  | closing =>
    exact none (by simp [h]) (by simp [h]) (by rw [moduleFault_unbonded (.inr (.inl h)), requestPass_order]; rfl)
  | opening =>
    exact none (by simp [h]) (by simp [h]) (by rw [moduleFault_unbonded (.inr (.inr h)), requestPass_order]; rfl)
  | ramping =>
    have hcount := fun b => bonded_of_ripple (moduleFault_ripple (c := c) (m := m) (s := s) (by simp [h])).1 b
    unfold narrowNotices
    dsimp only
    rw [if_neg (by simp [h]), if_pos h, hcount, moduleFault_ramping h, narrowed_order, h]
    rfl
  | bonded =>
    have hcount := fun b => bonded_of_ripple (moduleFault_ripple (c := c) (m := m) (s := s) (by simp [h])).1 b
    have hclip := fun b => bonded_of_ripple (clipSetpoint_ripple b (faulted c m s)) b
    have horder := fun b => congrArg State.order (clipSetpoint_bondsOnly b (faulted c m s)).rest
    unfold narrowNotices
    dsimp only
    rw [if_pos h, hcount, moduleFault_bonded h, (BondsOnly.examineRaises _).rest]
    refine (narrowed_order ..).trans ?_
    rw [hclip, clipSetpoint_commanded, h, horder]
    rfl

end

end Sys2Proof.Machine
end

section
/-! MODULE REPORT failed (R117), and O46. -/

namespace Sys2Proof.Machine

section
variable {c m : Nat} {s : State}

/-- A module fault leaves the fault unit and the clock (R121). -/
theorem moduleFault_frame : (moduleFault c m s).faults = s.faults ∧ (moduleFault c m s).clock = s.clock := by
  by_cases h : (s.module c m).state = .faulted
  · rw [moduleFault_faulted h]
    exact ⟨rfl, rfl⟩
  · obtain ⟨hr, -⟩ := moduleFault_ripple h
    exact ⟨hr.faults, hr.clock⟩

theorem moduleFault_module (hc : validCab c = true) (hm : validModule m = true) :
    ((moduleFault c m s).module c m).state = .faulted := by
  by_cases h : (s.module c m).state = .faulted
  · rw [moduleFault_faulted h, h]
  · rw [module_of_ripple (moduleFault_ripple h).1, faulted, module_putModule _ _ _ _ _ _ hc hm, if_pos ⟨rfl, rfl⟩]

/-- A BONDED module that fails is one less of its bay. -/
theorem bonded_moduleFault {b : Nat} (hb : validBay b = true) (hm : validModule m = true)
    (h : (s.module (cabOf b) m).state = .bonded) (hbay : (s.module (cabOf b) m).bay = some b) :
    bonded (moduleFault (cabOf b) m s) b + 1 = bonded s b := by
  have hn := bonded_putModule_eq hb hm ⟨.faulted, none, none⟩ s
  have hin : s.inState b .bonded m = true := inState_iff.mpr ⟨h, hbay⟩
  rw [bonded_of_ripple (moduleFault_ripple (by simp [h])).1, faulted]
  simpa [hin] using hn

/-- The examination raises no bay above what its modules carry. -/
theorem examineRaises_carried {b : Nat} (h : (s.power b).commanded ≤ 300 * bonded s b) :
    ((examineRaises s).power b).commanded ≤ 300 * bonded (examineRaises s) b := by
  rw [bonded_of_ripple (examineRaises_ripple s)]
  by_cases hr : (s.power b).commanded < ((examineRaises s).power b).commanded
  · exact Nat.le_trans ((examineRaises_examined s).raised b hr).1 (Nat.min_le_right ..)
  · exact Nat.le_trans (Nat.not_lt.mp hr) h

theorem moduleFault_carried {b : Nat} (h : (s.module c m).state = .bonded) (hbay : (s.module c m).bay = some b) :
    ((moduleFault c m s).power b).commanded ≤ 300 * bonded (moduleFault c m s) b := by
  have hbond := (moduleFault_bonded_power h hbay).bond
  have hclip : ((clipSetpoint b (faulted c m s)).power b).commanded ≤
      300 * bonded (clipSetpoint b (faulted c m s)) b := by
    rw [bonded_of_ripple (clipSetpoint_ripple ..), clipSetpoint_commanded]
    exact Nat.min_le_right ..
  have hraised := examineRaises_carried hclip
  unfold bonded modulesOf State.power State.module at hraised ⊢
  rw [hbond]
  exact hraised

/-! ### The fault unit is handed MODULE_FAIL (R117) -/

/-- The record of a module that failed, once the bond controller has acted on it. -/
def failRecorded (c m : Nat) (s : State) : State :=
  putCabFaults c (((moduleFault c m s).cabFaults c).recorded ⟨.moduleFail, ⟨.module, m⟩⟩) (moduleFault c m s)

theorem moduleFailed_eq : moduleFailed c m s = { evaluateAlarm (failRecorded c m s) with
    order := noticed (faultNotices c .moduleFail ⟨.module, m⟩ (moduleFault c m s) (evaluateAlarm (failRecorded c m s)))
      (moduleFault c m s).order } := takeFault_eq rfl rfl rfl

theorem moduleFailed_power : PowerAs (moduleFault c m s) (moduleFailed c m s) := by
  obtain ⟨hs, hb, hl⟩ := evaluateAlarm_power (failRecorded c m s)
  rw [moduleFailed_eq]
  exact ⟨hs, hb, hl⟩

theorem moduleFailed_recorded (hc : validCab c = true) : (moduleFailed c m s).cabFaults c =
    (s.cabFaults c).recorded ⟨.moduleFail, ⟨.module, m⟩⟩ := by
  have hf : (moduleFault c m s).cabFaults c = s.cabFaults c := by
    unfold State.cabFaults
    rw [moduleFault_frame.1]
  have hr : (moduleFailed c m s).cabFaults c = (failRecorded c m s).cabFaults c := by
    have ha := evaluateAlarm_faults (failRecorded c m s)
    rw [moduleFailed_eq]
    refine (congrArg (fun f : FaultUnit => get1 f.cabinets CabinetFaults.reset c) ha).trans ?_
    rfl
  rw [hr, failRecorded, cabFaults_putCabFaults_self hc, hf]

/-- NARROW, where a BONDED or RAMPING module failed, and then FAULT. -/
theorem moduleFailed_order : (moduleFailed c m s).order =
    noticed (narrowNotices c m s (moduleFailed c m s) ++
      faultNotices c .moduleFail ⟨.module, m⟩ s (moduleFailed c m s)) s.order := by
  obtain ⟨hfaults, hclock⟩ := moduleFault_frame (c := c) (m := m) (s := s)
  have hbond := (moduleFailed_power (c := c) (m := m) (s := s)).bond
  have hnarrow : narrowNotices c m s (moduleFailed c m s) = narrowNotices c m s (moduleFault c m s) := by
    unfold narrowNotices bonded modulesOf State.module
    rw [hbond]
  have hfault : faultNotices c .moduleFail ⟨.module, m⟩ s (moduleFailed c m s) = faultNotices c .moduleFail
      ⟨.module, m⟩ (moduleFault c m s) (evaluateAlarm (failRecorded c m s)) := by
    rw [moduleFailed_eq]
    unfold faultNotices State.cabFaults
    rw [hfaults, hclock]
    rfl
  rw [noticed_append, hnarrow, ← moduleFault_order, hfault, moduleFailed_eq]

theorem moduleFailed_requested (h : Requested s (moduleFault c m s)) : Requested s (moduleFailed c m s) := by
  refine h.kept (.same ?_ ?_)
  · rw [moduleFailed_eq]
    exact evaluateAlarm_alloc _
  · obtain ⟨lines, he, -⟩ := evaluateAlarm_eq (failRecorded c m s)
    rw [moduleFailed_eq, he]
    rfl

end

end Sys2Proof.Machine

open Sys2Proof Sys2Proof.Machine

/-- Settles O46: the reports by their kind and the module's state, the module fault by that state, and the waiting list
by the bays that its entries seat. -/
theorem moduleReportsMoveModules : Obligations.ModuleReportsMoveModules := by
  refine ⟨fun c m s hc hm => ⟨fun hn res hr => exec_moduleReport_discarded hc hm hn hr, fun hu ha => ?_⟩,
    fun c n s hc hn => ⟨moduleFault_faulted, moduleFault_ripple, moduleFault_unused, moduleFault_requested,
      fun hf hb => ?_, fun b h hbay hcab hb => ?_⟩,
    fun c s hc => ⟨serveBonds_stopped, fun hs => ?_⟩⟩
  · obtain ⟨hopened, hclosed, hfailed⟩ := exec_moduleReport_taken hc hm hu ha
    rw [hopened, hclosed, hfailed]
    refine ⟨fun h1 h2 => congrArg Host.Outcome.next (moduleOpened_none h1 h2),
      fun h => congrArg Host.Outcome.next (moduleClosed_none h), fun h hi => congrArg Host.Outcome.next ?_,
      fun e rest h hl hs hfree => congrArg Host.Outcome.next ?_, fun h => ?_, fun b h hbay hcab => ?_, ?_⟩
    · rw [moduleOpened_opening (s := goodFrame c s) h]
      rcases hi with hi | hi
      · exact serveBonds_idle (.inl hi)
      · exact serveBonds_stopped hi
    · rw [moduleOpened_opening (s := goodFrame c s) h]
      exact serveBonds_freed hc hm ((goodFrame_state hc s).1.trans hu) hl hs hfree
    · obtain ⟨hreq, hrest⟩ := moduleOpened_closing_effect hc hm (s := goodFrame c s) h
      exact ⟨_, rfl, hreq, hrest⟩
    · subst hcab
      have hb := validBay_of_cabOf hc
      obtain ⟨hripple, hreq, horder, hpower⟩ := moduleClosed_effect (s := goodFrame (cabOf b) s) h hbay
      have hself : (putModule (cabOf b) m.toNat ⟨.bonded, some b, none⟩ (goodFrame (cabOf b) s)).module (cabOf b)
          m.toNat = ⟨.bonded, some b, none⟩ := (module_putModule _ _ _ _ _ _ hc hm).trans (if_pos ⟨rfl, rfl⟩)
      have hmodule := fun k hk => (module_of_ripple hripple (cabOf b) k).trans (releaseExcess_module hb hk _)
      refine ⟨_, hripple, rfl, hreq, horder, ?_, ?_, ?_, hpower, hmodule⟩
      · rw [bonded_of_ripple hripple]
        exact bonded_releaseExcess hb _
      · rw [hmodule _ hm, hself]
        split
        · exact .inr rfl
        · exact .inl rfl
      · rw [hmodule _ hm, hself]
        split <;> rfl
    · have hpower := moduleFailed_power (c := c) (m := m.toNat) (s := goodFrame c s)
      have hmodule : ∀ k, (moduleFailed c m.toNat (goodFrame c s)).module c k =
          (moduleFault c m.toNat (goodFrame c s)).module c k := fun k => by
        unfold State.module
        rw [hpower.bond]
      refine ⟨_, rfl, ?_, ?_, moduleFailed_order (s := goodFrame c s), fun b h hbay hcab => ?_, fun h => ?_, hpower⟩
      · rw [hmodule]
        exact moduleFault_module hc hm
      · rw [moduleFailed_recorded hc]
        rfl
      · subst hcab
        have hb := validBay_of_cabOf hc
        have hless := bonded_moduleFault (s := goodFrame (cabOf b) s) hb hm h hbay
        have hcarried := moduleFault_carried (s := goodFrame (cabOf b) s) h hbay
        unfold bonded modulesOf State.power State.module at *
        rw [hpower.bond]
        exact ⟨hless, hcarried⟩
      · exact moduleFailed_requested (s := goodFrame c s) (moduleFault_requested h)
  · obtain ⟨-, hbond, hlinks⟩ := moduleFault_power hf hb
    exact ⟨hbond, hlinks⟩
  · subst hcab
    have hpower := moduleFault_bonded_power h hbay
    unfold clipSetpoint at hpower
    rw [reduce_eq hb] at hpower
    exact hpower
  · have h := serveBonds_seatedOut hc hs
    refine ⟨h.seated.rest, h.seats, fun k n _ _ => (h.seated.module k n).trans ?_⟩
    by_cases hk : k = c
    · rw [if_pos hk, if_pos hk]
      rfl
    · rw [if_neg hk, if_neg hk]
end
